-- ==== Sys2Proof/Word.lean ====
section
/-! DEFINITION. The word types of the Melfard 2140's payloads, codes and pins. -/

namespace Sys2Proof

/-- A byte of the link, of the sensor bus or of the retained store. -/
abbrev Byte := BitVec 8

/-- A two-byte field, sent high byte first (R126, R183). -/
abbrev Half := BitVec 16

/-- A four-byte field, sent high byte first (R189). -/
abbrev Word := BitVec 32

/-- A code of the 12-bit converter (chapter "Air streams and measurement", SAMPLING). -/
abbrev Code := BitVec 12

end Sys2Proof
end

