-- ==== Sys2Proof/Syntax.lean ====
section
/-! DEFINITION. The named values of the manual that commands and state share, and the commands: one constructor of
`Instr` for each row of spec/opcode_table.json. -/

namespace Sys2Proof

/-- The two air streams. A fan loop, a fan and a filter are named by their stream (NAMES, suffix S or E). -/
inductive Stream where
  | supply | extract
  deriving DecidableEq, Repr

/-- The six channels, in the channel order of R14. -/
inductive Channel where
  | tOut | tSup | tExt | tExh | dpS | dpE
  deriving DecidableEq, Repr

/-- The six auxiliary lines AUX1 to AUX6. -/
inductive Line where
  | aux1 | aux2 | aux3 | aux4 | aux5 | aux6
  deriving DecidableEq, Repr

/-- The eight slots of the slot table. -/
inductive Slot where
  | s1 | s2 | s3 | s4 | s5 | s6 | s7 | s8
  deriving DecidableEq, Repr

/-- A pin level (R159). -/
inductive PinLevel where
  | high | low
  deriving DecidableEq, Repr

/-- One value for each stream. -/
structure PerStream (α : Type) where
  supply : α
  extract : α
  deriving DecidableEq, Repr

/-- One value for each channel. -/
structure PerChannel (α : Type) where
  tOut : α
  tSup : α
  tExt : α
  tExh : α
  dpS : α
  dpE : α
  deriving DecidableEq, Repr

/-- One value for each auxiliary line. -/
structure PerLine (α : Type) where
  aux1 : α
  aux2 : α
  aux3 : α
  aux4 : α
  aux5 : α
  aux6 : α
  deriving DecidableEq, Repr

/-- One value for each slot. -/
structure PerSlot (α : Type) where
  s1 : α
  s2 : α
  s3 : α
  s4 : α
  s5 : α
  s6 : α
  s7 : α
  s8 : α
  deriving DecidableEq, Repr

/-- A byte received on the sensor bus, with whether its stop bit was at the idle level (R125). -/
structure BusByte where
  value : Byte
  stopGood : Bool
  deriving DecidableEq, Repr

/-- The commands of spec/opcode_table.json. The fields of a request row are the payload fields of R190 with the widths
of R189, so that a value outside its range can be sent and is refused by the row's own rule. -/
inductive Instr where
  /-- POWER_UP, R198. -/
  | powerUp
  /-- RESET_LINE, R198. `saveTouched`: a save the reset cuts short had changed a byte of its bank (R197). -/
  | resetLine (saveTouched : Bool)
  /-- SAMPLE_EVENT, R1, R2: the codes the converter returned. -/
  | sampleEvent (codes : PerChannel Code)
  /-- SECOND_END, R6. -/
  | secondEnd
  /-- TACH_EDGE, R21: a rising edge of the fan's tachometer, `time` in µs since the end of the last reset. -/
  | tachEdge (fan : Stream) (time : Nat)
  /-- WINDOW_END, R29. -/
  | windowEnd (fan : Stream)
  /-- EXHAUSTION_SIGNAL, R88. -/
  | exhaustionSignal
  /-- FROST_PERIOD, R74. -/
  | frostPeriod
  /-- HTO_ON_TIME_END, R77. -/
  | htoOnTimeEnd
  /-- DEFROST_MAXIMUM_EXPIRY, R88. -/
  | defrostMaximumExpiry
  /-- STOP_TIMER_EXPIRY, R91. -/
  | stopTimerExpiry
  /-- DEMAND_SECOND, R56. -/
  | demandSecond
  /-- HOST_BOOST_EXPIRY, R56. -/
  | hostBoostExpiry
  /-- PULL_SWITCH_TIMER_EXPIRY, R57. -/
  | pullSwitchTimerExpiry
  /-- SILENCE_EXPIRY, R63. -/
  | silenceExpiry
  /-- FILTER_MINUTE, R103. -/
  | filterMinute
  /-- REWRITE_END, R100. -/
  | rewriteEnd
  /-- CAPTURE_WAIT_TIMEOUT, R115. -/
  | captureWaitTimeout
  /-- CAPTURE_RUN_END, R117. -/
  | captureRunEnd
  /-- LOCK_OUT_EXPIRY, R119. -/
  | lockOutExpiry (fan : Stream)
  /-- POLL_PERIOD_START, R127. -/
  | pollPeriodStart
  /-- POLL, R129. -/
  | poll
  /-- ANSWER_COMPLETE, R129: the bytes, received in this order, that complete the answer. -/
  | answerComplete (bytes : List BusByte)
  /-- ANSWER_WINDOW_CLOSE, R129. -/
  | answerWindowClose
  /-- HOLD_EXPIRY, R134. -/
  | holdExpiry (slot : Slot)
  /-- HUMIDITY_MINUTE, R144. -/
  | humidityMinute
  /-- AUX_SAMPLE_EVENT, R160: the pin level of every line. -/
  | auxSampleEvent (pins : PerLine PinLevel)
  /-- RESET_SECOND_TICK, R171. -/
  | resetSecondTick
  /-- FRAME_RECEIVED, R186: the kind, tag, flags and payload of a valid frame. -/
  | frameReceived (kind tag flags : Byte) (payload : List Byte)
  /-- FRAME_DISCARD, R185. -/
  | frameDiscard
  /-- FRAME_GAP_TIMEOUT, R184. -/
  | frameGapTimeout
  /-- HUNT_TIMEOUT, R184. -/
  | huntTimeout
  /-- TRANSMIT_END, R187. -/
  | transmitEnd
  /-- TRACE_DUE, R192. -/
  | traceDue
  /-- STATE_READ, R190. -/
  | stateRead (page : Byte)
  /-- FAN_READ, R41. -/
  | fanRead (fan : Byte)
  /-- LEVEL_SET, R48. -/
  | levelSet (level : Byte)
  /-- BOOST, R55. -/
  | boost (flow : Half) (minutes : Byte)
  /-- HOLD_TAKE, R61. -/
  | holdTake (flow : Half)
  /-- RESUME, R53. -/
  | resume
  /-- FILTER_READ, R123. -/
  | filterRead (filter : Byte)
  /-- FILTER_CHANGED, R114. -/
  | filterChanged (filter : Byte)
  /-- NODE_ENROL, R137. -/
  | nodeEnrol (address kind : Byte)
  /-- NODE_DROP, R139. -/
  | nodeDrop (slot : Byte)
  /-- NODE_READ, R141. -/
  | nodeRead (slot : Byte)
  /-- LINE_SET, R168. -/
  | lineSet (line function polarity edge : Byte)
  /-- LINE_WRITE, R167. -/
  | lineWrite (line value : Byte)
  /-- LINE_READ, R169. -/
  | lineRead (line : Byte)
  /-- NOTICES_TAKE, R179. -/
  | noticesTake
  /-- FLAGS_READ, R172. -/
  | flagsRead
  /-- FLAGS_CLEAR, R174. -/
  | flagsClear (kinds : Word)
  /-- EVENT_SET, R175. -/
  | eventSet (code enable level : Byte)
  /-- THRESHOLD_SET, R181. -/
  | thresholdSet (threshold : Byte)
  /-- TRACE_SET, R192. -/
  | traceSet (period : Byte)
  /-- INJECT_CHANNEL, R15. -/
  | injectChannel (channel count : Byte)
  /-- INJECT_SLOT, R136. -/
  | injectSlot (slot count : Byte)
  /-- SETTING_WRITE, R195. -/
  | settingWrite (id : Half) (value : Word)
  /-- SETTING_READ, R195. -/
  | settingRead (id : Half)
  /-- SETTINGS_SAVE, R196. -/
  | settingsSave
  /-- SAVE_COMPLETE, R196. -/
  | saveComplete
  /-- START_REPORT, R199. -/
  | startReport
  /-- RESTART, R200. -/
  | restart
  /-- RESTART_RESET, R200. -/
  | restartReset
  /-- LINK_BYTE_RECEIVED, R184. -/
  | linkByteReceived (byte : Byte) (stopGood : Bool)
  /-- SENSOR_BUS_BYTE_RECEIVED, R129. -/
  | sensorBusByteReceived (byte : Byte) (stopGood : Bool)
  /-- CORE_SUPPLY_LOSS, R102. `vbkHolds`: VBK keeps the retained store up. `written`: how many bytes of the image a
  rewrite in progress had written, the check words first. `saveTouched`: as in RESET_LINE. -/
  | coreSupplyLoss (vbkHolds : Bool) (written : Nat) (saveTouched : Bool)
  deriving DecidableEq, Repr

end Sys2Proof
end

