-- ==== Sys2Proof/Config.lean ====
section
/-! DEFINITION. The fixed figures of the part. None is a setting, and none is a free value: the spec leaves no value of
a command's result undefined. -/

namespace Sys2Proof.Config

/-- Start byte of a link frame (R183). -/
def linkStart : Byte := 0xC5
/-- Start byte of a sensor bus frame (R126). -/
def busStart : Byte := 0x96
/-- Kind byte of a POLL frame (R126). -/
def pollKind : Byte := 0x01
/-- Kind byte of a READING frame (R126). -/
def readingKind : Byte := 0x81
/-- Kind byte of a trace frame (R183). -/
def traceKind : Byte := 0xFE
/-- CRC-16 polynomial of the link, the banks and the retained store (R100, R183, R196). -/
def crc16Poly : BitVec 16 := 0x1021
/-- CRC-16 initial value (R183). -/
def crc16Init : BitVec 16 := 0xFFFF
/-- CRC-8 polynomial of the sensor bus (R126). -/
def crc8Poly : BitVec 8 := 0x2F
/-- CRC-8 initial value (R126). -/
def crc8Init : BitVec 8 := 0xFF
/-- The four check words of the retained store (R100). -/
def checkWords : List Half := [0x5A3C, 0xC3A5, 0x0FF0, 0x9669]
/-- The part code in the start report (R199). -/
def partCode : Half := 0x2140
/-- The revision in the start report (R199). -/
def revision : Byte := 1
/-- Edges closer than this to the previous accepted edge, in µs, are glitches (R21). -/
def glitchTime : Nat := 200
/-- The period of the auxiliary sample event, in ms (R160). -/
def auxSamplePeriod : Nat := 10
/-- One cubic metre in units of 10⁻⁴ L (R99). -/
def cubicMetre : Nat := 10000000
/-- Saturation of a filter's volume, in m³ (R99). -/
def maxVolume : Nat := 1000000
/-- Saturation of a filter's service minutes (R99). -/
def maxServiceMinutes : Nat := 1051200
/-- Saturation of the pending minutes (R106). -/
def maxPendingMinutes : Nat := 1440
/-- The most ordinary records the notice queue holds (R177). -/
def maxNotices : Nat := 15
/-- The time a held reading is kept after the last good time, in s (R134). -/
def holdTime : Nat := 600
/-- The span within which three frost stops report FROST REPEAT, in s (R90). -/
def repeatSpan : Nat := 21600
/-- The smoke-clear time RESUME asks for, in ms (R53). -/
def smokeClearTime : Nat := 5000
/-- The silence time of a hold, in ms (R63). -/
def silenceTime : Nat := 30000

end Sys2Proof.Config
end

