-- ==== Sys2Proof/Machine/State.lean ====
section
/-! DEFINITION. The state of the Melfard 2140 as plain data, block by block, and the state at the end of the reset the
machine starts from. Each structure's fields are those of its chapter; the rule that names a field stands beside it. -/

namespace Sys2Proof

/-! ### Access to the per-stream, per-channel, per-line and per-slot tables -/

def PerStream.get {α : Type} (p : PerStream α) : Stream → α
  | .supply => p.supply
  | .extract => p.extract

def PerStream.set {α : Type} (p : PerStream α) (x : Stream) (v : α) : PerStream α :=
  match x with
  | .supply => { p with supply := v }
  | .extract => { p with extract := v }

def PerChannel.get {α : Type} (p : PerChannel α) : Channel → α
  | .tOut => p.tOut
  | .tSup => p.tSup
  | .tExt => p.tExt
  | .tExh => p.tExh
  | .dpS => p.dpS
  | .dpE => p.dpE

def PerChannel.set {α : Type} (p : PerChannel α) (c : Channel) (v : α) : PerChannel α :=
  match c with
  | .tOut => { p with tOut := v }
  | .tSup => { p with tSup := v }
  | .tExt => { p with tExt := v }
  | .tExh => { p with tExh := v }
  | .dpS => { p with dpS := v }
  | .dpE => { p with dpE := v }

/-- Each channel's value replaced by a function of the channel and that value. -/
def PerChannel.update {α β : Type} (p : PerChannel α) (f : Channel → α → β) : PerChannel β :=
  { tOut := f .tOut p.tOut, tSup := f .tSup p.tSup, tExt := f .tExt p.tExt, tExh := f .tExh p.tExh,
    dpS := f .dpS p.dpS, dpE := f .dpE p.dpE }

def PerLine.get {α : Type} (p : PerLine α) : Line → α
  | .aux1 => p.aux1
  | .aux2 => p.aux2
  | .aux3 => p.aux3
  | .aux4 => p.aux4
  | .aux5 => p.aux5
  | .aux6 => p.aux6

def PerLine.set {α : Type} (p : PerLine α) (l : Line) (v : α) : PerLine α :=
  match l with
  | .aux1 => { p with aux1 := v }
  | .aux2 => { p with aux2 := v }
  | .aux3 => { p with aux3 := v }
  | .aux4 => { p with aux4 := v }
  | .aux5 => { p with aux5 := v }
  | .aux6 => { p with aux6 := v }

/-- Each line's value replaced by a function of the line and that value. -/
def PerLine.update {α β : Type} (p : PerLine α) (f : Line → α → β) : PerLine β :=
  { aux1 := f .aux1 p.aux1, aux2 := f .aux2 p.aux2, aux3 := f .aux3 p.aux3, aux4 := f .aux4 p.aux4,
    aux5 := f .aux5 p.aux5, aux6 := f .aux6 p.aux6 }

def PerLine.const {α : Type} (v : α) : PerLine α :=
  { aux1 := v, aux2 := v, aux3 := v, aux4 := v, aux5 := v, aux6 := v }

def PerSlot.get {α : Type} (p : PerSlot α) : Slot → α
  | .s1 => p.s1
  | .s2 => p.s2
  | .s3 => p.s3
  | .s4 => p.s4
  | .s5 => p.s5
  | .s6 => p.s6
  | .s7 => p.s7
  | .s8 => p.s8

def PerSlot.set {α : Type} (p : PerSlot α) (k : Slot) (v : α) : PerSlot α :=
  match k with
  | .s1 => { p with s1 := v }
  | .s2 => { p with s2 := v }
  | .s3 => { p with s3 := v }
  | .s4 => { p with s4 := v }
  | .s5 => { p with s5 := v }
  | .s6 => { p with s6 := v }
  | .s7 => { p with s7 := v }
  | .s8 => { p with s8 := v }

/-- Each slot's value replaced by a function of the slot and that value. -/
def PerSlot.update {α β : Type} (p : PerSlot α) (f : Slot → α → β) : PerSlot β :=
  { s1 := f .s1 p.s1, s2 := f .s2 p.s2, s3 := f .s3 p.s3, s4 := f .s4 p.s4, s5 := f .s5 p.s5, s6 := f .s6 p.s6,
    s7 := f .s7 p.s7, s8 := f .s8 p.s8 }

def PerSlot.const {α : Type} (v : α) : PerSlot α :=
  { s1 := v, s2 := v, s3 := v, s4 := v, s5 := v, s6 := v, s7 := v, s8 := v }

/-- The channels in the order of R14. -/
def Channel.all : List Channel := [.tOut, .tSup, .tExt, .tExh, .dpS, .dpE]

/-- The lines in the order of R160. -/
def Line.all : List Line := [.aux1, .aux2, .aux3, .aux4, .aux5, .aux6]

/-- The slots in rising order. -/
def Slot.all : List Slot := [.s1, .s2, .s3, .s4, .s5, .s6, .s7, .s8]

namespace Machine

/-! ### Named values -/

/-- CHANNEL STATES. -/
inductive ChannelState where
  | valid | suspect | failed
  deriving DecidableEq, Repr

/-- The fault causes of a sample (R2, R3, R5). -/
inductive FaultCause where
  | none | short | open_ | under | over | injected
  deriving DecidableEq, Repr

/-- LOOP STATES. -/
inductive LoopState where
  | stopped | starting | settling | locked | unlocked | stalled | failed
  deriving DecidableEq, Repr

/-- The lock-band setting (R28). -/
inductive LockBand where
  | narrow | normal | wide | off
  deriving DecidableEq, Repr

/-- RUN STATE (R46). -/
inductive RunState where
  | startup | run | rest | frostStop | smokeStop | faultStop
  deriving DecidableEq, Repr

/-- The level selection (R54). -/
inductive Level where
  | off | away | low | normal | high
  deriving DecidableEq, Repr

/-- FROST STATES (chapter "Frost guard"). -/
inductive FrostMode where
  | idle | watch | preheat | defrost | frostStop | blind
  deriving DecidableEq, Repr

/-- Service state of a filter record (R99). -/
inductive Service where
  | good | dueSoon | due | overdue | unknown
  deriving DecidableEq, Repr

/-- State of the baseline capture (R113). -/
inductive CaptureState where
  | none | wait | run
  deriving DecidableEq, Repr

/-- Cause of a capture abort (R120). -/
inductive CaptureCause where
  | runState | frost | sensor | timeout | lock | noSamples
  deriving DecidableEq, Repr

/-- Cause of a hold release (R64). -/
inductive HoldCause where
  | mark | silence | frost | runState
  deriving DecidableEq, Repr

/-- Cause of a LINK ERROR (chapter "Events and the notice queue"). -/
inductive LinkCause where
  | discard | overrun
  deriving DecidableEq, Repr

/-- Verdict on the retained store (R101). -/
inductive RetainedVerdict where
  | retained | lost
  deriving DecidableEq, Repr

/-- Verdict on the settings (R197). -/
inductive SettingsVerdict where
  | loaded | defaulted
  deriving DecidableEq, Repr

/-- RESET KINDS (R198). -/
inductive ResetKind where
  | powerUp | resetLine | restart
  deriving DecidableEq, Repr

/-- Room kinds (THE SLOT TABLE). -/
inductive RoomKind where
  | kitchen | bath | utility | wc | habitable
  deriving DecidableEq, Repr

/-- SLOT STATES. -/
inductive SlotState where
  | empty | enrolling | active | silent | faulty
  deriving DecidableEq, Repr

/-- Outcome of a slot's latest poll (R130). -/
inductive PollOutcome where
  | none | good | noAnswer | framing | check | wrongAddress
  deriving DecidableEq, Repr

/-- State of a boost record (THE BOOST RECORD). -/
inductive BoostState where
  | quiet | boost | runOn
  deriving DecidableEq, Repr

/-- Line functions (THE LINE TABLE). -/
inductive LineFunction where
  | generalIn | pullSwitch | smokeInput | generalOut | alarmOut | filterLamp | heaterEnable
  deriving DecidableEq, Repr

inductive Polarity where
  | activeHigh | activeLow
  deriving DecidableEq, Repr

/-- Edge selection (R159). -/
inductive EdgeSelection where
  | none | rising | falling | both
  deriving DecidableEq, Repr

/-- Reply statuses (R188). -/
inductive Status where
  | done | busy | range | state | unknown | length
  deriving DecidableEq, Repr

/-- The 25 event kinds, in the order of their codes (EVENT KINDS). -/
inductive EventKind where
  | fanFail | sensorFailed | filterBlocked | frostBlind | smokeStop | lineFault | settingsDefaulted
  | fanLockLost | fanStall | frostState | frostRepeat | allowanceExhausted | filterDue | captureDone
  | captureAborted | retainedLost | nodeSilent | nodeFaulty | enrolFailed | addressClash | humidBoost
  | lineEdge | holdReleased | saveDone | linkError
  deriving DecidableEq, Repr

/-- The source of an occurrence (R176, R180). -/
inductive Source where
  | none
  | fan (x : Stream)
  | filter (x : Stream)
  | channel (c : Channel)
  | slot (k : Slot)
  | line (l : Line)
  | frost (m : FrostMode)
  | hold (c : HoldCause)
  | capture (c : CaptureCause)
  | link (c : LinkCause)
  deriving DecidableEq, Repr

/-! ### Settings -/

/-- LOOP SETTINGS: one loop's own settings. -/
structure LoopSettings where
  window : Nat
  pulses : Nat
  kn : Nat
  kp : Nat
  smax : Nat
  gain : Nat
  dmin : Nat
  startDrive : Nat
  deriving DecidableEq, Repr

/-- A slot's entry in the working set (R138). -/
structure SlotEntry where
  address : Nat
  kind : RoomKind
  deriving DecidableEq, Repr

/-- A line's configuration (R159). -/
structure LineConfig where
  function : LineFunction
  polarity : Polarity
  edge : EdgeSelection
  deriving DecidableEq, Repr

/-- THE SETTINGS TABLE: one whole set of settings, a working set or an image of one (R195, R196). -/
structure Settings where
  loops : PerStream LoopSettings
  lockBand : LockBand
  awayFlow : Nat
  lowFlow : Nat
  normalFlow : Nat
  highFlow : Nat
  startLevel : Level
  switchTime : Nat
  fMin : Nat
  fMax : Nat
  offset : Int
  balanceBand : Nat
  aMax : Nat
  aEnter : Nat
  recovery : Nat
  tWatch : Int
  tFrost : Int
  tRelease : Int
  hMax : Nat
  fHmin : Nat
  reduction : Nat
  defrostMax : Nat
  stopTime : Nat
  effFloor : Nat
  fRef : Nat
  ratedVolume : Nat
  serviceLimit : Nat
  blockLimit : Nat
  pollPeriod : Nat
  slots : PerSlot (Option SlotEntry)
  humidBase : Nat
  coldSlope : Nat
  riseThreshold : Nat
  boostMax : Nat
  runOnTime : Nat
  kitchenInc : Nat
  bathInc : Nat
  utilityInc : Nat
  wcInc : Nat
  habitableInc : Nat
  humidCeiling : Nat
  lines : PerLine LineConfig
  /-- Bit k − 1 set: the kind of code k is ENABLED (R175). -/
  enables : BitVec 25
  threshold : Nat
  /-- The level of the kind of code k stands at place k − 1 (R175). -/
  levels : Vector (BitVec 3) 25
  deriving DecidableEq, Repr

/-- The default of each loop setting. -/
def LoopSettings.defaults : LoopSettings :=
  { window := 500, pulses := 2, kn := 300, kp := 32, smax := 3600, gain := 64, dmin := 80, startDrive := 350 }

/-- The default of each setting (THE SETTINGS TABLE). -/
def Settings.defaults : Settings :=
  { loops := { supply := LoopSettings.defaults, extract := LoopSettings.defaults }
    lockBand := .normal
    awayFlow := 200, lowFlow := 300, normalFlow := 450, highFlow := 700
    startLevel := .normal, switchTime := 20, fMin := 150, fMax := 1200
    offset := 0, balanceBand := 30, aMax := 20000, aEnter := 5000, recovery := 10
    tWatch := 30, tFrost := 10, tRelease := 40, hMax := 1000, fHmin := 150, reduction := 30
    defrostMax := 300, stopTime := 900, effFloor := 550
    fRef := 500, ratedVolume := 40000, serviceLimit := 365, blockLimit := 250
    pollPeriod := 4, slots := PerSlot.const none
    humidBase := 700, coldSlope := 10, riseThreshold := 50, boostMax := 90, runOnTime := 15
    kitchenInc := 130, bathInc := 80, utilityInc := 80, wcInc := 60, habitableInc := 0, humidCeiling := 700
    lines := PerLine.const { function := .generalIn, polarity := .activeHigh, edge := .none }
    enables := BitVec.allOnes 25, threshold := 3
    levels := #v[6, 6, 6, 6, 6, 6, 6, 2, 2, 2, 2, 2, 2, 2, 2, 2, 2, 2, 2, 2, 2, 2, 2, 2, 2] }

/-! ### The blocks -/

/-- One channel of the measurement unit. -/
structure ChannelRec where
  state : ChannelState
  /-- The value other blocks see: present in VALID, held in SUSPECT, absent in FAILED. -/
  value : Option Int
  /-- The last value, kept through FAILED. -/
  last : Option Int
  lastFault : FaultCause
  /-- The first-value mark (R8). -/
  first : Bool
  badSeconds : Nat
  recovery : Nat
  injection : Nat
  /-- The last fault as the latest second end left it, which STATE READ shows (R18, log 49). -/
  shownFault : FaultCause
  /-- The injection count as the latest second end left it, which STATE READ shows (R18, log 49). -/
  shownInjection : Nat
  /-- Account of the second: sum of its good values (R6). -/
  sum : Int
  /-- Account of the second: number of its bad samples (R6). -/
  bad : Nat
  deriving DecidableEq, Repr

/-- The measurement unit. -/
structure Measurement where
  channels : PerChannel ChannelRec
  effectiveness : Option Nat
  fresh : Bool
  /-- The heater-quiet count (R16). -/
  quiet : Nat
  /-- The sample events of the measurement second in progress (R1). -/
  samples : Nat
  deriving DecidableEq, Repr

/-- One fan loop. -/
structure LoopRec where
  state : LoopState
  drive : Nat
  offered : Nat
  taken : Nat
  /-- The speed target S_t, which becomes 0 at a target-0 event too (R24). -/
  speedTarget : Nat
  /-- The S_t of the latest window end, which FAN READ shows (R41, log 42). -/
  shownTarget : Nat
  speed : Nat
  n : Nat
  d : Nat
  /-- The flow estimate F_e (R27). -/
  flow : Nat
  band : Nat
  atCeiling : Bool
  latch : Bool
  stallCount : Nat
  inBand : Nat
  outBand : Nat
  settling : Nat
  noEdge : Nat
  startTime : Nat
  pauseTime : Nat
  /-- The fail-report mark (R43). -/
  failReport : Bool
  /-- Ended-window length (R20). -/
  ended : Nat
  /-- Length of the window in progress (R20). -/
  window : Nat
  /-- Edges accepted in the window in progress (R21). -/
  edges : Nat
  firstEdge : Nat
  span : Nat
  /-- Time of the previous accepted edge (R21). -/
  lastEdge : Option Nat
  deriving DecidableEq, Repr

/-- A present host boost record (R55). -/
structure HostBoost where
  flow : Nat
  seconds : Nat
  deriving DecidableEq, Repr

/-- The demand and run controller. -/
structure Demand where
  runState : RunState
  level : Level
  d : Nat
  boost : Option HostBoost
  pullTimer : Nat
  /-- H as last reported by the humidity response (R58). -/
  h : Nat
  /-- The controller's record of a capture in force (R58). -/
  captureInForce : Bool
  hold : Option Nat
  silence : Nat
  smokeClear : Nat
  smokeRunning : Bool
  smokeSource : Option Line
  /-- The SMOKE INPUT lines reported active and not yet inactive (R163). -/
  smokeActive : PerLine Bool
  deriving DecidableEq, Repr

/-- The balance governor. -/
structure Governor where
  tS : Nat
  tE : Nat
  allowance : Nat
  carry : Nat
  /-- R as last handed on by the frost guard. -/
  r : Nat
  deriving DecidableEq, Repr

/-- The frost guard. -/
structure FrostGuard where
  mode : FrostMode
  requested : Nat
  heaterOutput : Nat
  /-- Applied output of the heater cycle (R77). -/
  applied : Nat
  hto : Bool
  r : Nat
  cold : Nat
  warm : Nat
  defrostTimer : Nat
  /-- The defrost maximum this DEFROST entered with, in s (R96). -/
  defrostLimit : Nat
  stopTimer : Nat
  /-- The stop time this FROST STOP entered with, in s (R96). -/
  stopLimit : Nat
  /-- Times of the latest FROST STOP entries, oldest first (R90). -/
  history : List Nat
  /-- D as last handed on (R60). -/
  dHanded : Nat
  /-- The run state as last reported (R78). -/
  runSeen : RunState
  /-- An exhaustion signal of the governor not yet taken (R70). -/
  exhaustion : Bool
  deriving DecidableEq, Repr

/-- A filter record (R99). -/
structure FilterRec where
  volume : Nat
  carry : Nat
  minutes : Nat
  baseline : Option Nat
  dpAvg : Nat
  service : Service
  blocked : Bool
  changes : Nat
  deriving DecidableEq, Repr

/-- The pending accrual of a filter (R106). -/
structure Pending where
  carry : Nat
  volume : Nat
  minutes : Nat
  deriving DecidableEq, Repr

/-- The capture record (R113). A lock-out timer is absent while it is stopped. -/
structure Capture where
  state : CaptureState
  named : PerStream Bool
  sum : PerStream Nat
  count : PerStream Nat
  timer : Nat
  windows : Nat
  lockOut : PerStream (Option Nat)
  deriving DecidableEq, Repr

/-- The frame a reply answers: the request's kind and tag bytes (R188). -/
structure ReplyTo where
  kind : Byte
  tag : Byte
  deriving DecidableEq, Repr

/-- The requests that reach the filter monitor. -/
inductive FilterRequest where
  | read (filter : Byte)
  | changed (filter : Byte)
  | startReport
  deriving DecidableEq, Repr

/-- What a window end hands on to the filter monitor, as it stands at that window end (R39, R104, R108, R115, log 50). -/
structure WindowFigures where
  /-- The loop's state, flow estimate and ended-window length. -/
  state : LoopState
  flow : Nat
  ended : Nat
  /-- The value of the filter's pressure channel, and F_ref (R108). -/
  pressure : Option Int
  fRef : Nat
  /-- Both loops are LOCKED and work to their offered targets (R115). -/
  onTarget : Bool
  deriving DecidableEq, Repr

/-- The events the filter monitor takes, and holds while a rewrite lasts (R100). A filter minute says of each loop
whether it is in service at that minute (R105, log 50). -/
inductive FilterEvent where
  | windowEnd (x : Stream) (w : WindowFigures)
  | loopChange (x : Stream) (before after : LoopState)
  | minute (inService : PerStream Bool)
  | waitTimeout
  | runEnd
  | lockOut (x : Stream)
  | leftRun
  | frostEntry
  | channelFailed (x : Stream)
  | request (replyTo : Option ReplyTo) (req : FilterRequest)
  deriving DecidableEq, Repr

/-- The filter monitor. -/
structure FilterMonitor where
  records : PerStream FilterRec
  pending : PerStream Pending
  gateOpen : Bool
  latest : PerStream (Option Nat)
  sampled : PerStream Bool
  capture : Capture
  verdict : RetainedVerdict
  /-- A rewrite of the retained store is in progress (R100). -/
  rewriting : Bool
  /-- Events that reached the monitor during the rewrite, in the order of their arrival (R100). -/
  held : List FilterEvent
  /-- The 50 bytes of the retained store (R100). -/
  store : List Byte
  deriving DecidableEq, Repr

/-- A reading of a room: RH and temperature (R126). -/
structure Reading where
  rh : Nat
  temp : Int
  deriving DecidableEq, Repr

/-- One slot of the slot table. Its address and room kind are the working set's entry (R138, log 37). -/
structure SlotRec where
  state : SlotState
  reading : Option Reading
  held : Bool
  lastGood : Option Nat
  miss : Nat
  injection : Nat
  outcome : PollOutcome
  /-- The pending hold expiry (R134). -/
  expiry : Option Nat
  deriving DecidableEq, Repr

/-- The poll in progress (R128, R129). -/
structure Poll where
  slot : Slot
  /-- The address polled. -/
  address : Nat
  /-- The POLL has been sent and the answer window is open. -/
  windowOpen : Bool
  /-- The slot was dropped during the poll, whose answer is discarded (R140). -/
  discard : Bool
  /-- The bytes of the answer received so far, from its start byte on. -/
  answer : List BusByte
  deriving DecidableEq, Repr

/-- The sensor bus controller. `round` is absent when the round state is IDLE. -/
structure Bus where
  slots : PerSlot SlotRec
  round : Option Poll
  /-- Length of the poll period in progress, in s (R127). -/
  period : Nat
  /-- The latest POLL frame sent (R126). -/
  sent : List Byte
  deriving DecidableEq, Repr

/-- One slot's history in the humidity response. -/
structure HumidRec where
  /-- The minute ring, oldest first (R145). -/
  ring : List (Option Nat)
  boost : BoostState
  boostMinutes : Nat
  runOnMinutes : Nat
  saturated : Bool
  deriving DecidableEq, Repr

/-- The humidity response. -/
structure Humidity where
  slots : PerSlot HumidRec
  /-- The latest threshold RH_lim (R146). -/
  rhLim : Nat
  /-- The level flow as last told (R154). -/
  levelFlow : Nat
  /-- H as last handed on (R155). -/
  h : Nat
  deriving DecidableEq, Repr

/-- One auxiliary line. Its configuration is the working set's entry (R159, log 37). -/
structure LineRec where
  /-- The output latch; true is ACTIVE. -/
  latch : Bool
  sample : Option PinLevel
  sampleRun : Nat
  /-- The settled level; absent is UNSETTLED. -/
  settled : Option PinLevel
  /-- The driven level of an output; absent for an input, whose pin is released. -/
  driven : Option PinLevel
  mismatch : Nat
  fault : Bool
  deriving DecidableEq, Repr

/-- The auxiliary line unit with its three function levels (true is ACTIVE, R165). -/
structure Lines where
  table : PerLine LineRec
  alarm : Bool
  lamp : Bool
  heater : Bool
  deriving DecidableEq, Repr

/-- A notice record (R176). `kind` is absent for the OVERFLOW record. -/
structure Notice where
  kind : Option EventKind
  source : Source
  severe : Bool
  level : Nat
  count : Nat
  first : Nat
  last : Nat
  deriving DecidableEq, Repr

/-- The event unit. -/
structure Events where
  /-- Bit k − 1 is the raised flag of the kind of code k (R172). -/
  flags : BitVec 25
  /-- The severe summary (R173). -/
  severe : Bool
  /-- The notice queue, oldest record first. -/
  queue : List Notice
  ntf : Bool
  /-- The reset-second count (R171). -/
  seconds : Nat
  deriving DecidableEq, Repr

/-- The receiver of the link port (R184). In FRAME, the bytes after the start byte. -/
inductive Receiver where
  | idle
  | frame (bytes : List Byte)
  | hunt
  deriving DecidableEq, Repr

/-- A request in the request holder (R186). -/
structure HeldRequest where
  kind : Byte
  tag : Byte
  flags : Byte
  payload : List Byte
  deriving DecidableEq, Repr

/-- The transmitter (R187) and the bytes of the frame it sends. `restart` marks the reply to RESTART (R200). -/
inductive Transmitter where
  | idle
  | reply (frame : List Byte) (restart : Bool)
  | trace (frame : List Byte)
  deriving DecidableEq, Repr

/-- The status and the payload after it of a reply (R188). -/
structure Answer where
  status : Status
  payload : List Byte
  deriving DecidableEq, Repr

/-- The link port. -/
structure Link where
  receiver : Receiver
  holder : Option HeldRequest
  tx : Transmitter
  /-- A request was handed to the filter monitor during a rewrite and its reply is not yet formed (R100). -/
  awaiting : Bool
  overrunSeen : Bool
  checkErrorSeen : Bool
  queueNotEmpty : Bool
  tracePeriod : Nat
  traceNumber : Nat
  /-- The number of the waiting trace (R192). -/
  traceWait : Option Nat
  /-- The link port is closed until the RESTART reset (R200). -/
  closed : Bool
  /-- The latest reply formed (the model's own output, log 7). -/
  answer : Option Answer
  deriving DecidableEq, Repr

/-- The contents of a bank of the non-volatile store: an image of every setting, a generation number 0..65535 and a
CRC-16 (R196). -/
structure Bank where
  image : Settings
  generation : Nat
  crc : Half
  deriving DecidableEq, Repr

/-- The two banks. -/
inductive BankId where
  | bank0 | bank1
  deriving DecidableEq, Repr

/-- The settings store apart from the working set. -/
structure SettingsStore where
  bank0 : Bank
  bank1 : Bank
  current : Option BankId
  /-- The snapshot being written; absent when the store is IDLE (R196). -/
  saving : Option Settings
  verdict : SettingsVerdict
  resetKind : ResetKind
  deriving DecidableEq, Repr

/-- Why the machine stops. The spec names no condition of the part that stops it for good, so there is none. -/
inductive Fault : Type
  deriving DecidableEq, Repr

/-- Why a command is refused. -/
inductive Refusal where
  /-- Raised by `exec` for a command that has no meaning yet; safe, since nothing is claimed of it. -/
  | notModelled (mnemonic : String)
  deriving DecidableEq, Repr

/-- The whole part, and the queue of the commands that wait. -/
structure State where
  /-- The core supply is present. -/
  powered : Bool
  settings : Settings
  store : SettingsStore
  measurement : Measurement
  loops : PerStream LoopRec
  demand : Demand
  governor : Governor
  frost : FrostGuard
  filter : FilterMonitor
  bus : Bus
  humidity : Humidity
  lines : Lines
  events : Events
  link : Link
  pending : List Instr
  deriving DecidableEq, Repr

/-! ### The state after reset

The end of a POWER UP of a part whose banks are not valid and whose retained store fails its check (log 1): defaults
are loaded and SETTINGS DEFAULTED stands in the queue (R197), the records are reinitialised, their rewrite is in
progress and RETAINED LOST stands behind it (R101, R182). -/

/-- A channel after every kind of reset (R19). -/
def ChannelRec.atReset : ChannelRec :=
  { state := .failed, value := none, last := none, lastFault := .none, first := false, badSeconds := 0, recovery := 0,
    injection := 0, shownFault := .none, shownInjection := 0, sum := 0, bad := 0 }

/-- A loop after every kind of reset (R45), with the loaded W. -/
def LoopRec.atReset (window : Nat) : LoopRec :=
  { state := .stopped, drive := 0, offered := 0, taken := 0, speedTarget := 0, shownTarget := 0, speed := 0, n := 0,
    d := 0, flow := 0, band := 0, atCeiling := false, latch := true, stallCount := 0, inBand := 0, outBand := 0, settling := 0,
    noEdge := 0, startTime := 0, pauseTime := 0, failReport := false, ended := window, window := window, edges := 0,
    firstEdge := 0, span := 0, lastEdge := none }

/-- A reinitialised filter record (R101). -/
def FilterRec.reinitialised : FilterRec :=
  { volume := 0, carry := 0, minutes := 0, baseline := none, dpAvg := 0, service := .unknown, blocked := false,
    changes := 0 }

/-- An empty pending accrual (R124). -/
def Pending.empty : Pending := { carry := 0, volume := 0, minutes := 0 }

/-- The capture record with no capture (R113). -/
def Capture.empty : Capture :=
  { state := .none, named := ⟨false, false⟩, sum := ⟨0, 0⟩, count := ⟨0, 0⟩, timer := 0, windows := 0,
    lockOut := ⟨none, none⟩ }

/-- An EMPTY slot (R139, R143). -/
def SlotRec.cleared : SlotRec :=
  { state := .empty, reading := none, held := false, lastGood := none, miss := 0, injection := 0, outcome := .none,
    expiry := none }

/-- A slot's humidity history after every kind of reset (R158). -/
def HumidRec.atReset : HumidRec :=
  { ring := [], boost := .quiet, boostMinutes := 0, runOnMinutes := 0, saturated := false }

/-- The contents of a retained store that no rewrite has written since its supply was lost: they do not meet the check
of R101 (log 1, 13). -/
def blankStore : List Byte := List.replicate 50 0

/-- The contents of a bank that no save has written: its CRC does not match them (log 1). -/
def Bank.blank : Bank := { image := Settings.defaults, generation := 0, crc := 0 }

/-- A line after every kind of reset (R170), before its output is driven. -/
def LineRec.atReset (latch : Bool) : LineRec :=
  { latch := latch, sample := none, sampleRun := 0, settled := none, driven := none, mismatch := 0, fault := false }

/-- The state right after reset. -/
def State.reset : State :=
  { powered := true
    settings := Settings.defaults
    store :=
      { bank0 := Bank.blank, bank1 := Bank.blank, current := none, saving := none, verdict := .defaulted
        resetKind := .powerUp }
    measurement :=
      { channels :=
          { tOut := ChannelRec.atReset, tSup := ChannelRec.atReset, tExt := ChannelRec.atReset,
            tExh := ChannelRec.atReset, dpS := ChannelRec.atReset, dpE := ChannelRec.atReset }
        effectiveness := none, fresh := false, quiet := 0, samples := 0 }
    loops := { supply := LoopRec.atReset 500, extract := LoopRec.atReset 500 }
    demand :=
      { runState := .startup, level := .normal, d := 450, boost := none, pullTimer := 0, h := 0,
        captureInForce := false, hold := none, silence := 0, smokeClear := 0, smokeRunning := false,
        smokeSource := none, smokeActive := PerLine.const false }
    governor := { tS := 0, tE := 0, allowance := 20000, carry := 0, r := 0 }
    frost :=
      { mode := .idle, requested := 0, heaterOutput := 0, applied := 0, hto := false, r := 0, cold := 0, warm := 0,
        defrostTimer := 0, defrostLimit := 0, stopTimer := 0, stopLimit := 0, history := [], dHanded := 450,
        runSeen := .startup, exhaustion := false }
    filter :=
      { records := ⟨FilterRec.reinitialised, FilterRec.reinitialised⟩
        pending := ⟨Pending.empty, Pending.empty⟩
        gateOpen := false, latest := ⟨none, none⟩, sampled := ⟨false, false⟩, capture := Capture.empty
        verdict := .lost, rewriting := true, held := [], store := blankStore }
    bus := { slots := PerSlot.const SlotRec.cleared, round := none, period := 4, sent := [] }
    humidity := { slots := PerSlot.const HumidRec.atReset, rhLim := 700, levelFlow := 450, h := 0 }
    lines := { table := PerLine.const (LineRec.atReset false), alarm := true, lamp := true, heater := false }
    events :=
      { flags := 0x8040#25, severe := true
        queue :=
          [{ kind := some .settingsDefaulted, source := .none, severe := true, level := 6, count := 1, first := 0,
             last := 0 },
           { kind := some .retainedLost, source := .none, severe := false, level := 2, count := 1, first := 0,
             last := 0 }]
        ntf := true, seconds := 0 }
    link :=
      { receiver := .idle, holder := none, tx := .idle, awaiting := false, overrunSeen := false,
        checkErrorSeen := false, queueNotEmpty := true, tracePeriod := 0, traceNumber := 0, traceWait := none,
        closed := false, answer := none }
    pending := [] }

end Machine
end Sys2Proof
end

