-- ==== Sys2Proof/Machine/Operands.lean ====
section
/-! DEFINITION. The arithmetic of the manual, the conversions of the measurement unit, the two CRCs, the positions of
named values, the ids of the settings, and the encoding of figures in payloads and in the retained store. -/

namespace Sys2Proof.Machine

/-! ### ARITHMETIC -/

/-- clamp(x, lo, hi) of the ARITHMETIC section. -/
def clampInt (x lo hi : Int) : Int := if x < lo then lo else if hi < x then hi else x

/-- clamp(x, lo, hi) on quantities that are never negative. -/
def clampNat (x lo hi : Nat) : Nat := if x < lo then lo else if hi < x then hi else x

/-- |x|. -/
def magnitude (x : Int) : Nat := x.natAbs

/-- A count that saturates at `top`. -/
def saturate (top x : Nat) : Nat := min top x

/-! ### Conversion of codes (R3 to R5) -/

/-- A sample: a converted value or the cause of its fault (R1). -/
inductive Sample where
  | good (value : Int)
  | bad (cause : FaultCause)
  deriving DecidableEq, Repr

/-- A segment of the breakpoint table, from (c_a, t_a) to (c_b, t_b). -/
structure Segment where
  ca : Nat
  ta : Int
  cb : Nat
  tb : Int
  deriving DecidableEq, Repr

/-- The segments between neighbouring breakpoints of R3, from the cold end. -/
def segments : List Segment :=
  [⟨3900, -400, 3600, -200⟩, ⟨3600, -200, 3100, 0⟩, ⟨3100, 0, 2500, 200⟩, ⟨2500, 200, 1900, 400⟩,
   ⟨1900, 400, 1400, 600⟩, ⟨1400, 600, 1000, 800⟩]

/-- t_a + floor((c_a − c) × (t_b − t_a) / (c_a − c_b)) of R4. -/
def interpolate (g : Segment) (c : Nat) : Int := g.ta + ((g.ca : Int) - c) * (g.tb - g.ta) / ((g.ca : Int) - g.cb)

/-- The value of a good temperature code (R4). -/
def temperatureOf (c : Nat) : Int :=
  if 3900 ≤ c then -400
  else
    match segments.find? (fun g => g.cb ≤ c) with
    | some g => interpolate g c
    | none => 800

/-- The value of a good pressure code (R5). -/
def pressureOf (c : Nat) : Int := if c < 410 then 0 else if 3686 < c then 500 else (((c - 410) * 500 / 3276 : Nat) : Int)

/-- Conversion of a temperature code (R3). -/
def convertTemperature (c : Nat) : Sample :=
  if c ≤ 40 then .bad .short else if 4056 ≤ c then .bad .open_ else .good (temperatureOf c)

/-- Conversion of a pressure code (R5). -/
def convertPressure (c : Nat) : Sample :=
  if c < 205 then .bad .under else if 3890 < c then .bad .over else .good (pressureOf c)

/-- The conversion of a channel's kind (R2). -/
def convert (ch : Channel) (c : Nat) : Sample :=
  match ch with
  | .tOut | .tSup | .tExt | .tExh => convertTemperature c
  | .dpS | .dpE => convertPressure c

/-! ### CRCs -/

def iterate8 {α : Type} (f : α → α) (x : α) : α := f (f (f (f (f (f (f (f x)))))))

/-- One bit of the CRC-16 (R183). -/
def crc16Bit (c : BitVec 16) : BitVec 16 := if c.msb then (c <<< 1) ^^^ Config.crc16Poly else c <<< 1

/-- One byte of the CRC-16, most significant bit first. -/
def crc16Byte (c : BitVec 16) (b : Byte) : BitVec 16 := iterate8 crc16Bit (c ^^^ (b.setWidth 16 <<< 8))

/-- The CRC-16 of the link (R183), also that of the retained store (R100). -/
def crc16 (bs : List Byte) : BitVec 16 := bs.foldl crc16Byte Config.crc16Init

/-- One bit of the CRC-8 (R126). -/
def crc8Bit (c : BitVec 8) : BitVec 8 := if c.msb then (c <<< 1) ^^^ Config.crc8Poly else c <<< 1

/-- One byte of the CRC-8, most significant bit first. -/
def crc8Byte (c : BitVec 8) (b : Byte) : BitVec 8 := iterate8 crc8Bit (c ^^^ b)

/-- The CRC-8 of the sensor bus (R126). -/
def crc8 (bs : List Byte) : BitVec 8 := bs.foldl crc8Byte Config.crc8Init

/-! ### Figures in payloads (R189) -/

/-- A one-byte figure. -/
def u8 (x : Nat) : List Byte := [BitVec.ofNat 8 x]

/-- A two-byte figure, high byte first. -/
def u16 (x : Nat) : List Byte := [BitVec.ofNat 8 (x / 256), BitVec.ofNat 8 x]

/-- A four-byte figure, high byte first. -/
def u32 (x : Nat) : List Byte :=
  [BitVec.ofNat 8 (x / 16777216), BitVec.ofNat 8 (x / 65536), BitVec.ofNat 8 (x / 256), BitVec.ofNat 8 x]

/-- A signed two-byte figure in two's complement. -/
def i16 (x : Int) : List Byte := u16 (BitVec.ofInt 16 x).toNat

/-- A signed four-byte figure in two's complement. -/
def i32 (x : Int) : List Byte := u32 (BitVec.ofInt 32 x).toNat

/-- A mark: 0 clear, 1 set (R189); also a yes or no (log 22). -/
def mark (b : Bool) : List Byte := u8 (if b then 1 else 0)

/-- A temperature, 0x8000 when absent (R189). -/
def optI16 : Option Int → List Byte
  | some t => i16 t
  | none => u16 0x8000

/-- A two-byte figure never negative, with the encoding given for its absence. -/
def optU16 (absent : Nat) : Option Nat → List Byte
  | some x => u16 x
  | none => u16 absent

/-- A figure of up to four bytes, high byte first. -/
def natOfBytes (bs : List Byte) : Nat := bs.foldl (fun a b => a * 256 + b.toNat) 0

/-! ### Positions of named values (R189) -/

def channelStateCode : ChannelState → Nat
  | .valid => 0
  | .suspect => 1
  | .failed => 2

def faultCauseCode : FaultCause → Nat
  | .none => 0
  | .short => 1
  | .open_ => 2
  | .under => 3
  | .over => 4
  | .injected => 5

def loopStateCode : LoopState → Nat
  | .stopped => 0
  | .starting => 1
  | .settling => 2
  | .locked => 3
  | .unlocked => 4
  | .stalled => 5
  | .failed => 6

def runStateCode : RunState → Nat
  | .startup => 0
  | .run => 1
  | .rest => 2
  | .frostStop => 3
  | .smokeStop => 4
  | .faultStop => 5

def levelCode : Level → Nat
  | .off => 0
  | .away => 1
  | .low => 2
  | .normal => 3
  | .high => 4

def levelOfCode : Nat → Option Level
  | 0 => some .off
  | 1 => some .away
  | 2 => some .low
  | 3 => some .normal
  | 4 => some .high
  | _ => none

def lockBandCode : LockBand → Nat
  | .narrow => 0
  | .normal => 1
  | .wide => 2
  | .off => 3

def lockBandOfCode : Nat → Option LockBand
  | 0 => some .narrow
  | 1 => some .normal
  | 2 => some .wide
  | 3 => some .off
  | _ => none

def frostModeCode : FrostMode → Nat
  | .idle => 0
  | .watch => 1
  | .preheat => 2
  | .defrost => 3
  | .frostStop => 4
  | .blind => 5

def serviceCode : Service → Nat
  | .good => 0
  | .dueSoon => 1
  | .due => 2
  | .overdue => 3
  | .unknown => 4

/-- The service state a stored record's byte stands for; a byte above 4, which no rewrite stores, reads as UNKNOWN. -/
def serviceOfCode : Nat → Service
  | 0 => .good
  | 1 => .dueSoon
  | 2 => .due
  | 3 => .overdue
  | _ => .unknown

def captureStateCode : CaptureState → Nat
  | .none => 0
  | .wait => 1
  | .run => 2

def retainedVerdictCode : RetainedVerdict → Nat
  | .retained => 0
  | .lost => 1

def settingsVerdictCode : SettingsVerdict → Nat
  | .loaded => 0
  | .defaulted => 1

def resetKindCode : ResetKind → Nat
  | .powerUp => 0
  | .resetLine => 1
  | .restart => 2

def roomKindCode : RoomKind → Nat
  | .kitchen => 0
  | .bath => 1
  | .utility => 2
  | .wc => 3
  | .habitable => 4

def roomKindOfCode : Nat → Option RoomKind
  | 0 => some .kitchen
  | 1 => some .bath
  | 2 => some .utility
  | 3 => some .wc
  | 4 => some .habitable
  | _ => none

def slotStateCode : SlotState → Nat
  | .empty => 0
  | .enrolling => 1
  | .active => 2
  | .silent => 3
  | .faulty => 4

def pollOutcomeCode : PollOutcome → Nat
  | .none => 0
  | .good => 1
  | .noAnswer => 2
  | .framing => 3
  | .check => 4
  | .wrongAddress => 5

def boostStateCode : BoostState → Nat
  | .quiet => 0
  | .boost => 1
  | .runOn => 2

def lineFunctionCode : LineFunction → Nat
  | .generalIn => 0
  | .pullSwitch => 1
  | .smokeInput => 2
  | .generalOut => 3
  | .alarmOut => 4
  | .filterLamp => 5
  | .heaterEnable => 6

def lineFunctionOfCode : Nat → Option LineFunction
  | 0 => some .generalIn
  | 1 => some .pullSwitch
  | 2 => some .smokeInput
  | 3 => some .generalOut
  | 4 => some .alarmOut
  | 5 => some .filterLamp
  | 6 => some .heaterEnable
  | _ => none

def polarityCode : Polarity → Nat
  | .activeHigh => 0
  | .activeLow => 1

def polarityOfCode : Nat → Option Polarity
  | 0 => some .activeHigh
  | 1 => some .activeLow
  | _ => none

def edgeCode : EdgeSelection → Nat
  | .none => 0
  | .rising => 1
  | .falling => 2
  | .both => 3

def edgeOfCode : Nat → Option EdgeSelection
  | 0 => some .none
  | 1 => some .rising
  | 2 => some .falling
  | 3 => some .both
  | _ => none

/-- ACTIVE 0, INACTIVE 1 (R159, R167). -/
def activityCode (active : Bool) : Nat := if active then 0 else 1

/-- The value of LINE WRITE (R167). -/
def activityOfCode : Nat → Option Bool
  | 0 => some true
  | 1 => some false
  | _ => none

/-- HIGH 0, LOW 1 (R159). -/
def pinCode : PinLevel → Nat
  | .high => 0
  | .low => 1

def statusCode : Status → Nat
  | .done => 0
  | .busy => 1
  | .range => 2
  | .state => 3
  | .unknown => 4
  | .length => 5

def streamCode : Stream → Nat
  | .supply => 0
  | .extract => 1

def streamOfCode : Nat → Option Stream
  | 0 => some .supply
  | 1 => some .extract
  | _ => none

def channelCode : Channel → Nat
  | .tOut => 0
  | .tSup => 1
  | .tExt => 2
  | .tExh => 3
  | .dpS => 4
  | .dpE => 5

def channelOfCode : Nat → Option Channel
  | 0 => some .tOut
  | 1 => some .tSup
  | 2 => some .tExt
  | 3 => some .tExh
  | 4 => some .dpS
  | 5 => some .dpE
  | _ => none

/-- The number of a slot, 1..8. -/
def slotNumber : Slot → Nat
  | .s1 => 1
  | .s2 => 2
  | .s3 => 3
  | .s4 => 4
  | .s5 => 5
  | .s6 => 6
  | .s7 => 7
  | .s8 => 8

def slotOfNumber : Nat → Option Slot
  | 1 => some .s1
  | 2 => some .s2
  | 3 => some .s3
  | 4 => some .s4
  | 5 => some .s5
  | 6 => some .s6
  | 7 => some .s7
  | 8 => some .s8
  | _ => none

/-- The number of a line, 1..6. -/
def lineNumber : Line → Nat
  | .aux1 => 1
  | .aux2 => 2
  | .aux3 => 3
  | .aux4 => 4
  | .aux5 => 5
  | .aux6 => 6

def lineOfNumber : Nat → Option Line
  | 1 => some .aux1
  | 2 => some .aux2
  | 3 => some .aux3
  | 4 => some .aux4
  | 5 => some .aux5
  | 6 => some .aux6
  | _ => none

def holdCauseCode : HoldCause → Nat
  | .mark => 0
  | .silence => 1
  | .frost => 2
  | .runState => 3

def captureCauseCode : CaptureCause → Nat
  | .runState => 0
  | .frost => 1
  | .sensor => 2
  | .timeout => 3
  | .lock => 4
  | .noSamples => 5

def linkCauseCode : LinkCause → Nat
  | .discard => 0
  | .overrun => 1

/-- The place of an event kind's bit and level: its code less 1 (R172). -/
def kindIndex : EventKind → Fin 25
  | .fanFail => 0
  | .sensorFailed => 1
  | .filterBlocked => 2
  | .frostBlind => 3
  | .smokeStop => 4
  | .lineFault => 5
  | .settingsDefaulted => 6
  | .fanLockLost => 7
  | .fanStall => 8
  | .frostState => 9
  | .frostRepeat => 10
  | .allowanceExhausted => 11
  | .filterDue => 12
  | .captureDone => 13
  | .captureAborted => 14
  | .retainedLost => 15
  | .nodeSilent => 16
  | .nodeFaulty => 17
  | .enrolFailed => 18
  | .addressClash => 19
  | .humidBoost => 20
  | .lineEdge => 21
  | .holdReleased => 22
  | .saveDone => 23
  | .linkError => 24

/-- The code of an event kind, 1..25. -/
def kindCode (k : EventKind) : Nat := (kindIndex k).val + 1

/-- The kinds in the order of their codes. -/
def allKinds : List EventKind :=
  [.fanFail, .sensorFailed, .filterBlocked, .frostBlind, .smokeStop, .lineFault, .settingsDefaulted, .fanLockLost,
   .fanStall, .frostState, .frostRepeat, .allowanceExhausted, .filterDue, .captureDone, .captureAborted,
   .retainedLost, .nodeSilent, .nodeFaulty, .enrolFailed, .addressClash, .humidBoost, .lineEdge, .holdReleased,
   .saveDone, .linkError]

def kindOfCode (c : Nat) : Option EventKind := if c = 0 then none else allKinds[c - 1]?

/-- Source kind and source value of a record (R180). -/
def sourceBytes : Source → List Byte
  | .none => u8 0 ++ u8 0
  | .fan x => u8 1 ++ u8 (streamCode x)
  | .filter x => u8 2 ++ u8 (streamCode x)
  | .channel c => u8 3 ++ u8 (channelCode c)
  | .slot k => u8 4 ++ u8 (slotNumber k)
  | .line l => u8 5 ++ u8 (lineNumber l)
  | .frost m => u8 6 ++ u8 (frostModeCode m)
  | .hold c => u8 7 ++ u8 (holdCauseCode c)
  | .capture c => u8 8 ++ u8 (captureCauseCode c)
  | .link c => u8 9 ++ u8 (linkCauseCode c)

/-- A notice record as carried in NOTICES TAKE, 14 bytes (R180). -/
def noticeBytes (n : Notice) : List Byte :=
  (match n.kind with
    | some k => u8 (kindCode k)
    | none => u8 0xFF)
    ++ sourceBytes n.source ++ mark n.severe ++ u8 n.level ++ u8 n.count ++ u32 n.first ++ u32 n.last

/-! ### Records in the retained store (R100) -/

/-- A filter record as the store holds it, 20 bytes. -/
def recordBytes (r : FilterRec) : List Byte :=
  u32 r.volume ++ u32 r.carry ++ u32 r.minutes ++ optU16 0 r.baseline ++ u16 r.dpAvg ++ u8 (serviceCode r.service)
    ++ mark r.blocked ++ u16 r.changes

/-- The record that 20 bytes of the store hold. A blocked mark other than 0 reads as set (log 46). -/
def recordOfBytes (bs : List Byte) : FilterRec :=
  { volume := natOfBytes (bs.take 4)
    carry := natOfBytes ((bs.drop 4).take 4)
    minutes := natOfBytes ((bs.drop 8).take 4)
    baseline := if natOfBytes ((bs.drop 12).take 2) = 0 then none else some (natOfBytes ((bs.drop 12).take 2))
    dpAvg := natOfBytes ((bs.drop 14).take 2)
    service := serviceOfCode (natOfBytes ((bs.drop 16).take 1))
    blocked := natOfBytes ((bs.drop 17).take 1) ≠ 0
    changes := natOfBytes ((bs.drop 18).take 2) }

/-- The bytes of the four check words. -/
def checkBytes : List Byte := Config.checkWords.flatMap (fun w => u16 w.toNat)

/-- The 40 bytes of the two records, F-S first. -/
def recordsBytes (p : PerStream FilterRec) : List Byte := recordBytes p.supply ++ recordBytes p.extract

/-- The image a rewrite writes: check words, records, CRC (R100). R100 gives high byte first for the fields of the
records; the check words and the CRC are held so too (log 45). -/
def storeImage (p : PerStream FilterRec) : List Byte :=
  checkBytes ++ recordsBytes p ++ u16 (crc16 (recordsBytes p)).toNat

/-- The check of R101 on the contents of the store. -/
def storeGood (bs : List Byte) : Bool :=
  bs.length == 50 && bs.take 8 == checkBytes && bs.drop 48 == u16 (crc16 ((bs.drop 8).take 40)).toNat

/-- The records the store holds. -/
def storeRecords (bs : List Byte) : PerStream FilterRec :=
  { supply := recordOfBytes ((bs.drop 8).take 20), extract := recordOfBytes ((bs.drop 28).take 20) }

/-! ### The settings table -/

/-- The settings each loop has its own copy of. -/
inductive LoopField where
  | window | pulses | kn | kp | smax | gain | dmin | startDrive
  deriving DecidableEq, Repr

/-- A setting of THE SETTINGS TABLE. -/
inductive SettingId where
  | loop (x : Stream) (f : LoopField)
  | lockBand | awayFlow | lowFlow | normalFlow | highFlow | startLevel | switchTime | fMin | fMax
  | offset | balanceBand | aMax | aEnter | recovery
  | tWatch | tFrost | tRelease | hMax | fHmin | reduction | defrostMax | stopTime | effFloor
  | fRef | ratedVolume | serviceLimit | blockLimit
  | pollPeriod
  | slotEntry (k : Slot)
  | humidBase | coldSlope | riseThreshold | boostMax | runOnTime
  | increment (r : RoomKind)
  | humidCeiling
  | lineConfig (l : Line)
  | enable (k : EventKind)
  | threshold
  | level (k : EventKind)
  deriving DecidableEq, Repr

def loopFieldOfIndex : Nat → Option LoopField
  | 0 => some .window
  | 1 => some .pulses
  | 2 => some .kn
  | 3 => some .kp
  | 4 => some .smax
  | 5 => some .gain
  | 6 => some .dmin
  | 7 => some .startDrive
  | _ => none

/-- Ids 0x01xx. -/
def fanSettingOfLow (lo : Nat) : Option SettingId :=
  if lo = 0x20 then some .lockBand
  else if lo < 0x10 then (loopFieldOfIndex lo).map (.loop .supply)
  else if lo < 0x20 then (loopFieldOfIndex (lo - 0x10)).map (.loop .extract)
  else none

/-- Ids 0x02xx. -/
def demandSettingOfLow : Nat → Option SettingId
  | 0 => some .awayFlow
  | 1 => some .lowFlow
  | 2 => some .normalFlow
  | 3 => some .highFlow
  | 4 => some .startLevel
  | 5 => some .switchTime
  | 6 => some .fMin
  | 7 => some .fMax
  | _ => none

/-- Ids 0x03xx. -/
def governorSettingOfLow : Nat → Option SettingId
  | 0 => some .offset
  | 1 => some .balanceBand
  | 2 => some .aMax
  | 3 => some .aEnter
  | 4 => some .recovery
  | _ => none

/-- Ids 0x04xx. -/
def frostSettingOfLow : Nat → Option SettingId
  | 0 => some .tWatch
  | 1 => some .tFrost
  | 2 => some .tRelease
  | 3 => some .hMax
  | 4 => some .fHmin
  | 5 => some .reduction
  | 6 => some .defrostMax
  | 7 => some .stopTime
  | 8 => some .effFloor
  | _ => none

/-- Ids 0x05xx. -/
def filterSettingOfLow : Nat → Option SettingId
  | 0 => some .fRef
  | 1 => some .ratedVolume
  | 2 => some .serviceLimit
  | 3 => some .blockLimit
  | _ => none

/-- Ids 0x06xx. -/
def busSettingOfLow (lo : Nat) : Option SettingId :=
  if lo = 0 then some .pollPeriod
  else if lo < 0x10 then none
  else (slotOfNumber (lo - 0x10)).map .slotEntry

/-- Ids 0x07xx. -/
def humiditySettingOfLow : Nat → Option SettingId
  | 0 => some .humidBase
  | 1 => some .coldSlope
  | 2 => some .riseThreshold
  | 3 => some .boostMax
  | 4 => some .runOnTime
  | 5 => some (.increment .kitchen)
  | 6 => some (.increment .bath)
  | 7 => some (.increment .utility)
  | 8 => some (.increment .wc)
  | 9 => some (.increment .habitable)
  | 10 => some .humidCeiling
  | _ => none

/-- The setting of an id (THE SETTINGS TABLE). -/
def settingOfId (id : Nat) : Option SettingId :=
  match id / 256 with
  | 1 => fanSettingOfLow (id % 256)
  | 2 => demandSettingOfLow (id % 256)
  | 3 => governorSettingOfLow (id % 256)
  | 4 => frostSettingOfLow (id % 256)
  | 5 => filterSettingOfLow (id % 256)
  | 6 => busSettingOfLow (id % 256)
  | 7 => humiditySettingOfLow (id % 256)
  | 8 => (lineOfNumber (id % 256)).map .lineConfig
  | 9 => (kindOfCode (id % 256)).map .enable
  | 10 => if id % 256 = 0 then some .threshold else (kindOfCode (id % 256)).map .level
  | _ => none

/-- The range of a loop setting. -/
def loopFieldInRange (f : LoopField) (v : Int) : Bool :=
  match f with
  | .window => v == 250 || v == 500 || v == 1000
  | .pulses => 1 ≤ v && v ≤ 4
  | .kn => 1 ≤ v && v ≤ 1023
  | .kp => 0 ≤ v && v ≤ 255
  | .smax => 500 ≤ v && v ≤ 6000
  | .gain => 1 ≤ v && v ≤ 255
  | .dmin => 0 ≤ v && v ≤ 300
  | .startDrive => 100 ≤ v && v ≤ 1000

/-- A value that stands for a slot entry: 0, or an address and a room kind (THE SETTINGS TABLE). -/
def slotEntryInRange (v : Int) : Bool := v == 0 || (8 ≤ v && v < 128 && v % 8 ≤ 4)

/-- A value that stands for a line configuration: a function, a polarity and an edge selection (THE SETTINGS TABLE). -/
def lineConfigInRange (v : Int) : Bool := 0 ≤ v && v < 112 && v % 16 < 8

/-- The range of a setting (THE SETTINGS TABLE). -/
def settingInRange (i : SettingId) (v : Int) : Bool :=
  match i with
  | .loop _ f => loopFieldInRange f v
  | .lockBand => 0 ≤ v && v ≤ 3
  | .awayFlow | .lowFlow | .normalFlow | .highFlow | .fMin | .fMax | .fHmin | .humidCeiling => 0 ≤ v && v ≤ 2500
  | .startLevel => 0 ≤ v && v ≤ 4
  | .switchTime => 1 ≤ v && v ≤ 120
  | .offset => -100 ≤ v && v ≤ 100
  | .balanceBand => 10 ≤ v && v ≤ 200
  | .aMax | .aEnter => 0 ≤ v && v ≤ 60000
  | .recovery => 0 ≤ v && v ≤ 100
  | .tWatch => -100 ≤ v && v ≤ 100
  | .tFrost => -50 ≤ v && v ≤ 50
  | .tRelease => 0 ≤ v && v ≤ 100
  | .hMax | .effFloor => 0 ≤ v && v ≤ 1000
  | .reduction => 10 ≤ v && v ≤ 60
  | .defrostMax => 60 ≤ v && v ≤ 900
  | .stopTime => 300 ≤ v && v ≤ 3600
  | .fRef => 100 ≤ v && v ≤ 2500
  | .ratedVolume => 1000 ≤ v && v ≤ 100000
  | .serviceLimit => 30 ≤ v && v ≤ 730
  | .blockLimit => 50 ≤ v && v ≤ 500
  | .pollPeriod => 2 ≤ v && v ≤ 30
  | .slotEntry _ => slotEntryInRange v
  | .humidBase => 400 ≤ v && v ≤ 950
  | .coldSlope => 0 ≤ v && v ≤ 50
  | .riseThreshold => 20 ≤ v && v ≤ 200
  | .boostMax => 10 ≤ v && v ≤ 240
  | .runOnTime => 1 ≤ v && v ≤ 60
  | .increment _ => 0 ≤ v && v ≤ 500
  | .lineConfig _ => lineConfigInRange v
  | .enable _ => 0 ≤ v && v ≤ 1
  | .threshold | .level _ => 0 ≤ v && v ≤ 7

def loopFieldGet (c : LoopSettings) : LoopField → Nat
  | .window => c.window
  | .pulses => c.pulses
  | .kn => c.kn
  | .kp => c.kp
  | .smax => c.smax
  | .gain => c.gain
  | .dmin => c.dmin
  | .startDrive => c.startDrive

def loopFieldPut (c : LoopSettings) (f : LoopField) (v : Nat) : LoopSettings :=
  match f with
  | .window => { c with window := v }
  | .pulses => { c with pulses := v }
  | .kn => { c with kn := v }
  | .kp => { c with kp := v }
  | .smax => { c with smax := v }
  | .gain => { c with gain := v }
  | .dmin => { c with dmin := v }
  | .startDrive => { c with startDrive := v }

/-- The value of a slot entry: 0 none, or address × 8 + room kind. -/
def slotEntryValue : Option SlotEntry → Nat
  | none => 0
  | some e => e.address * 8 + roomKindCode e.kind

/-- The value of a line configuration: function × 16 + polarity × 4 + edge selection. -/
def lineConfigValue (c : LineConfig) : Nat := lineFunctionCode c.function * 16 + polarityCode c.polarity * 4 + edgeCode c.edge

/-- The increment of a room kind (R154). -/
def incrementOf (set : Settings) : RoomKind → Nat
  | .kitchen => set.kitchenInc
  | .bath => set.bathInc
  | .utility => set.utilityInc
  | .wc => set.wcInc
  | .habitable => set.habitableInc

/-- Whether a kind is ENABLED (R175). -/
def kindEnabled (set : Settings) (k : EventKind) : Bool := set.enables.getLsb (kindIndex k)

/-- The level of a kind (R175). -/
def kindLevel (set : Settings) (k : EventKind) : Nat := (set.levels[kindIndex k]).toNat

/-- A kind's enable written (R175). -/
def putEnable (set : Settings) (k : EventKind) (on : Bool) : Settings :=
  { set with
    enables :=
      if on then set.enables ||| (1#25 <<< (kindIndex k).val) else set.enables &&& ~~~(1#25 <<< (kindIndex k).val) }

/-- A kind's level written (R175). -/
def putLevel (set : Settings) (k : EventKind) (v : Nat) : Settings :=
  { set with levels := set.levels.set (kindIndex k) (BitVec.ofNat 3 v) }

/-- The working-set value of a setting, as SETTING READ returns it (R195). -/
def settingGet (set : Settings) : SettingId → Int
  | .loop x f => loopFieldGet (set.loops.get x) f
  | .lockBand => lockBandCode set.lockBand
  | .awayFlow => set.awayFlow
  | .lowFlow => set.lowFlow
  | .normalFlow => set.normalFlow
  | .highFlow => set.highFlow
  | .startLevel => levelCode set.startLevel
  | .switchTime => set.switchTime
  | .fMin => set.fMin
  | .fMax => set.fMax
  | .offset => set.offset
  | .balanceBand => set.balanceBand
  | .aMax => set.aMax
  | .aEnter => set.aEnter
  | .recovery => set.recovery
  | .tWatch => set.tWatch
  | .tFrost => set.tFrost
  | .tRelease => set.tRelease
  | .hMax => set.hMax
  | .fHmin => set.fHmin
  | .reduction => set.reduction
  | .defrostMax => set.defrostMax
  | .stopTime => set.stopTime
  | .effFloor => set.effFloor
  | .fRef => set.fRef
  | .ratedVolume => set.ratedVolume
  | .serviceLimit => set.serviceLimit
  | .blockLimit => set.blockLimit
  | .pollPeriod => set.pollPeriod
  | .slotEntry k => slotEntryValue (set.slots.get k)
  | .humidBase => set.humidBase
  | .coldSlope => set.coldSlope
  | .riseThreshold => set.riseThreshold
  | .boostMax => set.boostMax
  | .runOnTime => set.runOnTime
  | .increment r => incrementOf set r
  | .humidCeiling => set.humidCeiling
  | .lineConfig l => lineConfigValue (set.lines.get l)
  | .enable k => if kindEnabled set k then 0 else 1
  | .threshold => set.threshold
  | .level k => kindLevel set k

def putIncrement (set : Settings) (r : RoomKind) (v : Nat) : Settings :=
  match r with
  | .kitchen => { set with kitchenInc := v }
  | .bath => { set with bathInc := v }
  | .utility => { set with utilityInc := v }
  | .wc => { set with wcInc := v }
  | .habitable => { set with habitableInc := v }

/-- A value in range stored in the working set (R195). Slot entries and line configurations are never written here. -/
def settingPut (set : Settings) (i : SettingId) (v : Int) : Settings :=
  match i with
  | .loop x f => { set with loops := set.loops.set x (loopFieldPut (set.loops.get x) f v.toNat) }
  | .lockBand => { set with lockBand := (lockBandOfCode v.toNat).getD set.lockBand }
  | .awayFlow => { set with awayFlow := v.toNat }
  | .lowFlow => { set with lowFlow := v.toNat }
  | .normalFlow => { set with normalFlow := v.toNat }
  | .highFlow => { set with highFlow := v.toNat }
  | .startLevel => { set with startLevel := (levelOfCode v.toNat).getD set.startLevel }
  | .switchTime => { set with switchTime := v.toNat }
  | .fMin => { set with fMin := v.toNat }
  | .fMax => { set with fMax := v.toNat }
  | .offset => { set with offset := v }
  | .balanceBand => { set with balanceBand := v.toNat }
  | .aMax => { set with aMax := v.toNat }
  | .aEnter => { set with aEnter := v.toNat }
  | .recovery => { set with recovery := v.toNat }
  | .tWatch => { set with tWatch := v }
  | .tFrost => { set with tFrost := v }
  | .tRelease => { set with tRelease := v }
  | .hMax => { set with hMax := v.toNat }
  | .fHmin => { set with fHmin := v.toNat }
  | .reduction => { set with reduction := v.toNat }
  | .defrostMax => { set with defrostMax := v.toNat }
  | .stopTime => { set with stopTime := v.toNat }
  | .effFloor => { set with effFloor := v.toNat }
  | .fRef => { set with fRef := v.toNat }
  | .ratedVolume => { set with ratedVolume := v.toNat }
  | .serviceLimit => { set with serviceLimit := v.toNat }
  | .blockLimit => { set with blockLimit := v.toNat }
  | .pollPeriod => { set with pollPeriod := v.toNat }
  | .slotEntry _ => set
  | .humidBase => { set with humidBase := v.toNat }
  | .coldSlope => { set with coldSlope := v.toNat }
  | .riseThreshold => { set with riseThreshold := v.toNat }
  | .boostMax => { set with boostMax := v.toNat }
  | .runOnTime => { set with runOnTime := v.toNat }
  | .increment r => putIncrement set r v.toNat
  | .humidCeiling => { set with humidCeiling := v.toNat }
  | .lineConfig _ => set
  | .enable k => putEnable set k (v == 0)
  | .threshold => { set with threshold := v.toNat }
  | .level k => putLevel set k v.toNat

/-! ### The banks (R196) -/

/-- The fields of a loop's settings, in the order of their ids. -/
def LoopField.all : List LoopField := [.window, .pulses, .kn, .kp, .smax, .gain, .dmin, .startDrive]

/-- Every setting of THE SETTINGS TABLE, in the order of the ids. -/
def SettingId.all : List SettingId :=
  List.flatten
    [LoopField.all.map (SettingId.loop .supply), LoopField.all.map (SettingId.loop .extract),
      [.lockBand, .awayFlow, .lowFlow, .normalFlow, .highFlow, .startLevel, .switchTime, .fMin, .fMax],
      [.offset, .balanceBand, .aMax, .aEnter, .recovery],
      [.tWatch, .tFrost, .tRelease, .hMax, .fHmin, .reduction, .defrostMax, .stopTime, .effFloor],
      [.fRef, .ratedVolume, .serviceLimit, .blockLimit],
      .pollPeriod :: Slot.all.map SettingId.slotEntry,
      [.humidBase, .coldSlope, .riseThreshold, .boostMax, .runOnTime, .increment .kitchen, .increment .bath,
        .increment .utility, .increment .wc, .increment .habitable, .humidCeiling],
      Line.all.map SettingId.lineConfig, allKinds.map SettingId.enable, .threshold :: allKinds.map SettingId.level]

/-- The bytes a bank's CRC covers: every setting in the order of the ids, each as SETTING READ carries it, then the
generation number (R196, log 27). -/
def bankBytes (image : Settings) (generation : Nat) : List Byte :=
  SettingId.all.flatMap (fun i => i32 (settingGet image i)) ++ u16 generation

/-- The CRC-16 of a bank, with the link's polynomial and initial value (R196). Irreducible, so that no proof that only
needs the validity of a bank evaluates it. -/
@[irreducible] def bankCrc (image : Settings) (generation : Nat) : Half := crc16 (bankBytes image generation)

/-- A bank is valid when its CRC matches its contents (R196). -/
def bankValid (b : Bank) : Bool := b.crc == bankCrc b.image b.generation

/-- A bank written whole, its CRC last. -/
def wholeBank (image : Settings) (generation : Nat) : Bank :=
  { image := image, generation := generation, crc := bankCrc image generation }

/-- A bank whose write was cut: its CRC does not match its contents (R197, log 27). -/
def cutBank (image : Settings) (generation : Nat) : Bank :=
  { image := image, generation := generation, crc := ~~~bankCrc image generation }

/-- The level table (R54): 0 when the level is OFF. -/
def levelFlow (set : Settings) : Level → Nat
  | .off => 0
  | .away => set.awayFlow
  | .low => set.lowFlow
  | .normal => set.normalFlow
  | .high => set.highFlow

end Sys2Proof.Machine
end

