-- ==== Sys2Proof/Machine/Ops.lean ====
section
/-! DEFINITION. The named operations that several blocks share: updates of one loop, channel, slot or line, the driven
levels of the output lines, and the millisecond timers. -/

namespace Sys2Proof.Machine

/-- What every command's meaning does with the supply: a part without its core supply has stopped and takes nothing
(R102, R198, log 15). -/
def whilePowered (f : State → State) (s : State) : Host.Outcome State Fault Refusal :=
  .next (if s.powered then f s else s)

/-! ### Updates of one entry -/

def setLoop (x : Stream) (l : LoopRec) (s : State) : State := { s with loops := s.loops.set x l }

def setChannel (c : Channel) (r : ChannelRec) (s : State) : State :=
  { s with measurement := { s.measurement with channels := s.measurement.channels.set c r } }

def setSlot (k : Slot) (r : SlotRec) (s : State) : State := { s with bus := { s.bus with slots := s.bus.slots.set k r } }

/-- The slot's entry of the working set (R138). -/
def setSlotEntry (k : Slot) (e : Option SlotEntry) (s : State) : State :=
  { s with settings := { s.settings with slots := s.settings.slots.set k e } }

def setHumid (k : Slot) (r : HumidRec) (s : State) : State :=
  { s with humidity := { s.humidity with slots := s.humidity.slots.set k r } }

def setLine (l : Line) (r : LineRec) (s : State) : State :=
  { s with lines := { s.lines with table := s.lines.table.set l r } }

def setRecord (x : Stream) (r : FilterRec) (s : State) : State :=
  { s with filter := { s.filter with records := s.filter.records.set x r } }

/-! ### Channels as their readers see them (R11) -/

/-- A channel's value: present, held included, or absent. -/
def channelValue (s : State) (c : Channel) : Option Int := (s.measurement.channels.get c).value

/-- The pressure channel of a stream. -/
def pressureChannel : Stream → Channel
  | .supply => .dpS
  | .extract => .dpE

/-- The loop pressure (R11): the channel's value, its last value while FAILED, 0 when that is absent. -/
def loopPressure (s : State) (x : Stream) : Nat :=
  let r := s.measurement.channels.get (pressureChannel x)
  ((r.value <|> r.last).getD 0).toNat

/-! ### Fan loops as their readers see them -/

/-- "Running": SETTLING, LOCKED or UNLOCKED (LOOP STATES). -/
def running : LoopState → Bool
  | .settling | .locked | .unlocked => true
  | .stopped | .starting | .stalled | .failed => false

/-- In service for the filter's minutes (R105). -/
def inService : LoopState → Bool
  | .starting | .settling | .locked | .unlocked => true
  | .stopped | .stalled | .failed => false

/-- Either fan loop is FAILED (R53). -/
def anyLoopFailed (s : State) : Bool := s.loops.supply.state == .failed || s.loops.extract.state == .failed

/-! ### Output lines (R164, R165) -/

/-- The pin level a logical level stands for under a polarity (R159, R164). -/
def pinOf (p : Polarity) (active : Bool) : PinLevel :=
  match p with
  | .activeHigh => if active then .high else .low
  | .activeLow => if active then .low else .high

/-- The logical level a pin level stands for under a polarity (R159). -/
def activeOf (p : Polarity) (level : PinLevel) : Bool :=
  match p with
  | .activeHigh => level == .high
  | .activeLow => level == .low

/-- Logical output of a line: the latch or the function level; absent for an input function (R164). -/
def logicalOutput (u : Lines) (f : LineFunction) (latch : Bool) : Option Bool :=
  match f with
  | .generalOut => some latch
  | .alarmOut => some u.alarm
  | .filterLamp => some u.lamp
  | .heaterEnable => some u.heater
  | .generalIn | .pullSwitch | .smokeInput => none

/-- The level a line's configuration drives, absent for a released pin. -/
def drivenLevel (u : Lines) (c : LineConfig) (latch : Bool) : Option PinLevel :=
  (logicalOutput u c.function latch).map (pinOf c.polarity)

/-- A line takes its driven level; a change sets its mismatch count to 0 and clears its fault mark (R164). -/
def driveRec (u : Lines) (c : LineConfig) (r : LineRec) : LineRec :=
  if drivenLevel u c r.latch = r.driven then r
  else { r with driven := drivenLevel u c r.latch, mismatch := 0, fault := false }

/-- Every line takes its driven level. -/
def driveLines (s : State) : State :=
  { s with
    lines := { s.lines with table := s.lines.table.update (fun l r => driveRec s.lines (s.settings.lines.get l) r) } }

/-- A function level set at its owner's report (R165). -/
def setAlarm (b : Bool) (s : State) : State := driveLines { s with lines := { s.lines with alarm := b } }

def setLamp (b : Bool) (s : State) : State := driveLines { s with lines := { s.lines with lamp := b } }

def setHeaterEnable (b : Bool) (s : State) : State := driveLines { s with lines := { s.lines with heater := b } }

/-! ### Millisecond timers (log 5) -/

/-- The running millisecond timers that other steps read, advanced by one auxiliary sample period. -/
def advanceTimers (s : State) : State :=
  let t := Config.auxSamplePeriod
  let f := s.frost
  let c := s.filter.capture
  { s with
    demand :=
      { s.demand with
        silence := saturate Config.silenceTime (s.demand.silence + t)
        smokeClear := if s.demand.smokeRunning then s.demand.smokeClear + t else s.demand.smokeClear }
    frost :=
      { f with
        defrostTimer := if f.mode = .defrost then saturate (f.defrostLimit * 1000) (f.defrostTimer + t) else f.defrostTimer
        stopTimer := if f.mode = .frostStop then saturate (f.stopLimit * 1000) (f.stopTimer + t) else f.stopTimer }
    filter :=
      { s.filter with
        capture :=
          { c with
            timer :=
              match c.state with
              | .none => c.timer
              | .wait => saturate 120000 (c.timer + t)
              | .run => saturate 60000 (c.timer + t)
            lockOut := ⟨c.lockOut.supply.map (fun m => saturate 10000 (m + t)),
                        c.lockOut.extract.map (fun m => saturate 10000 (m + t))⟩ } } }

end Sys2Proof.Machine
end

