-- ==== Sys2Proof/Machine/Flags.lean ====
section
/-! DEFINITION. The event unit: raised flags and the severe summary, the placement of an occurrence in the notice
queue, and NTF (R171 to R181). -/

namespace Sys2Proof.Machine

/-! ### Raised flags -/

/-- The severe kinds, codes 1 to 7 (R173). -/
def severeKind (k : EventKind) : Bool := (kindIndex k).val < 7

/-- The bits of the severe kinds. -/
def severeMask : BitVec 25 := 0x7F

/-- Whether a kind's flag is raised. -/
def flagRaised (s : State) (k : EventKind) : Bool := s.events.flags.getLsb (kindIndex k)

/-- The bit of a kind. -/
def kindBit (k : EventKind) : BitVec 25 := 1#25 <<< (kindIndex k).val

/-- The severe summary judged afresh, a change reported to the auxiliary line unit (R173, R165). -/
def judgeSevere (s : State) : State :=
  if (s.events.flags &&& severeMask != 0) = s.events.severe then s
  else
    setAlarm (s.events.flags &&& severeMask != 0)
      { s with events := { s.events with severe := s.events.flags &&& severeMask != 0 } }

/-- The flag of a kind set (R172). -/
def raiseFlag (k : EventKind) (s : State) : State :=
  judgeSevere { s with events := { s.events with flags := s.events.flags ||| kindBit k } }

/-! ### The notice queue -/

/-- An ordinary record, not the OVERFLOW record. -/
def ordinary (n : Notice) : Bool := n.kind.isSome

/-- Number of ordinary records held. -/
def ordinaryCount (q : List Notice) : Nat := q.countP ordinary

/-- A record formed from one occurrence (R176). -/
def newNotice (set : Settings) (k : EventKind) (src : Source) (now : Nat) : Notice :=
  { kind := some k, source := src, severe := severeKind k, level := kindLevel set k, count := 1, first := now,
    last := now }

/-- Losses added to the OVERFLOW record, which is formed at the tail when none is held (R178). -/
def addOverflow (losses : Nat) (severe : Bool) (now : Nat) (q : List Notice) : List Notice :=
  if q.any (fun n => !ordinary n) then
    q.map (fun n =>
      if ordinary n then n
      else { n with count := saturate 255 (n.count + losses), severe := n.severe || severe, last := now })
  else
    q ++ [{ kind := none, source := .none, severe := severe, level := 7, count := saturate 255 losses, first := now,
            last := now }]

/-- Whether an advisory occurrence merges into the newest record (R177 case 1). -/
def merges (k : EventKind) (src : Source) (n : Notice) : Bool := !severeKind k && n.kind == some k && n.source == src

/-- A record merged with a further occurrence (R177 case 1). -/
def mergeInto (now : Nat) (n : Notice) : Notice := { n with count := saturate 255 (n.count + 1), last := now }

/-- An ordinary advisory record, which a severe occurrence may evict (R177 case 3). -/
def evictable (n : Notice) : Bool := ordinary n && !n.severe

/-- The placement of an occurrence of an enabled kind, by the first case of R177 that holds. -/
def placeNotice (set : Settings) (k : EventKind) (src : Source) (now : Nat) (q : List Notice) : List Notice :=
  match q.getLast? with
  | some n =>
    if merges k src n then q.dropLast ++ [mergeInto now n]
    else if ordinaryCount q < Config.maxNotices then q ++ [newNotice set k src now]
    else if severeKind k then
      match q.find? evictable with
      | some old => addOverflow old.count false now (q.eraseP evictable) ++ [newNotice set k src now]
      | none => addOverflow 1 true now q
    else addOverflow 1 false now q
  | none => [newNotice set k src now]

/-- NTF judged against the threshold (R181). -/
def judgeNtf (s : State) : State :=
  { s with events := { s.events with ntf := s.events.queue.any (fun n => s.settings.threshold < n.level) } }

/-- An occurrence placed: the queue, the not-empty report to the link port (R177) and NTF (R181). -/
def placeOccurrence (k : EventKind) (src : Source) (s : State) : State :=
  judgeNtf
    { s with
      events := { s.events with queue := placeNotice s.settings k src s.events.seconds s.events.queue }
      link := { s.link with queueNotEmpty := true } }

/-- One occurrence taken whole by the event unit: its flag, then its placement when the kind is enabled (R171, R175). -/
def report (k : EventKind) (src : Source) (s : State) : State :=
  if kindEnabled s.settings k then placeOccurrence k src (raiseFlag k s) else raiseFlag k s

/-- Occurrences reported one after another. -/
def reportAll (os : List (EventKind × Source)) (s : State) : State := os.foldl (fun s o => report o.1 o.2 s) s

end Sys2Proof.Machine
end

