-- ==== Sys2Proof/Machine/Reply.lean ====
section
/-! DEFINITION. Forming frames: the layout of R183, the flags byte of R191, replies (R188) and trace frames (R193). -/

namespace Sys2Proof.Machine

/-- A whole frame: start, length, body and check (R183). -/
def frameBytes (kind tag flags : Byte) (payload : List Byte) : List Byte :=
  let covered := u8 (payload.length + 3) ++ [kind, tag, flags] ++ payload
  Config.linkStart :: covered ++ u16 (crc16 covered).toNat

/-- The flags byte of a reply or trace frame (R191). -/
def linkFlags (k : Link) : Byte :=
  BitVec.ofNat 8
    ((if k.overrunSeen then 1 else 0) + (if k.checkErrorSeen then 2 else 0) + (if k.queueNotEmpty then 4 else 0))

/-- The kind byte of a reply (R188). -/
def replyKind (kind : Byte) : Byte := if kind.toNat < 0x7E then kind + 0x80 else 0xFF

/-- Payload of a reply: the status byte, and the kind's payload after DONE. -/
def answerBytes (a : Answer) : List Byte := u8 (statusCode a.status) ++ a.payload

/-- A reply formed and sent: its flags by R191, both marks cleared at that event, transmission at once (R187). A
request that came by no frame (a request row, log 7) has its answer recorded and sends nothing. -/
def answerTo (replyTo : Option ReplyTo) (a : Answer) (restart : Bool) (s : State) : State :=
  match replyTo with
  | none => { s with link := { s.link with answer := some a } }
  | some r =>
    { s with
      link :=
        { s.link with
          answer := some a
          tx := .reply (frameBytes (replyKind r.kind) r.tag (linkFlags s.link) (answerBytes a)) restart
          overrunSeen := false
          checkErrorSeen := false
          awaiting := false } }

/-- What every request row does with the closed link port: from the end of the RESTART reply until its reset the port
serves no request (R200). -/
def whileOpen (f : State → State) (s : State) : Host.Outcome State Fault Refusal :=
  whilePowered (fun s => if s.link.closed then s else f s) s

/-- The payload of a trace frame (R193). -/
def tracePayload (s : State) : List Byte :=
  u8 (runStateCode s.demand.runState) ++ u16 s.demand.d ++ u16 s.governor.tS ++ u16 s.governor.tE
    ++ u16 s.loops.supply.flow ++ u16 s.loops.extract.flow ++ u8 (frostModeCode s.frost.mode)
    ++ u16 s.frost.heaterOutput ++ u16 s.governor.allowance
    ++ optI16 (channelValue s .tOut) ++ optI16 (channelValue s .tSup) ++ optI16 (channelValue s .tExt)
    ++ optI16 (channelValue s .tExh)

/-- A trace frame carrying a number starts to be sent; its flags leave both marks as they stand (R191, R193). -/
def startTrace (number : Nat) (s : State) : State :=
  { s with
    link :=
      { s.link with
        tx := .trace (frameBytes Config.traceKind (BitVec.ofNat 8 number) (linkFlags s.link) (tracePayload s)) } }

end Sys2Proof.Machine
end

