-- ==== Sys2Proof/Machine/Heater.lean ====
section
/-! DEFINITION. The frost guard's requested power, heater output and interlock (R75, R76), its frost reduction (R86) and
the reporting of its state (R95). -/

namespace Sys2Proof.Machine

/-- The interlock (R75), on the run state as last reported to the guard (R78). -/
def interlock (s : State) : Bool :=
  s.frost.runSeen == .run && running s.loops.supply.state && s.settings.fHmin ≤ s.loops.supply.flow

/-- The heater output set to a figure. A change is reported (R76): on a rise above 0 the heater-quiet count restarts
(R16), and HEATER ENABLE follows; a figure that becomes 0 turns HTO off (R77). -/
def setHeaterOutput (p : Nat) (s : State) : State :=
  if p = s.frost.heaterOutput then s
  else
    setHeaterEnable (0 < p)
      { s with
        frost := { s.frost with heaterOutput := p, hto := if p = 0 then false else s.frost.hto }
        measurement := if s.frost.heaterOutput = 0 then { s.measurement with quiet := 0 } else s.measurement }

/-- The interlock re-evaluated and the heater output set from it (R75). -/
def reevaluate (s : State) : State := setHeaterOutput (if interlock s then s.frost.requested else 0) s

/-- The requested power changed, which re-evaluates the interlock (R75). -/
def setRequested (p : Nat) (s : State) : State := reevaluate { s with frost := { s.frost with requested := p } }

/-- A new value of R, handed to the governor at once (R86). -/
def setReduction (r : Nat) (s : State) : State :=
  { s with frost := { s.frost with r := r }, governor := { s.governor with r := r } }

/-- floor(D × q / 100) on D as last handed on (R85). -/
def reductionNow (s : State) : Nat := s.frost.dHanded * s.settings.reduction / 100

/-- The frost state changed and FROST STATE reported; no change, no report (R95). -/
def setFrostMode (m : FrostMode) (s : State) : State :=
  if m = s.frost.mode then s
  else report .frostState (.frost m) { s with frost := { s.frost with mode := m } }

/-- The cold-run and warm-run counts set to 0. -/
def clearRuns (s : State) : State := { s with frost := { s.frost with cold := 0, warm := 0 } }

end Sys2Proof.Machine
end

