-- ==== Sys2Proof/Machine/Controller.lean ====
section
/-! DEFINITION. The demand D (R54 to R60), the humidity demand H (R154, R155) and the release of the hold (R64). -/

namespace Sys2Proof.Machine

/-- The level flow of the level selection (R54). -/
def levelFlowNow (s : State) : Nat := levelFlow s.settings s.demand.level

/-- The pull-switch demand P_sw (R57). -/
def pullDemand (s : State) : Nat := if 0 < s.demand.pullTimer then s.settings.highFlow else 0

/-- The host boost flow, 0 when the record is absent. -/
def boostFlow (s : State) : Nat :=
  match s.demand.boost with
  | some b => b.flow
  | none => 0

/-- D before its clamp (R59). -/
def demandInput (s : State) : Nat :=
  if s.demand.captureInForce then s.settings.fRef
  else
    match s.demand.hold with
    | some f => f
    | none => max (max (levelFlowNow s) (boostFlow s)) (max s.demand.h (pullDemand s))

/-- D by R59. -/
def demandOf (s : State) : Nat := clampNat (demandInput s) s.settings.fMin s.settings.fMax

/-- A new D handed to the governor and the frost guard, which in DEFROST recomputes R (R60, R86). -/
def handDemand (d : Nat) (s : State) : State :=
  let s' := { s with demand := { s.demand with d := d }, frost := { s.frost with dHanded := d } }
  if s.frost.mode = .defrost then setReduction (reductionNow s') s' else s'

/-- D recomputed; a D that is the same hands nothing on (R59, R60). -/
def recomputeDemand (s : State) : State := if demandOf s = s.demand.d then s else handDemand (demandOf s) s

/-- A hold in force released: the record absent, D recomputed, HOLD RELEASED with its cause (R64). -/
def releaseHold (c : HoldCause) (s : State) : State :=
  match s.demand.hold with
  | some _ => report .holdReleased (.hold c) (recomputeDemand { s with demand := { s.demand with hold := none } })
  | none => s

/-- A slot's record counts toward H (THE BOOST RECORD). -/
def countsTowardH (r : HumidRec) : Bool := r.boost == .boost || r.boost == .runOn

/-- The increment a slot adds to H (R154). -/
def slotIncrement (s : State) (k : Slot) : Nat :=
  if countsTowardH (s.humidity.slots.get k) then
    match s.settings.slots.get k with
    | some e => incrementOf s.settings e.kind
    | none => 0
  else 0

/-- H as R154 forms it. -/
def humidityDemand (s : State) : Nat :=
  if Slot.all.any (fun k => countsTowardH (s.humidity.slots.get k)) then
    min s.settings.humidCeiling (s.humidity.levelFlow + (Slot.all.map (slotIncrement s)).sum)
  else 0

/-- H formed, and handed to the controller when it has changed (R155, R58). -/
def formHumidity (s : State) : State :=
  if humidityDemand s = s.humidity.h then s
  else
    recomputeDemand
      { s with
        humidity := { s.humidity with h := humidityDemand s }
        demand := { s.demand with h := humidityDemand s } }

/-- The humidity response told of the level flow (R54), which forms H (R154). -/
def tellLevelFlow (s : State) : State :=
  formHumidity { s with humidity := { s.humidity with levelFlow := levelFlowNow s } }

/-- The controller told of the capture state (R58). -/
def captureReport (inForce : Bool) (s : State) : State :=
  recomputeDemand { s with demand := { s.demand with captureInForce := inForce } }

end Sys2Proof.Machine
end

