-- ==== Sys2Proof/Machine/Filter.lean ====
section
/-! DEFINITION. The filter monitor: its work on one event (`filterTake`), the events held while a rewrite of the
retained store lasts (`filterPost`, R100), and the requests that reach it (R99 to R124). -/

namespace Sys2Proof.Machine

/-- A rewrite ordered: from this event the monitor takes no other until its end (R100). The image is that of the
records, which cannot change meanwhile. -/
def orderRewrite (s : State) : State := { s with filter := { s.filter with rewriting := true } }

/-- FILTER LAMP's level (R165). -/
def lampWanted (p : PerStream FilterRec) : Bool :=
  let lit (r : FilterRec) : Bool := r.service == .due || r.service == .overdue || r.service == .unknown || r.blocked
  lit p.supply || lit p.extract

/-- A change of a service state or blocked mark reported to the auxiliary line unit (R165). -/
def reportLamp (s : State) : State :=
  if lampWanted s.filter.records = s.lines.lamp then s else setLamp (lampWanted s.filter.records) s

/-! ### Accrual (R104 to R107) -/

/-- Air added to a record (R104). -/
def accrueRecord (air : Nat) (r : FilterRec) : FilterRec :=
  { r with
    volume := saturate Config.maxVolume (r.volume + (r.carry + air) / Config.cubicMetre)
    carry := (r.carry + air) % Config.cubicMetre }

/-- Air added to a pending accrual (R106). -/
def accruePending (air : Nat) (p : Pending) : Pending :=
  { p with
    volume := saturate Config.maxVolume (p.volume + (p.carry + air) / Config.cubicMetre)
    carry := (p.carry + air) % Config.cubicMetre }

/-- Volume accrual of a stream's filter at a window end (R104). -/
def accrueVolume (x : Stream) (air : Nat) (s : State) : State :=
  if s.filter.gateOpen then setRecord x (accrueRecord air (s.filter.records.get x)) s
  else
    { s with
      filter := { s.filter with pending := s.filter.pending.set x (accruePending air (s.filter.pending.get x)) } }

/-- Service-minute accrual of a stream's filter, whose loop is `served` when it is in service at the minute (R105). -/
def accrueMinute (x : Stream) (served : Bool) (s : State) : State :=
  let r := s.filter.records.get x
  let p := s.filter.pending.get x
  if !served then s
  else if s.filter.gateOpen then
    setRecord x { r with minutes := saturate Config.maxServiceMinutes (r.minutes + 1) } s
  else
    { s with
      filter :=
        { s.filter with
          pending :=
            s.filter.pending.set x { p with minutes := saturate Config.maxPendingMinutes (p.minutes + 1) } } }

/-- A record with its pending accrual added (R107). -/
def addPending (r : FilterRec) (p : Pending) : FilterRec :=
  { r with
    volume :=
      saturate Config.maxVolume
        (saturate Config.maxVolume (r.volume + if Config.cubicMetre ≤ r.carry + p.carry then 1 else 0) + p.volume)
    carry :=
      if Config.cubicMetre ≤ r.carry + p.carry then r.carry + p.carry - Config.cubicMetre else r.carry + p.carry
    minutes := saturate Config.maxServiceMinutes (r.minutes + p.minutes) }

/-- The opening of the start-report gate (R107). -/
def openGate (s : State) : State :=
  let f := s.filter
  orderRewrite
    { s with
      filter :=
        { f with
          records :=
            { supply := addPending f.records.supply f.pending.supply
              extract := addPending f.records.extract f.pending.extract }
          pending := ⟨Pending.empty, Pending.empty⟩
          gateOpen := true } }

/-! ### Pressure tracking (R108, R109) -/

/-- The pressure sample of a window end, when one is taken (R108), of the figures that stood at that window end, F_ref
and the channel's value among them, though a rewrite may hold its taking (log 50). -/
def pressureSample (w : WindowFigures) : Option Nat :=
  match w.pressure with
  | some dp =>
    if w.state = .locked ∧ w.fRef / 2 ≤ w.flow then
      some (min 1000 (dp.toNat * w.fRef * w.fRef / (w.flow * w.flow)))
    else none
  | none => none

/-- A sample added to a capture's sums when its filter is named and the capture is in RUN (R116). -/
def sumSample (x : Stream) (v : Nat) (c : Capture) : Capture :=
  if c.state = .run ∧ c.named.get x = true then
    { c with sum := c.sum.set x (c.sum.get x + v), count := c.count.set x (c.count.get x + 1) }
  else c

/-- A sample taken (R108). -/
def takeSample (x : Stream) (v : Nat) (s : State) : State :=
  { s with
    filter :=
      { s.filter with
        latest := s.filter.latest.set x (some v)
        sampled := s.filter.sampled.set x true
        capture := sumSample x v s.filter.capture } }

/-- dp_avg at a filter minute (R109). -/
def averaged (sampled : Bool) (latest : Option Nat) (dpAvg : Nat) : Nat :=
  match sampled, latest with
  | true, some v => ((dpAvg : Int) + ((v : Int) - dpAvg).tdiv 8).toNat
  | _, _ => dpAvg

/-! ### Blocked mark and service state (R110 to R112) -/

/-- The blocked mark at a filter minute (R110). -/
def blockedMark (limit : Nat) (blocked : Bool) (dpAvg : Nat) : Bool :=
  if blocked then !(dpAvg < limit - 20) else limit ≤ dpAvg

/-- The volume share v (R112). -/
def volumeShare (set : Settings) (r : FilterRec) : Nat := 100 * r.volume / set.ratedVolume

/-- The pressure share ρ (R112). -/
def pressureShare (r : FilterRec) : Option Nat := r.baseline.map (fun b => 100 * r.dpAvg / b)

/-- The service days (R112). -/
def serviceDays (r : FilterRec) : Nat := r.minutes / 1440

/-- ρ is at or above a bound; with the baseline absent it never is. -/
def pressureReaches (bound : Nat) (r : FilterRec) : Bool :=
  match pressureShare r with
  | some p => bound ≤ p
  | none => false

/-- The furthest target state met (R112); GOOD when none is. -/
def serviceTarget (set : Settings) (r : FilterRec) : Service :=
  if 125 ≤ volumeShare set r || pressureReaches 250 r then .overdue
  else if 100 ≤ volumeShare set r || pressureReaches 200 r || set.serviceLimit ≤ serviceDays r then .due
  else if 90 ≤ volumeShare set r || pressureReaches 180 r then .dueSoon
  else .good

/-- The service state after its judgement: forward only, UNKNOWN stays (R112). -/
def serviceAfter (set : Settings) (r : FilterRec) : Service :=
  if r.service = .unknown then .unknown
  else if serviceCode r.service < serviceCode (serviceTarget set r) then serviceTarget set r
  else r.service

/-- Items 2 to 4 of a filter minute's work on one record (R103). -/
def minuteRecord (set : Settings) (sampled : Bool) (latest : Option Nat) (r : FilterRec) : FilterRec :=
  let r₁ := { r with dpAvg := averaged sampled latest r.dpAvg }
  let r₂ := { r₁ with blocked := blockedMark set.blockLimit r₁.blocked r₁.dpAvg }
  { r₂ with service := serviceAfter set r₂ }

/-- FILTER BLOCKED of one filter at a filter minute (R110, R111). -/
def blockedReports (x : Stream) (flagWas : Bool) (before after : FilterRec) : List (EventKind × Source) :=
  if after.blocked && (!before.blocked || !flagWas) then [(.filterBlocked, .filter x)] else []

/-- FILTER DUE of one filter at a filter minute (R112). -/
def dueReports (x : Stream) (before after : FilterRec) : List (EventKind × Source) :=
  if before.service = after.service then [] else [(.filterDue, .filter x)]

/-- The filter minute (R103), with the loops that are in service at it (R105). The settings and the FILTER BLOCKED flag
are read when the minute is taken (R111, R122, log 50). -/
def filterMinuteWork (served : PerStream Bool) (s : State) : State :=
  let flagWas := flagRaised s .filterBlocked
  let s₁ := accrueMinute .extract served.extract (accrueMinute .supply served.supply s)
  let f := s₁.filter
  let rs := minuteRecord s.settings f.sampled.supply f.latest.supply f.records.supply
  let re := minuteRecord s.settings f.sampled.extract f.latest.extract f.records.extract
  let s₂ := reportLamp { s₁ with filter := { f with records := ⟨rs, re⟩, sampled := ⟨false, false⟩ } }
  let s₃ :=
    reportAll
      (blockedReports .supply flagWas f.records.supply rs ++ blockedReports .extract flagWas f.records.extract re
        ++ dueReports .supply f.records.supply rs ++ dueReports .extract f.records.extract re) s₂
  orderRewrite s₃

/-! ### The baseline capture (R113 to R121) -/

/-- An abort: the capture record cleared, the controller told, CAPTURE ABORTED with its cause (R120). -/
def abortCapture (c : CaptureCause) (s : State) : State :=
  if s.filter.capture.state = .none then s
  else
    report .captureAborted (.capture c)
      (captureReport false { s with filter := { s.filter with capture := Capture.empty } })

/-- A named filter's record at the completion of a capture (R117). -/
def capturedRecord (sum count : Nat) (r : FilterRec) : FilterRec :=
  { volume := 0, carry := 0, minutes := 0, baseline := some (clampNat (sum / count) 5 500),
    dpAvg := clampNat (sum / count) 5 500, service := .good, blocked := false,
    changes := saturate 65535 (r.changes + 1) }

/-- A record at the completion of a capture, which leaves a filter not named as it was (R117). -/
def recordAfterCapture (c : Capture) (x : Stream) (r : FilterRec) : FilterRec :=
  if c.named.get x then capturedRecord (c.sum.get x) (c.count.get x) r else r

/-- CAPTURE DONE of one filter (R117). -/
def doneReports (c : Capture) (x : Stream) : List (EventKind × Source) :=
  if c.named.get x then [(.captureDone, .filter x)] else []

/-- A named filter has no sample (R117). -/
def lacksSamples (c : Capture) (x : Stream) : Bool := c.named.get x && c.count.get x == 0

/-- The end of capture RUN (R117). -/
def endCaptureRun (s : State) : State :=
  let c := s.filter.capture
  if c.state ≠ .run then s
  else if lacksSamples c .supply || lacksSamples c .extract then abortCapture .noSamples s
  else
    let s₁ :=
      reportLamp
        { s with
          filter :=
            { s.filter with
              records :=
                { supply := recordAfterCapture c .supply s.filter.records.supply
                  extract := recordAfterCapture c .extract s.filter.records.extract }
              capture := Capture.empty } }
    reportAll (doneReports c .supply ++ doneReports c .extract) (captureReport false (orderRewrite s₁))

/-- A loop works to the target it is offered (R115). -/
def onTarget (l : LoopRec) : Bool := l.state == .locked && l.taken == l.offered

/-- Both loops work to the targets they are offered (R115). -/
def loopsOnTarget (s : State) : Bool := onTarget s.loops.supply && onTarget s.loops.extract

/-- The passage from WAIT to RUN, when its conditions hold (R115); `settled` says that both loops were on target at the
window end. -/
def passToRun (settled : Bool) (s : State) : State :=
  let c := s.filter.capture
  if c.state = .wait ∧ 2 ≤ c.windows ∧ settled = true then
    captureReport true
      { s with filter := { s.filter with capture := { c with state := .run, timer := 0, lockOut := ⟨none, none⟩ } } }
  else s

/-- The window ends of loop S counted in WAIT (R115). -/
def countWindow (x : Stream) (s : State) : State :=
  let c := s.filter.capture
  if x = .supply ∧ c.state = .wait then
    { s with filter := { s.filter with capture := { c with windows := c.windows + 1 } } }
  else s

/-- The filter monitor's work at a window end handed on (R104, R108, R115, R116). -/
def filterWindowEnd (x : Stream) (w : WindowFigures) (s : State) : State :=
  let s₁ := accrueVolume x (w.flow * w.ended) s
  let s₂ :=
    match pressureSample w with
    | some v => takeSample x v s₁
    | none => s₁
  passToRun w.onTarget (countWindow x s₂)

/-- The lock-out timer of a loop whose state changed (R119). -/
def lockOutAfter (before after : LoopState) (t : Option Nat) : Option Nat :=
  if before = .locked ∧ after ≠ .locked then some 0
  else if before ≠ .locked ∧ after = .locked then none
  else t

/-- A loop's change of state reported to the filter monitor (R119). -/
def filterLoopChange (x : Stream) (before after : LoopState) (s : State) : State :=
  let c := s.filter.capture
  if c.state = .run then
    { s with
      filter :=
        { s.filter with
          capture := { c with lockOut := c.lockOut.set x (lockOutAfter before after (c.lockOut.get x)) } } }
  else s

/-- A lock-out timer's expiry (R119). -/
def lockOutExpired (x : Stream) (s : State) : State :=
  let c := s.filter.capture
  if c.state = .run ∧ (c.lockOut.get x).isSome = true then abortCapture .lock s else s

/-- A pressure channel's entry to FAILED aborts a capture that names its filter (R118). -/
def filterChannelFailed (x : Stream) (s : State) : State :=
  if s.filter.capture.named.get x then abortCapture .sensor s else s

/-! ### Requests (R114, R123, R199) -/

/-- The filters a FILTER CHANGED names: 0 F-S, 1 F-E, 2 both (R190). -/
def namedOfCode : Nat → Option (PerStream Bool)
  | 0 => some ⟨true, false⟩
  | 1 => some ⟨false, true⟩
  | 2 => some ⟨true, true⟩
  | _ => none

/-- The conditions under which FILTER CHANGED is accepted (R114). -/
def captureAllowed (s : State) : Bool :=
  s.filter.gateOpen && s.demand.runState == .run
    && (s.frost.mode == .idle || s.frost.mode == .watch || s.frost.mode == .preheat)
    && s.demand.hold.isNone && s.filter.capture.state == .none

/-- A capture entering WAIT (R114). -/
def startCapture (named : PerStream Bool) (s : State) : State :=
  captureReport true
    { s with filter := { s.filter with capture := { Capture.empty with state := .wait, named := named } } }

/-- The figures of FILTER READ (R123). The capture timer, kept in ms, is shown in whole seconds, rounded down
(log 43). -/
def filterReadPayload (x : Stream) (s : State) : List Byte :=
  let f := s.filter
  let r := f.records.get x
  let c := f.capture
  let p := f.pending.get x
  u8 (serviceCode r.service) ++ mark r.blocked ++ u32 r.volume ++ u32 r.carry ++ u32 r.minutes ++ optU16 0 r.baseline
    ++ u16 r.dpAvg ++ optU16 0xFFFF (f.latest.get x) ++ u32 (volumeShare s.settings r)
    ++ optU16 0xFFFF (pressureShare r) ++ u16 (serviceDays r) ++ u16 r.changes ++ u8 (if f.gateOpen then 0 else 1)
    ++ u32 (if f.gateOpen then 0 else p.volume) ++ u16 (if f.gateOpen then 0 else p.minutes)
    ++ u8 (retainedVerdictCode f.verdict) ++ u8 (captureStateCode c.state) ++ mark (c.named.get x)
    ++ u8 (if c.state = .run ∧ c.named.get x = true then c.count.get x else 0)
    ++ u8 (if c.state = .none then 0 else c.timer / 1000)

/-- The start report (R199). `first` says that this serving opens the gate. -/
def startReportPayload (first : Bool) (s : State) : List Byte :=
  u8 (resetKindCode s.store.resetKind) ++ u8 (retainedVerdictCode s.filter.verdict)
    ++ u8 (settingsVerdictCode s.store.verdict) ++ u16 Config.partCode.toNat ++ [Config.revision] ++ mark first

/-- A refusal: the status byte alone (R188). -/
def refusal (st : Status) : Answer := { status := st, payload := [] }

/-- DONE with a kind's reply payload. -/
def doneWith (payload : List Byte) : Answer := { status := .done, payload := payload }

/-- FILTER READ served (R123). -/
def serveFilterRead (filter : Byte) (s : State) : Answer × State :=
  match streamOfCode filter.toNat with
  | some x => (doneWith (filterReadPayload x s), s)
  | none => (refusal .range, s)

/-- FILTER CHANGED served (R114). -/
def serveFilterChanged (filter : Byte) (s : State) : Answer × State :=
  match namedOfCode filter.toNat with
  | some named => if captureAllowed s then (doneWith [], startCapture named s) else (refusal .state, s)
  | none => (refusal .range, s)

/-- START REPORT served; the first opens the gate (R199, R107). -/
def serveStartReport (s : State) : Answer × State :=
  (doneWith (startReportPayload (!s.filter.gateOpen) s), if s.filter.gateOpen then s else openGate s)

/-- A request that reaches the filter monitor, served. -/
def serveFilter (req : FilterRequest) (s : State) : Answer × State :=
  match req with
  | .read b => serveFilterRead b s
  | .changed b => serveFilterChanged b s
  | .startReport => serveStartReport s

/-! ### Taking and holding events (R100) -/

/-- The filter monitor's work at one event. -/
def filterTake (e : FilterEvent) (s : State) : State :=
  match e with
  | .windowEnd x w => filterWindowEnd x w s
  | .loopChange x before after => filterLoopChange x before after s
  | .minute served => filterMinuteWork served s
  | .waitTimeout => if s.filter.capture.state = .wait then abortCapture .timeout s else s
  | .runEnd => endCaptureRun s
  | .lockOut x => lockOutExpired x s
  | .leftRun => abortCapture .runState s
  | .frostEntry => abortCapture .frost s
  | .channelFailed x => filterChannelFailed x s
  | .request replyTo req => answerTo replyTo (serveFilter req s).1 false (serveFilter req s).2

/-- An event that reaches the monitor: taken now, or held while a rewrite lasts (R100). -/
def filterPost (e : FilterEvent) (s : State) : State :=
  if s.filter.rewriting then { s with filter := { s.filter with held := s.filter.held ++ [e] } } else filterTake e s

/-- Held events taken in the order of their arrival, until one orders a rewrite, which holds the rest (R100). -/
def drainHeld : List FilterEvent → State → State
  | [], s => s
  | e :: es, s =>
    if s.filter.rewriting then { s with filter := { s.filter with held := e :: es ++ s.filter.held } }
    else drainHeld es (filterTake e s)

/-- The end of a rewrite: the store holds the image, and the held events are taken (R100). -/
def endRewrite (s : State) : State :=
  if s.filter.rewriting then
    drainHeld s.filter.held
      { s with
        filter := { s.filter with store := storeImage s.filter.records, rewriting := false, held := [] } }
  else s

/-- A request handed to the filter monitor: served now, or its reply waits for the end of the rewrite (R100, log 8). -/
def handToFilter (replyTo : Option ReplyTo) (req : FilterRequest) (s : State) : State :=
  filterPost (.request replyTo req)
    (if s.filter.rewriting && replyTo.isSome then { s with link := { s.link with awaiting := true } } else s)

/-! ### The rows of this family -/

/-- The loops in service (R105). -/
def loopsInService (s : State) : PerStream Bool := ⟨inService s.loops.supply.state, inService s.loops.extract.state⟩

/-- The filter minute's timer expired: the minute reaches the monitor with the loops in service at it (R103, R105). -/
def filterMinute (s : State) : State := filterPost (.minute (loopsInService s)) s

/-- FILTER_MINUTE (R103). -/
def execFilterMinute (s : State) : Host.Outcome State Fault Refusal := whilePowered filterMinute s

/-- REWRITE_END (R100). -/
def execRewriteEnd (s : State) : Host.Outcome State Fault Refusal := whilePowered endRewrite s

/-- CAPTURE_WAIT_TIMEOUT (R115, R118). -/
def execCaptureWaitTimeout (s : State) : Host.Outcome State Fault Refusal := whilePowered (filterPost .waitTimeout) s

/-- CAPTURE_RUN_END (R116, R117). -/
def execCaptureRunEnd (s : State) : Host.Outcome State Fault Refusal := whilePowered (filterPost .runEnd) s

/-- LOCK_OUT_EXPIRY (R119). -/
def execLockOutExpiry (fan : Stream) (s : State) : Host.Outcome State Fault Refusal :=
  whilePowered (filterPost (.lockOut fan)) s

/-- FILTER_READ (R123). -/
def execFilterRead (filter : Byte) (s : State) : Host.Outcome State Fault Refusal :=
  whileOpen (handToFilter none (.read filter)) s

/-- FILTER_CHANGED (R114). -/
def execFilterChanged (filter : Byte) (s : State) : Host.Outcome State Fault Refusal :=
  whileOpen (handToFilter none (.changed filter)) s

/-- START_REPORT (R199, R107). -/
def execStartReport (s : State) : Host.Outcome State Fault Refusal := whileOpen (handToFilter none .startReport) s

end Sys2Proof.Machine
end

