-- ==== Sys2Proof/Machine/RunState.lean ====
section
/-! DEFINITION. The cascades between loops, governor, controller and frost guard: a flow target offered (R23, R38), a
change of run state (R46, R67), and the frost guard's transitions (R85 to R94). -/

namespace Sys2Proof.Machine

/-! ### A loop's state reported, and targets offered -/

/-- A change of a loop's state reported to the filter monitor and, for loop S, to the frost guard (R39). -/
def reportLoopChange (x : Stream) (before after : LoopState) (s : State) : State :=
  if before = after then s
  else
    let s' := filterPost (.loopChange x before after) s
    if x = .supply then reevaluate s' else s'

/-- A loop gone to STOPPED by a target of 0 or by the RESUME order: drive 0 and its counts 0 (R37, R38). The start and
pause times become 0 too, by R38 at a target of 0; R37 does not name them at the RESUME order (log 51). -/
def stopped (l : LoopRec) : LoopRec :=
  { l with
    state := .stopped, drive := 0, inBand := 0, outBand := 0, settling := 0, noEdge := 0, startTime := 0,
    pauseTime := 0 }

/-- A loop at a target-0 event (R23, R24, R37, R38). -/
def zeroTarget (l : LoopRec) : LoopRec :=
  let l' := { l with offered := 0, taken := 0, speedTarget := 0 }
  match l.state with
  | .stopped | .failed => l'
  | .starting | .settling | .locked | .unlocked | .stalled => stopped l'

/-- The governor sets a loop's target (R23, R38). -/
def offer (x : Stream) (t : Nat) (s : State) : State :=
  let l := s.loops.get x
  if t = 0 then reportLoopChange x l.state (zeroTarget l).state (setLoop x (zeroTarget l) s)
  else setLoop x { l with offered := t } s

/-- The governor sets T_S and T_E and offers them (R65, R67). -/
def setTargets (tS tE : Nat) (s : State) : State :=
  offer .extract tE (offer .supply tS { s with governor := { s.governor with tS := tS, tE := tE } })

/-! ### The resting state of the frost guard -/

/-- T_OUT is present and at or above the watch temperature (R79, R94). -/
def warmOutside (s : State) : Bool :=
  match channelValue s .tOut with
  | some t => s.settings.tWatch ≤ t
  | none => false

/-- The resting state (R94). The exit from FROST STOP it reports leaves the run state unchanged (R49). -/
def restGuard (s : State) : State :=
  let s₁ := setReduction 0 (setRequested 0 (clearRuns s))
  let s₂ := { s₁ with frost := { s₁.frost with defrostTimer := 0, stopTimer := 0 } }
  setFrostMode (if warmOutside s then .idle else .watch) s₂

/-! ### A change of run state -/

/-- The change reported to the frost guard: its interlock, and its resting state on REST, SMOKE STOP and FAULT STOP
(R46, R75, R94). -/
def guardRunReport (rs : RunState) (s : State) : State :=
  let s' := reevaluate { s with frost := { s.frost with runSeen := rs } }
  match rs with
  | .rest | .smokeStop | .faultStop => restGuard s'
  | .startup | .run | .frostStop => s'

/-- A change of run state with its reports to the governor, the frost guard and the filter monitor (R46, R67), then the
occurrence the controller places for it, then the release of a hold in force (R46). -/
def changeRunStateWith (rs : RunState) (os : List (EventKind × Source)) (s : State) : State :=
  if rs = s.demand.runState then s
  else
    let leftRun := s.demand.runState = .run
    let s₁ := { s with demand := { s.demand with runState := rs } }
    let s₂ := if rs = .run then s₁ else setTargets 0 0 s₁
    let s₃ := guardRunReport rs s₂
    let s₄ := if leftRun then filterPost .leftRun s₃ else s₃
    let s₅ := reportAll os s₄
    if leftRun then releaseHold .runState s₅ else s₅

/-- A change of run state that places no occurrence of the controller's. -/
def changeRunState (rs : RunState) (s : State) : State := changeRunStateWith rs [] s

/-- REST when the level selection is OFF, RUN otherwise (R47, R49, R53). -/
def ventilating (s : State) : RunState := if s.demand.level = .off then .rest else .run

/-- A SMOKE INPUT line reported active (R50, R51). -/
def smokeActiveReport (l : Line) (s : State) : State :=
  let s' :=
    { s with
      demand :=
        { s.demand with
          smokeActive := s.demand.smokeActive.set l true, smokeClear := 0, smokeRunning := false } }
  if s.demand.runState = .smokeStop then s'
  else
    changeRunStateWith .smokeStop [(.smokeStop, .line l)]
      { s' with demand := { s'.demand with smokeSource := some l } }

/-- Some SMOKE INPUT line is active for the controller (R53, R163). -/
def anySmoke (s : State) : Bool := Line.all.any (fun l => s.demand.smokeActive.get l)

/-- A SMOKE INPUT line reported inactive: the smoke-clear timer starts when none is left active (R51). -/
def smokeInactiveReport (l : Line) (s : State) : State :=
  let s' := { s with demand := { s.demand with smokeActive := s.demand.smokeActive.set l false } }
  if s.demand.smokeActive.get l && !anySmoke s' then
    { s' with demand := { s'.demand with smokeClear := 0, smokeRunning := true } }
  else s'

/-- A fan loop's entry to FAILED reported to the controller (R52). -/
def loopFailedReport (s : State) : State :=
  match s.demand.runState with
  | .startup | .run | .rest | .frostStop => changeRunState .faultStop s
  | .smokeStop | .faultStop => s

/-! ### Transitions of the frost guard -/

/-- The frost-stop history with a new entry, the newest three kept (R90). -/
def addEntry (now : Nat) (h : List Nat) : List Nat := if 3 ≤ h.length then (h ++ [now]).drop (h.length - 2) else h ++ [now]

/-- Three entries within 6 hours (R90). -/
def repeated (h : List Nat) : Bool :=
  match h with
  | [a, _, c] => (c : Int) - a ≤ Config.repeatSpan
  | _ => false

/-- Entry to DEFROST (R85): FROST STATE, R, and the reports to the controller and the filter monitor. -/
def enterDefrost (s : State) : State :=
  let s₁ := { s with frost := { s.frost with defrostTimer := 0, defrostLimit := s.settings.defrostMax } }
  let s₂ := setFrostMode .defrost (setReduction (reductionNow s₁) s₁)
  filterPost .frostEntry (releaseHold .frost s₂)

/-- Entry to FROST STOP (R90, R49, R64, R118); the guard's own report reaches the filter monitor before the run state's
change (log 16). -/
def enterFrostStop (s : State) : State :=
  let s₁ := setReduction 0 (setRequested 0 (clearRuns s))
  let s₂ :=
    { s₁ with
      frost :=
        { s₁.frost with
          defrostTimer := 0, stopTimer := 0, stopLimit := s.settings.stopTime
          history := addEntry s.events.seconds s₁.frost.history } }
  let s₃ := setFrostMode .frostStop s₂
  let s₄ := if repeated s₃.frost.history then report .frostRepeat .none s₃ else s₃
  let s₅ := filterPost .frostEntry (releaseHold .frost s₄)
  if s₅.demand.runState = .run then changeRunState .frostStop s₅ else s₅

/-- Entry to BLIND (R92): FROST BLIND, then FROST STATE (R95). -/
def enterBlind (s : State) : State :=
  let s₁ := setReduction 0 (setRequested (s.settings.hMax / 2) (clearRuns s))
  let s₂ := { s₁ with frost := { s₁.frost with defrostTimer := 0 } }
  setFrostMode .blind (report .frostBlind .none s₂)

/-- Entry to PREHEAT from DEFROST with the requested power kept: R 0, the counts 0 (R87, R88, R89). -/
def leaveDefrost (s : State) : State :=
  let s₁ := setReduction 0 (clearRuns s)
  setFrostMode .preheat { s₁ with frost := { s₁.frost with defrostTimer := 0 } }

/-- T_EXH present and below the frost limit (R80, R83, R88). -/
def exhaustCold (s : State) : Bool :=
  match channelValue s .tExh with
  | some t => t < s.settings.tFrost
  | none => false

/-- DEFROST ended by its maximum or by exhaustion; in any other state nothing (R88). -/
def endDefrost (s : State) : State :=
  if s.frost.mode = .defrost then
    if exhaustCold s then enterFrostStop s else leaveDefrost s
  else s

/-- Both T_OUT and T_EXH are absent (R92). -/
def bothAbsent (s : State) : Bool := (channelValue s .tOut).isNone && (channelValue s .tExh).isNone

/-- A state from which the guard goes to BLIND (R92). -/
def canGoBlind : FrostMode → Bool
  | .idle | .watch | .preheat | .defrost => true
  | .frostStop | .blind => false

/-- The move from BLIND to WATCH (R93). -/
def leaveBlind (s : State) : State := setFrostMode .watch (setRequested 0 s)

end Sys2Proof.Machine
end

