-- ==== Sys2Proof/Machine/Balance.lean ====
section
/-! DEFINITION. The balance governor's step: targets, ceiling matching and the imbalance allowance (R65 to R70). -/

namespace Sys2Proof.Machine

/-- The two flow targets of a step. -/
structure Targets where
  supply : Int
  extract : Int
  deriving DecidableEq, Repr

/-- T_S and T_E from D, O and R (R65). -/
def rawTargets (d : Nat) (offset : Int) (r : Nat) : Targets :=
  { supply := clampInt ((d : Int) + offset - r) 0 2500, extract := clampInt d 0 2500 }

/-- Ceiling matching, each limit computed from the targets as they stood (R66). -/
def ceilingMatch (set : Settings) (loops : PerStream LoopRec) (t : Targets) : Targets :=
  { supply :=
      if loops.extract.atCeiling then max 0 (min t.supply ((loops.extract.flow : Int) + set.offset + set.balanceBand))
      else t.supply
    extract :=
      if loops.supply.atCeiling then max 0 (min t.extract ((loops.supply.flow : Int) - set.offset + set.balanceBand))
      else t.extract }

/-- No fan is offered flow while the other is offered none (R65). -/
def bothOrNeither (t : Targets) : Targets :=
  if (t.supply = 0 ∧ 0 < t.extract) ∨ (t.extract = 0 ∧ 0 < t.supply) then { supply := 0, extract := 0 } else t

/-- The targets of a step taken in RUN (R65, R66). -/
def stepTargets (s : State) : Targets :=
  bothOrNeither (ceilingMatch s.settings s.loops (rawTargets s.demand.d s.settings.offset s.governor.r))

/-- The imbalance I (R68). -/
def imbalance (s : State) : Int := (s.loops.supply.flow : Int) - s.loops.extract.flow - s.settings.offset

/-- The excess X (R68). -/
def excess (s : State) : Nat := magnitude (imbalance s) - s.settings.balanceBand

/-- The charge of a step: X × W_S + carry (R68). -/
def chargeOf (s : State) : Nat := excess s * s.loops.supply.ended + s.governor.carry

/-- What ALLOWANCE EXHAUSTED does: the occurrence, and the signal to the frost guard (R70, log 29). -/
def exhausted (s : State) : State :=
  let s' := report .allowanceExhausted .none s
  { s' with frost := { s'.frost with exhaustion := true } }

/-- A charging step (R68, R70). -/
def chargeAllowance (s : State) : State :=
  let s' :=
    { s with
      governor :=
        { s.governor with
          allowance := s.governor.allowance - chargeOf s / 1000, carry := chargeOf s % 1000 } }
  if 0 < s.governor.allowance ∧ s'.governor.allowance = 0 then exhausted s' else s'

/-- A recovering step (R69). -/
def recoverAllowance (s : State) : State :=
  { s with
    governor :=
      { s.governor with
        allowance :=
          min s.settings.aMax (s.governor.allowance + s.settings.recovery * s.loops.supply.ended / 1000) } }

/-- The allowance judged at a step, after its targets are set (R68). -/
def judgeAllowance (s : State) : State :=
  if (0 < s.governor.tS ∨ 0 < s.governor.tE) ∧ 0 < excess s then chargeAllowance s else recoverAllowance s

/-- The targets of a step set: by R65 in RUN; in the other states they stay 0 (R67). -/
def stepSetTargets (s : State) : State :=
  if s.demand.runState = .run then setTargets (stepTargets s).supply.toNat (stepTargets s).extract.toNat s else s

/-- The governor's step (R65 to R70). -/
def governorStep (s : State) : State := judgeAllowance (stepSetTargets s)

end Sys2Proof.Machine
end

