-- ==== Sys2Proof/Machine/Fans.lean ====
section
/-! DEFINITION. The fan speed loops: tachometer edges (R21), the work of one window end in the order of R29, and FAN
READ (R41). -/

namespace Sys2Proof.Machine

/-! ### Measuring -/

/-- An edge within 200 µs of the previous accepted edge is a glitch (R21). -/
def isGlitch (l : LoopRec) (time : Nat) : Bool :=
  match l.lastEdge with
  | some p => time < p + Config.glitchTime
  | none => false

/-- A rising edge of the tachometer (R21). -/
def acceptEdge (time : Nat) (l : LoopRec) : LoopRec :=
  if isGlitch l time then l
  else if l.edges = 0 then { l with edges := 1, firstEdge := time, span := 0, lastEdge := some time }
  else { l with edges := l.edges + 1, span := time - l.firstEdge, lastEdge := some time }

/-- The speed of a window (R22). -/
def speedOf (n d pulses : Nat) : Nat := if n < 2 then 0 else min 6000 (60000000 * (n - 1) / (pulses * d))

/-- The pressure term floor(dp × K_p / 64) (R24). -/
def pressureTerm (c : LoopSettings) (dp : Nat) : Nat := dp * c.kp / 64

/-- The speed target S_t (R24). -/
def speedTargetOf (c : LoopSettings) (taken dp : Nat) : Nat :=
  if taken = 0 then 0 else min c.smax ((taken + pressureTerm c dp) * 1024 / c.kn)

/-- The flow estimate F_e (R27). -/
def flowOf (c : LoopSettings) (speed dp : Nat) : Nat :=
  if speed = 0 then 0
  else (clampInt (((speed * c.kn / 1024 : Nat) : Int) - (pressureTerm c dp : Nat)) 0 2500).toNat

/-- pct of the lock-band setting; absent with OFF (R28). -/
def bandPercent : LockBand → Option Nat
  | .narrow => some 2
  | .normal => some 4
  | .wide => some 8
  | .off => none

/-- The band on a speed target; 0 with OFF (R28, R41). -/
def bandOf (b : LockBand) (speedTarget : Nat) : Nat :=
  match bandPercent b with
  | some pct => max 30 (speedTarget * pct / 100)
  | none => 0

/-- |S_t − speed| -/
def speedGap (l : LoopRec) : Nat := magnitude ((l.speedTarget : Int) - l.speed)

/-- Whether a window end is in band (R28), on this window end's figures. -/
def windowInBand (b : LockBand) (l : LoopRec) : Bool := b != .off && speedGap l ≤ l.band

/-- Items 1 to 3 of R29: measurement, target, S_t, flow estimate and band, with the window timer (R20) and the start and
pause times (R31, R36). -/
def measureWindow (set : Settings) (c : LoopSettings) (dp : Nat) (l : LoopRec) : LoopRec :=
  let speed := speedOf l.edges l.span c.pulses
  let taken := if l.state = .starting then l.taken else l.offered
  let target := speedTargetOf c taken dp
  { l with
    n := l.edges, d := l.span, edges := 0, span := 0
    speed := speed, taken := taken, speedTarget := target, shownTarget := target, flow := flowOf c speed dp
    band := bandOf set.lockBand target
    ended := l.window, window := c.window
    startTime := if l.state = .starting then saturate 2000 (l.startTime + l.window) else l.startTime
    pauseTime := if l.state = .stalled then saturate 10000 (l.pauseTime + l.window) else l.pauseTime }

/-- The speed error e (R25). -/
def speedError (l : LoopRec) : Int := (l.speedTarget : Int) - l.speed

/-- The drive update (R25). -/
def drivenTo (c : LoopSettings) (l : LoopRec) : Nat :=
  (clampInt ((l.drive : Int) + (speedError l * c.gain).tdiv 256) c.dmin 1000).toNat

/-- The drive update and the AT CEILING mark (R25, R26). -/
def updateDrive (c : LoopSettings) (l : LoopRec) : LoopRec :=
  if running l.state then
    { l with drive := drivenTo c l, atCeiling := drivenTo c l == 1000 && 0 < speedError l }
  else { l with atCeiling := false }

/-! ### Stalls and transitions -/

/-- The no-edge run (R35). -/
def noEdgeAfter (c : LoopSettings) (l : LoopRec) : Nat :=
  if running l.state then
    if l.n < 2 ∧ 0 < l.speedTarget ∧ c.dmin ≤ l.drive then l.noEdge + 1 else 0
  else l.noEdge

/-- Entry to STALLED, which at the third stall is an entry to FAILED (R36, R37). -/
def enterStall (l : LoopRec) : LoopRec :=
  if 3 ≤ l.stallCount + 1 then
    { l with
      state := .failed, stallCount := 3, drive := 0, atCeiling := false, noEdge := 0, latch := true,
      failReport := true }
  else
    { l with
      state := .stalled, stallCount := l.stallCount + 1, drive := 0, pauseTime := 0, atCeiling := false, noEdge := 0,
      latch := true }

/-- Entry to STARTING (R30, R36). -/
def enterStarting (c : LoopSettings) (l : LoopRec) : LoopRec :=
  { l with
    state := .starting, drive := c.startDrive, startTime := 0, inBand := 0, outBand := 0, settling := 0, noEdge := 0 }

/-- Entry to LOCKED (R33). -/
def enterLocked (l : LoopRec) : LoopRec := { l with state := .locked, stallCount := 0, outBand := 0 }

/-- Entry to UNLOCKED (R34). -/
def enterUnlocked (l : LoopRec) : LoopRec := { l with state := .unlocked, inBand := 0 }

/-- Entry to SETTLING from LOCKED (R33). -/
def resettle (l : LoopRec) : LoopRec := { l with state := .settling, inBand := 0, settling := 0 }

/-- A window end that begins in STOPPED (R30). -/
def stoppedEnd (c : LoopSettings) (l : LoopRec) : LoopRec := if 0 < l.taken then enterStarting c l else l

/-- A window end that begins in STARTING (R31). -/
def startingEnd (l : LoopRec) : LoopRec :=
  if l.startTime < 2000 then l
  else if 0 < l.speed then { l with state := .settling, inBand := 0, settling := 0, noEdge := 0 }
  else enterStall l

/-- A run that grows while a condition holds and is 0 otherwise. -/
def runAfter (held : Bool) (count : Nat) : Nat := if held then count + 1 else 0

/-- A window end that begins in SETTLING (R32). -/
def settlingEnd (b : LockBand) (l : LoopRec) : LoopRec :=
  let l' := { l with settling := l.settling + 1, inBand := runAfter (windowInBand b l) l.inBand }
  if 3 ≤ l'.inBand then enterLocked l' else if 20 ≤ l'.settling then enterUnlocked l' else l'

/-- The speed target has moved by more than the band; not judged with the lock band OFF, which has no band (R33, R28,
log 19). -/
def targetMoved (b : LockBand) (before : Nat) (l : LoopRec) : Bool :=
  b != .off && l.band < magnitude ((l.speedTarget : Int) - before)

/-- A window end that begins in LOCKED; `before` is the S_t of the previous window end (R33). -/
def lockedEnd (b : LockBand) (before : Nat) (l : LoopRec) : LoopRec :=
  if targetMoved b before l then resettle l
  else
    let l' := { l with outBand := runAfter (!windowInBand b l) l.outBand }
    if 2 ≤ l'.outBand then enterUnlocked l' else l'

/-- A window end that begins in UNLOCKED (R34). -/
def unlockedEnd (b : LockBand) (l : LoopRec) : LoopRec :=
  let l' := { l with inBand := runAfter (windowInBand b l) l.inBand }
  if 3 ≤ l'.inBand then enterLocked l' else l'

/-- A window end that begins in STALLED (R36). -/
def stalledEnd (c : LoopSettings) (l : LoopRec) : LoopRec :=
  if l.pauseTime < 10000 then l else if 0 < l.taken then enterStarting c l else { l with state := .stopped, noEdge := 0 }

/-- A window end that begins in FAILED: the fail-report mark is set by the re-raise of R43. -/
def failedEnd (l : LoopRec) : LoopRec := { l with failReport := true }

/-- The stall judgement, then the transition of the state the window end began in (R29). -/
def transition (b : LockBand) (c : LoopSettings) (before : Nat) (l : LoopRec) : LoopRec :=
  let l' := { l with noEdge := noEdgeAfter c l }
  if running l.state && 3 ≤ l'.noEdge then enterStall l'
  else
    match l.state with
    | .stopped => stoppedEnd c l'
    | .starting => startingEnd l'
    | .settling => settlingEnd b l'
    | .locked => lockedEnd b before l'
    | .unlocked => unlockedEnd b l'
    | .stalled => stalledEnd c l'
    | .failed => failedEnd l'

/-- The lock-loss latch, judged on the state in which the window end leaves the loop (R40). -/
def judgeLatch (b : LockBand) (l : LoopRec) : LoopRec :=
  let set :=
    match l.state with
    | .unlocked | .stalled | .failed => true
    | .stopped => false
    | .starting | .settling | .locked => b == .off
  { l with latch := l.latch || set }

/-- The loop at the end of one window end (R29). -/
def windowLoop (set : Settings) (c : LoopSettings) (dp : Nat) (l : LoopRec) : LoopRec :=
  judgeLatch set.lockBand
    (transition set.lockBand c l.speedTarget (updateDrive c (measureWindow set c dp l)))

/-- The occurrences of a window end (R42, R43). -/
def loopReports (x : Stream) (before after : LoopRec) : List (EventKind × Source) :=
  match before.state, after.state with
  | .settling, .unlocked => [(.fanLockLost, .fan x)]
  | .locked, .unlocked => [(.fanLockLost, .fan x)]
  | .failed, .failed => if before.failReport then [] else [(.fanFail, .fan x)]
  | _, .failed => [(.fanFail, .fan x)]
  | .stalled, .stalled => []
  | _, .stalled => [(.fanStall, .fan x)]
  | _, _ => []

/-! ### The window end and its readers -/

/-- The reports of a transition: occurrences, entry to FAILED, change of state (R37, R39, R42). -/
def reportTransition (x : Stream) (before after : LoopRec) (s : State) : State :=
  let s₁ := reportAll (loopReports x before after) s
  let s₂ := if before.state ≠ .failed ∧ after.state = .failed then loopFailedReport s₁ else s₁
  reportLoopChange x before.state after.state s₂

/-- What a loop's window end hands on to the filter monitor: the figures that the window end left in the loop `l`, and
what R108 and R115 read of the other blocks at it (log 18, 50). -/
def windowFigures (x : Stream) (l : LoopRec) (s : State) : WindowFigures :=
  { state := l.state, flow := l.flow, ended := l.ended, pressure := channelValue s (pressureChannel x)
    fRef := s.settings.fRef, onTarget := loopsOnTarget s }

/-- The window end handed to its readers: for loop S the governor and the frost guard, then the filter monitor (R39,
log 18). -/
def handWindowEnd (x : Stream) (s : State) : State :=
  let s' := if x = .supply then reevaluate (governorStep s) else s
  filterPost (.windowEnd x (windowFigures x (s.loops.get x) s')) s'

/-- A loop's window end (R29). -/
def windowEnd (x : Stream) (s : State) : State :=
  let before := s.loops.get x
  let after := windowLoop s.settings (s.settings.loops.get x) (loopPressure s x) before
  handWindowEnd x (reportTransition x before after (setLoop x after s))

/-- TACH_EDGE (R21). -/
def execTachEdge (fan : Stream) (time : Nat) (s : State) : Host.Outcome State Fault Refusal :=
  whilePowered (fun s => setLoop fan (acceptEdge time (s.loops.get fan)) s) s

/-- WINDOW_END (R29). -/
def execWindowEnd (fan : Stream) (s : State) : Host.Outcome State Fault Refusal := whilePowered (windowEnd fan) s

/-! ### FAN READ -/

/-- The figures of FAN READ (R41). The S_t shown is that of the latest window end, also after a target-0 event has made
the loop's S_t 0 (R24, R38, log 42). -/
def fanReadPayload (l : LoopRec) : List Byte :=
  u8 (loopStateCode l.state) ++ u16 l.drive ++ u16 l.speed ++ u16 l.n ++ u16 l.offered ++ u16 l.taken
    ++ u16 l.shownTarget ++ u16 l.band ++ u16 l.flow ++ mark l.atCeiling ++ mark l.latch ++ u8 l.stallCount
    ++ u16 l.ended

/-- FAN READ served, which clears the named loop's latch (R41, R40). -/
def serveFanRead (fan : Byte) (s : State) : Answer × State :=
  match streamOfCode fan.toNat with
  | some x => (doneWith (fanReadPayload (s.loops.get x)), setLoop x { s.loops.get x with latch := false } s)
  | none => (refusal .range, s)

end Sys2Proof.Machine
end

