-- ==== Sys2Proof/Machine/Frost.lean ====
section
/-! DEFINITION. The frost guard's own events: the frost period with its state rules (R74 to R87, R91 to R93), the heater
cycle (R77), the signals that end DEFROST (R88), the stop timer (R91), and the channel reports (R89, R92, R93). -/

namespace Sys2Proof.Machine

/-! ### State rules of a frost period -/

/-- Requested power stepped by 50 toward 5 to 15 tenths above the frost limit (R81). -/
def stepPower (set : Settings) (tExh : Int) (power : Nat) : Nat :=
  if tExh < set.tFrost + 5 then min set.hMax (power + 50)
  else if set.tFrost + 15 < tExh then power - 50
  else power

/-- The requested power of the degraded form (R80, R84). -/
def degradedPower (set : Settings) (tOut : Int) : Nat := (clampInt ((set.tWatch - tOut) * 20) 0 set.hMax).toNat

/-- Entry to PREHEAT from WATCH (R80). -/
def enterPreheat (power : Nat) (s : State) : State := setFrostMode .preheat (setRequested power (clearRuns s))

/-- IDLE (R79). -/
def idleRule (s : State) : State := if warmOutside s then s else setFrostMode .watch s

/-- Item 2 of R80: a fresh effectiveness below its floor with T_OUT below −5.0 °C. -/
def iceSuspected (s : State) : Bool :=
  match s.measurement.effectiveness, channelValue s .tOut with
  | some e, some t => s.measurement.fresh && e < s.settings.effFloor && t < -50
  | _, _ => false

/-- T_OUT present and 10 tenths or more above the watch temperature (R80, R84). -/
def outsideReleased (s : State) : Bool :=
  match channelValue s .tOut with
  | some t => s.settings.tWatch + 10 ≤ t
  | none => false

/-- Item 3 of R80: T_EXH absent with T_OUT present and below the watch temperature; the power it asks. -/
def unknownExhaustPower (s : State) : Option Nat :=
  match channelValue s .tExh, channelValue s .tOut with
  | none, some t => if t < s.settings.tWatch then some (degradedPower s.settings t) else none
  | _, _ => none

/-- WATCH, in RUN (R80). -/
def watchRunRule (s : State) : State :=
  if exhaustCold s || iceSuspected s then enterPreheat (min 500 s.settings.hMax) s
  else
    match unknownExhaustPower s with
    | some p => enterPreheat p s
    | none => if outsideReleased s then setFrostMode .idle s else s

/-- WATCH (R80, R78). -/
def watchRule (s : State) : State :=
  if s.frost.runSeen = .run then watchRunRule s else if outsideReleased s then setFrostMode .idle s else s

/-- The heater is unable to rise (R83). -/
def unableToRise (s : State) : Bool :=
  s.frost.requested == s.settings.hMax || s.settings.hMax == 0 || !interlock s

/-- Escalation, on A as it stands (R83). -/
def escalate (s : State) : State :=
  let s' := { s with frost := { s.frost with cold := 0 } }
  if s.settings.aEnter ≤ s.governor.allowance then enterDefrost s' else enterFrostStop s'

/-- The escalation judgement of a period in PREHEAT (R83). -/
def judgeEscalation (tExh : Int) (s : State) : State :=
  let cold := runAfter (decide (tExh < s.settings.tFrost) && unableToRise s) s.frost.cold
  if 6 ≤ cold then escalate s else { s with frost := { s.frost with cold := cold } }

/-- PREHEAT with T_EXH present (R81 to R83). -/
def preheatNormal (tExh : Int) (s : State) : State :=
  let s₁ := setRequested (stepPower s.settings tExh s.frost.requested) s
  let warm := runAfter (s₁.frost.requested == 0 && decide (s.settings.tFrost + 15 ≤ tExh)) s₁.frost.warm
  if 3 ≤ warm then setFrostMode .watch (clearRuns s₁)
  else judgeEscalation tExh { s₁ with frost := { s₁.frost with warm := warm } }

/-- PREHEAT in its degraded form (R84). Its move to WATCH sets both counts to 0 (log 44). -/
def preheatDegraded (tOut : Int) (s : State) : State :=
  let s₁ := setRequested (degradedPower s.settings tOut) s
  let warm := runAfter (s₁.frost.requested == 0 && decide (s.settings.tWatch + 10 ≤ tOut)) s₁.frost.warm
  if 3 ≤ warm then setFrostMode .watch (clearRuns s₁)
  else { s₁ with frost := { s₁.frost with cold := 0, warm := warm } }

/-- PREHEAT (R81 to R84). -/
def preheatRule (s : State) : State :=
  match channelValue s .tExh, channelValue s .tOut with
  | some t, _ => preheatNormal t s
  | none, some t => preheatDegraded t s
  | none, none => s

/-- DEFROST (R86, R87). -/
def defrostRule (s : State) : State :=
  let s₁ := setReduction (reductionNow s) s
  match channelValue s .tExh with
  | some t =>
    let s₂ := setRequested (stepPower s.settings t s.frost.requested) s₁
    if s.settings.tRelease ≤ t then leaveDefrost s₂ else s₂
  | none => s₁

/-- BLIND; `flagWas` is the FROST BLIND flag as the period began (R93). -/
def blindRule (flagWas : Bool) (s : State) : State :=
  if !bothAbsent s then leaveBlind s
  else
    let s' := setRequested (s.settings.hMax / 2) s
    if flagWas then s' else report .frostBlind .none s'

/-- The rule of the state the guard is in; PREHEAT and DEFROST act in RUN only (R78). -/
def stateRule (flagWas : Bool) (s : State) : State :=
  match s.frost.mode with
  | .idle => idleRule s
  | .watch => watchRule s
  | .preheat => if s.frost.runSeen = .run then preheatRule s else s
  | .defrost => if s.frost.runSeen = .run then defrostRule s else s
  | .frostStop => s
  | .blind => blindRule flagWas s

/-- The BLIND judgement, and the state's rule when BLIND is not entered (R74, R92). -/
def judgePeriod (s : State) : State :=
  if bothAbsent s && canGoBlind s.frost.mode then enterBlind s else stateRule (flagRaised s .frostBlind) s

/-- A new heater cycle (R77). -/
def startCycle (s : State) : State :=
  { s with frost := { s.frost with applied := s.frost.heaterOutput, hto := decide (0 < s.frost.heaterOutput) } }

/-- The frost period (R74). -/
def frostPeriod (s : State) : State := startCycle (reevaluate (judgePeriod s))

/-! ### Signalled events -/

/-- The end of the on-time: HTO off for the rest of the cycle, which at an applied output of 1000 has no rest (R77,
log 33). -/
def endOnTime (s : State) : State :=
  if s.frost.applied < 1000 then { s with frost := { s.frost with hto := false } } else s

/-- The exhaustion signal taken (R88). -/
def takeExhaustion (s : State) : State := endDefrost { s with frost := { s.frost with exhaustion := false } }

/-- The guard's exit from FROST STOP reported to the controller (R49). -/
def frostExitReport (s : State) : State :=
  if s.demand.runState = .frostStop then changeRunState (ventilating s) s else s

/-- The stop timer's expiry; in any other state nothing (R91). -/
def endFrostStop (s : State) : State :=
  if s.frost.mode = .frostStop then
    let s₁ := setRequested s.settings.hMax (clearRuns { s with frost := { s.frost with stopTimer := 0 } })
    frostExitReport (setFrostMode .preheat s₁)
  else s

/-- T_OUT or T_EXH reported absent (R89, R92). -/
def guardAbsentReport (c : Channel) (s : State) : State :=
  if bothAbsent s && canGoBlind s.frost.mode then enterBlind s
  else if c = .tExh ∧ s.frost.mode = .defrost then leaveDefrost s
  else s

/-- T_OUT or T_EXH reported present (R93); in PREHEAT the counts resume from 0 when T_EXH is back (R84, log 25). -/
def guardPresentReport (c : Channel) (s : State) : State :=
  if s.frost.mode = .blind then leaveBlind s
  else if c = .tExh ∧ s.frost.mode = .preheat then clearRuns s
  else s

/-- A change of a temperature channel reported to the frost guard (R12). -/
def guardChannelReport (c : Channel) (before after : ChannelRec) (s : State) : State :=
  match before.value, after.value with
  | some _, none => guardAbsentReport c s
  | none, some _ => guardPresentReport c s
  | _, _ => s

/-! ### The rows of this family -/

/-- EXHAUSTION_SIGNAL (R88). -/
def execExhaustionSignal (s : State) : Host.Outcome State Fault Refusal := whilePowered takeExhaustion s

/-- FROST_PERIOD (R74). -/
def execFrostPeriod (s : State) : Host.Outcome State Fault Refusal := whilePowered frostPeriod s

/-- HTO_ON_TIME_END (R77). -/
def execHtoOnTimeEnd (s : State) : Host.Outcome State Fault Refusal := whilePowered endOnTime s

/-- DEFROST_MAXIMUM_EXPIRY (R88). -/
def execDefrostMaximumExpiry (s : State) : Host.Outcome State Fault Refusal := whilePowered endDefrost s

/-- STOP_TIMER_EXPIRY (R91). -/
def execStopTimerExpiry (s : State) : Host.Outcome State Fault Refusal := whilePowered endFrostStop s

end Sys2Proof.Machine
end

