-- ==== Sys2Proof/Machine/Measure.lean ====
section
/-! DEFINITION. The measurement unit: sample events (R1, R2), the second end (R6 to R17) with the end of STARTUP (R47),
and INJECT on a channel (R15). -/

namespace Sys2Proof.Machine

/-! ### The sample event -/

/-- A channel's sample: spoiled by an injection count above 0, converted otherwise (R2). -/
def sampleOf (ch : Channel) (code : Nat) (r : ChannelRec) : Sample :=
  if 0 < r.injection then .bad .injected else convert ch code

/-- One sample added to a channel's account (R2, R6); the injection count is consumed. -/
def sampleChannel (ch : Channel) (code : Nat) (r : ChannelRec) : ChannelRec :=
  match sampleOf ch code r with
  | .good v => { r with sum := r.sum + v, injection := r.injection - 1 }
  | .bad cause => { r with bad := r.bad + 1, lastFault := cause, injection := r.injection - 1 }

/-- The samples of one sample event added to the measurement second in progress (R1). -/
def addSamples (codes : PerChannel Code) (s : State) : State :=
  { s with
    measurement :=
      { s.measurement with
        channels := s.measurement.channels.update (fun c r => sampleChannel c (codes.get c).toNat r)
        samples := s.measurement.samples + 1 } }

/-- The measurement second is closed: its fourth sample event has been added (R1). -/
def secondClosed (s : State) : Bool := 4 ≤ s.measurement.samples

/-! ### The second end -/

/-- A channel gone to VALID with a value (R7, R8). -/
def becomeValid (v : Int) (r : ChannelRec) : ChannelRec :=
  { r with state := .valid, value := some v, last := some v, first := true, badSeconds := 0, recovery := 0 }

/-- A good second (R7, R8). -/
def goodSecond (v : Int) (r : ChannelRec) : ChannelRec :=
  match r.state with
  | .valid | .suspect => { r with state := .valid, value := some v, last := some v, badSeconds := 0 }
  | .failed =>
    if !r.first then becomeValid v r
    else if 10 ≤ r.recovery + 1 then becomeValid v r
    else { r with recovery := r.recovery + 1 }

/-- A bad second (R9, R10). -/
def badSecond (r : ChannelRec) : ChannelRec :=
  match r.state with
  | .valid => { r with state := .suspect, badSeconds := 1 }
  | .suspect =>
    if 5 ≤ r.badSeconds + 1 then { r with state := .failed, value := none, badSeconds := 5, recovery := 0 }
    else { r with badSeconds := r.badSeconds + 1 }
  | .failed => { r with recovery := 0 }

/-- A channel's second judged, its account emptied (R6), and the figures that the second end leaves to be shown (R18,
log 49). -/
def judgeSecond (r : ChannelRec) : ChannelRec :=
  { (if r.bad = 0 then goodSecond (r.sum / 4) r else badSecond r) with
    sum := 0, bad := 0, shownFault := r.lastFault, shownInjection := r.injection }

/-- SENSOR FAILED of one channel at a second end; `flagWas` is the flag as the second end began (R13, R14). -/
def sensorReports (flagWas : Bool) (c : Channel) (before after : ChannelRec) : List (EventKind × Source) :=
  if after.state = .failed ∧ (before.state ≠ .failed ∨ flagWas = false) then [(.sensorFailed, .channel c)] else []

/-- The heater-quiet count at a second end (R16). -/
def quietAfter (output quiet : Nat) : Nat := if 0 < output then 0 else saturate 120 (quiet + 1)

/-- The effectiveness when the conditions of R17 hold. -/
def effectivenessNow (s : State) : Option Nat :=
  match channelValue s .tOut, channelValue s .tSup, channelValue s .tExt with
  | some tOut, some tSup, some tExt =>
    if s.measurement.quiet = 120 ∧ s.loops.supply.state = .locked ∧ s.loops.extract.state = .locked
        ∧ 50 ≤ tExt - tOut then
      some (clampInt (1000 * (tSup - tOut) / (tExt - tOut)) 0 1000).toNat
    else none
  | _, _, _ => none

/-- The effectiveness computed fresh, or held with its fresh mark cleared (R17). -/
def judgeEffectiveness (s : State) : State :=
  match effectivenessNow s with
  | some e => { s with measurement := { s.measurement with effectiveness := some e, fresh := true } }
  | none => { s with measurement := { s.measurement with fresh := false } }

/-- The six seconds judged (R6). -/
def judgeSeconds (s : State) : State :=
  { s with
    measurement :=
      { s.measurement with channels := s.measurement.channels.update (fun _ r => judgeSecond r), samples := 0 } }

/-- The heater-quiet count one second later (R16), on the heater output as the second end found it (log 48). -/
def countQuiet (s : State) : State :=
  { s with measurement := { s.measurement with quiet := quietAfter s.frost.heaterOutput s.measurement.quiet } }

/-- The six seconds judged, the effectiveness, and the heater-quiet count (R6, R16, R17). The effectiveness reads the
count as the second end finds it: the table "The first second after a reset" has it below 120 at second end 120, where
its own increase brings it to 120. -/
def judgeAll (s : State) : State := countQuiet (judgeEffectiveness (judgeSeconds s))

/-- The SENSOR FAILED occurrences of a second end, in channel order (R14). -/
def secondReports (flagWas : Bool) (before after : PerChannel ChannelRec) : List (EventKind × Source) :=
  Channel.all.flatMap (fun c => sensorReports flagWas c (before.get c) (after.get c))

/-- A pressure channel's change reported to the filter monitor, which acts on its entry to FAILED (R12, R118). -/
def pressureReport (x : Stream) (before after : ChannelRec) (s : State) : State :=
  if before.state ≠ .failed ∧ after.state = .failed then filterPost (.channelFailed x) s else s

/-- The state changes of a second end reported to their readers (R12). -/
def reportChanges (before after : PerChannel ChannelRec) (s : State) : State :=
  pressureReport .extract before.dpE after.dpE
    (pressureReport .supply before.dpS after.dpS
      (guardChannelReport .tExh before.tExh after.tExh (guardChannelReport .tOut before.tOut after.tOut s)))

/-- The first SMOKE INPUT line active for the controller. -/
def firstSmoke (s : State) : Option Line := Line.all.find? (fun l => s.demand.smokeActive.get l)

/-- The end of STARTUP (R47). -/
def leaveStartup (s : State) : State :=
  if s.demand.runState = .startup then
    match firstSmoke s with
    | some l =>
      changeRunStateWith .smokeStop [(.smokeStop, .line l)]
        { s with demand := { s.demand with smokeSource := some l } }
    | none => changeRunState (ventilating s) s
  else s

/-- The second end of a closed second (R6, R12, R14, R47). The heater-quiet count is judged before the frost guard acts on
the channel reports: no rule orders the two (log 48). -/
def judgeClosed (s : State) : State :=
  let before := s.measurement.channels
  let s₁ := judgeAll s
  let after := s₁.measurement.channels
  let s₂ := reportAll (secondReports (flagRaised s .sensorFailed) before after) s₁
  leaveStartup (reportChanges before after s₂)

/-- The second end: it is taken at the fourth sample event of a second and at no other (R1, log 28). -/
def secondEnd (s : State) : State := if secondClosed s then judgeClosed s else s

/-- A sample event (R1): a second still to be judged is judged before the first sample of the next (log 28). -/
def sampleAll (codes : PerChannel Code) (s : State) : State := addSamples codes (secondEnd s)

/-! ### INJECT on a channel -/

/-- INJECT naming a channel served (R15, R190). -/
def serveInjectChannel (channel count : Byte) (s : State) : Answer × State :=
  match channelOfCode channel.toNat with
  | some c =>
    if 1 ≤ count.toNat ∧ count.toNat ≤ 15 then
      (doneWith [], setChannel c { s.measurement.channels.get c with injection := count.toNat } s)
    else (refusal .range, s)
  | none => (refusal .range, s)

/-! ### The rows of this family -/

/-- SAMPLE_EVENT (R1, R2). -/
def execSampleEvent (codes : PerChannel Code) (s : State) : Host.Outcome State Fault Refusal :=
  whilePowered (sampleAll codes) s

/-- SECOND_END (R6). -/
def execSecondEnd (s : State) : Host.Outcome State Fault Refusal := whilePowered secondEnd s

end Sys2Proof.Machine
end

