-- ==== Sys2Proof/Machine/Demand.lean ====
section
/-! DEFINITION. The demand and run controller's requests and timers: LEVEL SET (R48), BOOST (R55), HOLD TAKE (R61),
RESUME (R53), the demand second (R56), the pull-switch timer (R57) and the silence timer (R63). -/

namespace Sys2Proof.Machine

/-! ### LEVEL SET -/

/-- The run state LEVEL SET leaves the unit in: only RUN and REST are moved (R48). -/
def runStateForLevel (level : Level) (rs : RunState) : RunState :=
  match rs with
  | .run => if level = .off then .rest else .run
  | .rest => if level = .off then .rest else .run
  | .startup => .startup
  | .frostStop => .frostStop
  | .smokeStop => .smokeStop
  | .faultStop => .faultStop

/-- The level selection replaced (R48, R54): the humidity response is told, D is recomputed, and the run state moves
between RUN and REST. The level already selected changes nothing (log 31). -/
def setLevel (level : Level) (s : State) : State :=
  if level = s.demand.level then s
  else
    let s' := recomputeDemand (tellLevelFlow { s with demand := { s.demand with level := level } })
    changeRunState (runStateForLevel level s'.demand.runState) s'

/-- LEVEL SET served (R48). -/
def serveLevelSet (level : Byte) (s : State) : Answer × State :=
  match levelOfCode level.toNat with
  | some l => (doneWith [], setLevel l s)
  | none => (refusal .range, s)

/-! ### BOOST -/

/-- The record BOOST leaves (R55). -/
def boostRecord (flow minutes : Nat) : Option HostBoost :=
  if minutes = 0 then none else some { flow := flow, seconds := minutes * 60 }

/-- BOOST served (R55). -/
def serveBoost (flow : Half) (minutes : Byte) (s : State) : Answer × State :=
  if 2500 < flow.toNat ∨ 120 < minutes.toNat then (refusal .range, s)
  else
    (doneWith [],
      recomputeDemand { s with demand := { s.demand with boost := boostRecord flow.toNat minutes.toNat } })

/-! ### HOLD TAKE -/

/-- The conditions under which HOLD TAKE is accepted (R61). -/
def holdAllowed (s : State) : Bool :=
  s.demand.runState == .run && !s.demand.captureInForce && s.frost.mode != .defrost && s.frost.mode != .frostStop

/-- HOLD TAKE served (R61). -/
def serveHoldTake (flow : Half) (s : State) : Answer × State :=
  if flow.toNat = 0 ∨ 2500 < flow.toNat then (refusal .range, s)
  else if holdAllowed s then
    (doneWith [], recomputeDemand { s with demand := { s.demand with hold := some flow.toNat } })
  else (refusal .state, s)

/-! ### RESUME -/

/-- A loop ordered out of FAILED (R37, R43), its start and pause times 0 too (log 51). -/
def orderOut (l : LoopRec) : LoopRec :=
  if l.state = .failed then { stopped l with stallCount := 0, failReport := false } else l

/-- The controller orders a FAILED loop out of FAILED (R53, R37, R39). -/
def orderOutLoop (x : Stream) (s : State) : State :=
  let l := s.loops.get x
  reportLoopChange x l.state (orderOut l).state (setLoop x (orderOut l) s)

/-- RESUME in SMOKE STOP is refused while smoke is active or cleared for less than 5 s (R53). -/
def smokeCleared (s : State) : Bool := !anySmoke s && Config.smokeClearTime ≤ s.demand.smokeClear

/-- The run state in which an accepted RESUME leaves SMOKE STOP (R53). -/
def afterSmoke (s : State) : RunState := if anyLoopFailed s then .faultStop else ventilating s

/-- RESUME served (R53). -/
def serveResume (s : State) : Answer × State :=
  match s.demand.runState with
  | .smokeStop =>
    if smokeCleared s then
      (doneWith [], changeRunState (afterSmoke s) { s with demand := { s.demand with smokeSource := none } })
    else (refusal .state, s)
  | .faultStop =>
    let s' := orderOutLoop .extract (orderOutLoop .supply s)
    (doneWith [], changeRunState (ventilating s') s')
  | .startup | .run | .rest | .frostStop => (refusal .state, s)

/-! ### Timers -/

/-- The pull-switch timer set, D recomputed when it starts or stops (R57). -/
def setPullTimer (t : Nat) (s : State) : State :=
  recomputeDemand { s with demand := { s.demand with pullTimer := t } }

/-- An active edge on a PULL SWITCH line (R57). -/
def pullEdge (s : State) : State := setPullTimer (s.settings.switchTime * 60) s

/-- The host boost record with one second less; absent when it reaches 0 (R56). -/
def boostSecond : Option HostBoost → Option HostBoost
  | some b => if b.seconds ≤ 1 then none else some { b with seconds := b.seconds - 1 }
  | none => none

/-- The demand second (R56, R57), with the re-raise of SMOKE STOP (R51). -/
def demandSecond (s : State) : State :=
  let s' :=
    recomputeDemand
      { s with
        demand := { s.demand with boost := boostSecond s.demand.boost, pullTimer := s.demand.pullTimer - 1 } }
  if s'.demand.runState = .smokeStop ∧ flagRaised s .smokeStop = false then
    match s'.demand.smokeSource with
    | some l => report .smokeStop (.line l) s'
    | none => report .smokeStop .none s'
  else s'

/-- The host boost record reaches 0 (R56). -/
def boostExpired (s : State) : State := recomputeDemand { s with demand := { s.demand with boost := none } }

/-- The pull-switch timer reaches 0 (R57). -/
def pullExpired (s : State) : State := setPullTimer 0 s

/-- The silence timer's expiry: it releases a hold in force when the timer has reached 30,000 ms, which a frame that
arrived before the expiry was taken has restarted (R63, log 4). -/
def silenceExpired (s : State) : State :=
  if Config.silenceTime ≤ s.demand.silence then releaseHold .silence s else s

/-! ### The rows of this family -/

/-- DEMAND_SECOND (R56). -/
def execDemandSecond (s : State) : Host.Outcome State Fault Refusal := whilePowered demandSecond s

/-- HOST_BOOST_EXPIRY (R56). -/
def execHostBoostExpiry (s : State) : Host.Outcome State Fault Refusal := whilePowered boostExpired s

/-- PULL_SWITCH_TIMER_EXPIRY (R57). -/
def execPullSwitchTimerExpiry (s : State) : Host.Outcome State Fault Refusal := whilePowered pullExpired s

/-- SILENCE_EXPIRY (R63). -/
def execSilenceExpiry (s : State) : Host.Outcome State Fault Refusal := whilePowered silenceExpired s

/-- A request row: the serving of a request that came by no frame (log 7). -/
def serveRow (serve : State → Answer × State) (s : State) : Host.Outcome State Fault Refusal :=
  whileOpen (fun s => answerTo none (serve s).1 false (serve s).2) s

/-- LEVEL_SET (R48). -/
def execLevelSet (level : Byte) (s : State) : Host.Outcome State Fault Refusal := serveRow (serveLevelSet level) s

/-- BOOST (R55). -/
def execBoost (flow : Half) (minutes : Byte) (s : State) : Host.Outcome State Fault Refusal :=
  serveRow (serveBoost flow minutes) s

/-- HOLD_TAKE (R61). -/
def execHoldTake (flow : Half) (s : State) : Host.Outcome State Fault Refusal := serveRow (serveHoldTake flow) s

/-- RESUME (R53). -/
def execResume (s : State) : Host.Outcome State Fault Refusal := serveRow serveResume s

/-- FAN_READ (R41). -/
def execFanRead (fan : Byte) (s : State) : Host.Outcome State Fault Refusal := serveRow (serveFanRead fan) s

/-- INJECT_CHANNEL (R15). -/
def execInjectChannel (channel count : Byte) (s : State) : Host.Outcome State Fault Refusal :=
  serveRow (serveInjectChannel channel count) s

end Sys2Proof.Machine
end

