-- ==== Sys2Proof/WellFormed.lean ====
section
/-! DEFINITION. Which commands can be sent as they stand. A request's payload fields have no check here: a value
outside its range is sent and refused by the request's own rule. -/

namespace Sys2Proof

/-- The longest payload of a frame: a body of at most 64 bytes less its kind, tag and flags bytes (R183). -/
def maxPayload : Nat := 61

/-- The length of a READING frame (R126), the most an answer can hold. -/
def readingLength : Nat := 9

/-- The bytes of the retained store that a rewrite writes before its CRC: four check words and two records (R100). A
rewrite cut short has written at most these (R102: the stored CRC is the old one). -/
def rewriteCutLimit : Nat := 48

/-- A command whose operands the spec can give rise to. -/
def Instr.wellFormed : Instr → Bool
  | .frameReceived _ _ _ payload => payload.length ≤ maxPayload
  | .answerComplete bytes => 0 < bytes.length && bytes.length ≤ readingLength
  | .coreSupplyLoss _ written _ => written ≤ rewriteCutLimit
  | _ => true

end Sys2Proof
end

