-- ==== Sys2Proof/Machine/Bus.lean ====
section
/-! DEFINITION. The sensor bus controller: poll periods, rounds and polls (R127 to R129), answer outcomes and the slot
rules (R130 to R135), INJECT on a slot (R136), enrolment and drop (R137 to R140), NODE READ (R141). -/

namespace Sys2Proof.Machine

/-! ### Polls -/

/-- A slot is polled: it is not EMPTY (R127). -/
def occupied (s : State) (k : Slot) : Bool := (s.bus.slots.get k).state != .empty

/-- The slot's address; 0 when the working set holds none. -/
def slotAddress (s : State) (k : Slot) : Nat :=
  match s.settings.slots.get k with
  | some e => e.address
  | none => 0

/-- The poll of a slot, chosen and not yet sent (R128, R129). It keeps the address that the slot has at the choice, also
when the slot is dropped, or enrolled afresh, before its POLL is sent (log 52). -/
def choosePoll (s : State) (k : Slot) : Poll :=
  { slot := k, address := slotAddress s k, windowOpen := false, discard := false, answer := [] }

/-- The lowest occupied slot above a number (R128). -/
def occupiedAbove (s : State) (n : Nat) : Option Slot :=
  Slot.all.find? (fun k => n < slotNumber k && occupied s k)

/-- A poll period start (R127, R128). A period start during a round begins a new one (log 34). -/
def pollPeriodStart (s : State) : State :=
  { s with
    bus :=
      { s.bus with
        period := s.settings.pollPeriod
        round := ((occupiedAbove s 0).map (choosePoll s)) <|> s.bus.round } }

/-- A POLL frame (R126). -/
def pollFrame (address : Nat) : List Byte :=
  [Config.busStart, BitVec.ofNat 8 address, Config.pollKind, crc8 [BitVec.ofNat 8 address, Config.pollKind]]

/-- The POLL of the chosen slot sent, and its answer window open (R129). -/
def sendPoll (s : State) : State :=
  match s.bus.round with
  | some p =>
    if p.windowOpen then s
    else
      { s with
        bus :=
          { s.bus with
            sent := pollFrame p.address
            round := some { p with windowOpen := true, answer := [] } } }
  | none => s

/-! ### The outcome of a poll (R130) -/

/-- A byte of the answer, numbered from 1 as in the layout of R126. -/
def answerByte (answer : List BusByte) (n : Nat) : Byte :=
  match answer[n - 1]? with
  | some b => b.value
  | none => 0

/-- The bytes 2 to 8 of an answer, which its check covers (R126). -/
def checkedBytes (answer : List BusByte) : List Byte := ((answer.drop 1).take 7).map BusByte.value

/-- RH of an answer (R126). -/
def answerRh (answer : List BusByte) : Nat := natOfBytes [answerByte answer 4, answerByte answer 5]

/-- Temperature of an answer, two's complement (R126). -/
def answerTemp (answer : List BusByte) : Int := (answerByte answer 6 ++ answerByte answer 7).toInt

/-- Bit 0 of the answer's status: the node's sensor is faulty (R126). -/
def answerFaulty (answer : List BusByte) : Bool := (answerByte answer 8).getLsbD 0

/-- Incomplete, failing its CRC, of another kind or out of range (R130 case 4). -/
def malformed (answer : List BusByte) : Bool :=
  answer.length != readingLength || answerByte answer 9 != crc8 (checkedBytes answer)
    || answerByte answer 3 != Config.readingKind || 1000 < answerRh answer
    || answerTemp answer < -400 || 800 < answerTemp answer

/-- The outcome of a poll, by the first case of R130 that holds. -/
def judgeAnswer (injection address : Nat) (answer : List BusByte) : PollOutcome :=
  if 0 < injection then .check
  else if answer = [] then .noAnswer
  else if answer.any (fun b => !b.stopGood) then .framing
  else if malformed answer then .check
  else if (answerByte answer 2).toNat ≠ address then .wrongAddress
  else .good

/-! ### Its effect on the slot (R131 to R134) -/

/-- The reading an answer carries. -/
def readingOf (answer : List BusByte) : Reading := { rh := answerRh answer, temp := answerTemp answer }

/-- A GOOD answer from a sound sensor (R131). -/
def soundAnswer (now : Nat) (answer : List BusByte) (r : SlotRec) : SlotRec :=
  { r with state := .active, reading := some (readingOf answer), held := false, lastGood := some now, miss := 0 }

/-- A GOOD answer from a faulty sensor (R132). -/
def faultyAnswer (now : Nat) (r : SlotRec) : SlotRec :=
  { r with state := .faulty, reading := none, held := false, lastGood := some now, miss := 0 }

/-- The hold of a reading has run out by now (R134, log 39). -/
def holdPassed (now : Nat) (r : SlotRec) : Bool :=
  match r.lastGood with
  | some g => g + Config.holdTime ≤ now
  | none => false

/-- The hold expiry of a slot that enters SILENT (R134). -/
def expiryOf (now : Nat) (r : SlotRec) : Option Nat :=
  if r.reading.isSome && !holdPassed now r then r.lastGood.map (fun g => g + Config.holdTime) else none

/-- Entry to SILENT (R133, R134). -/
def enterSilent (now : Nat) (r : SlotRec) : SlotRec :=
  { r with
    state := .silent, miss := 3
    reading := if holdPassed now r then none else r.reading
    held := r.reading.isSome && !holdPassed now r
    expiry := expiryOf now r }

/-- The slot reported emptied to the humidity response (R153). -/
def humidityEmptied (k : Slot) (s : State) : State :=
  let s' := setHumid k HumidRec.atReset s
  if countsTowardH (s.humidity.slots.get k) then formHumidity s' else s'

/-- A slot emptied: cleared, its entry removed from the working set, the humidity response told (R138, R139). -/
def emptySlot (k : Slot) (s : State) : State := humidityEmptied k (setSlotEntry k none (setSlot k SlotRec.cleared s))

/-- A miss of a slot (R133); `r` is its record with the outcome. -/
def missSlot (k : Slot) (r : SlotRec) (s : State) : State :=
  if 2 ≤ r.miss then
    match r.state with
    | .active | .faulty => report .nodeSilent (.slot k) (setSlot k (enterSilent s.events.seconds r) s)
    | .enrolling => emptySlot k (report .enrolFailed (.slot k) s)
    | .silent | .empty => setSlot k { r with miss := 3 } s
  else setSlot k { r with miss := r.miss + 1 } s

/-- A GOOD answer of a slot (R131, R132). -/
def goodSlot (k : Slot) (answer : List BusByte) (r : SlotRec) (s : State) : State :=
  if answerFaulty answer then
    let s' := setSlot k (faultyAnswer s.events.seconds r) s
    if r.state = .faulty then s' else report .nodeFaulty (.slot k) s'
  else setSlot k (soundAnswer s.events.seconds answer r) s

/-- The outcome of a poll recorded and applied to its slot (R130). -/
def applyOutcome (p : Poll) (s : State) : State :=
  let r := s.bus.slots.get p.slot
  let outcome := judgeAnswer r.injection p.address p.answer
  let r' := { r with outcome := outcome, injection := r.injection - 1 }
  match outcome with
  | .good => goodSlot p.slot p.answer r' s
  | .wrongAddress => missSlot p.slot r' (report .addressClash (.slot p.slot) s)
  | .none | .noAnswer | .framing | .check => missSlot p.slot r' s

/-- The next poll of the round, or its end (R128). -/
def nextPoll (p : Poll) (s : State) : State :=
  { s with bus := { s.bus with round := (occupiedAbove s (slotNumber p.slot)).map (choosePoll s) } }

/-- The end of a poll (R129); a discarded one judges nothing (R140). -/
def endPoll (p : Poll) (s : State) : State :=
  nextPoll p (if p.discard || !occupied s p.slot then s else applyOutcome p s)

/-! ### Reception -/

/-- A byte that can begin an answer (R129). -/
def beginsAnswer (b : BusByte) : Bool := b.value == Config.busStart && b.stopGood

/-- A byte received on the bus (R125, R129): discarded outside an open window and before the answer begins; the ninth
byte of the answer ends the poll. -/
def receiveBusByte (s : State) (b : BusByte) : State :=
  match s.bus.round with
  | some p =>
    if !p.windowOpen || (p.answer.isEmpty && !beginsAnswer b) then s
    else
      let p' := { p with answer := p.answer ++ [b] }
      if readingLength ≤ p'.answer.length then endPoll p' s else { s with bus := { s.bus with round := some p' } }
  | none => s

/-- The answer window closes (R129). -/
def closeWindow (s : State) : State :=
  match s.bus.round with
  | some p => if p.windowOpen then endPoll p s else s
  | none => s

/-- A slot's hold expiry falls due (R134). -/
def holdExpired (k : Slot) (s : State) : State :=
  let r := s.bus.slots.get k
  if r.expiry.isNone then s
  else if r.state = .silent then setSlot k { r with reading := none, held := false, expiry := none } s
  else setSlot k { r with expiry := none } s

/-! ### Requests -/

/-- INJECT naming a slot served (R136). -/
def serveInjectSlot (slot count : Byte) (s : State) : Answer × State :=
  match slotOfNumber slot.toNat with
  | some k =>
    if count.toNat = 0 ∨ 15 < count.toNat then (refusal .range, s)
    else if occupied s k then
      (doneWith [], setSlot k { s.bus.slots.get k with injection := count.toNat } s)
    else (refusal .state, s)
  | none => (refusal .range, s)

/-- A slot that is not EMPTY holds the address (R137). -/
def addressHeld (s : State) (address : Nat) : Bool :=
  Slot.all.any (fun k => occupied s k && slotAddress s k == address)

/-- The lowest-numbered EMPTY slot (R137). -/
def firstEmpty (s : State) : Option Slot := Slot.all.find? (fun k => !occupied s k)

/-- A slot taken by an enrolment (R137, R138). -/
def takeSlot (k : Slot) (address : Nat) (kind : RoomKind) (s : State) : State :=
  setSlotEntry k (some { address := address, kind := kind })
    (setSlot k { SlotRec.cleared with state := .enrolling } s)

/-- NODE ENROL served (R137). -/
def serveNodeEnrol (address kind : Byte) (s : State) : Answer × State :=
  match roomKindOfCode kind.toNat with
  | some r =>
    if address.toNat = 0 ∨ 15 < address.toNat then (refusal .range, s)
    else if addressHeld s address.toNat then (refusal .state, s)
    else
      match firstEmpty s with
      | some k => (doneWith (u8 (slotNumber k)), takeSlot k address.toNat r s)
      | none => (refusal .state, s)
  | none => (refusal .range, s)

/-- The poll in progress marked to be discarded when it is of the slot dropped (R140). -/
def discardPoll (k : Slot) (s : State) : State :=
  match s.bus.round with
  | some p => if p.slot = k then { s with bus := { s.bus with round := some { p with discard := true } } } else s
  | none => s

/-- NODE DROP served (R139). -/
def serveNodeDrop (slot : Byte) (s : State) : Answer × State :=
  match slotOfNumber slot.toNat with
  | some k => if occupied s k then (doneWith [], emptySlot k (discardPoll k s)) else (refusal .state, s)
  | none => (refusal .range, s)

/-- Address and room kind of NODE READ (R141). -/
def entryBytes (occ : Bool) (e : Option SlotEntry) : List Byte :=
  match occ, e with
  | true, some e => u8 e.address ++ u8 (roomKindCode e.kind)
  | _, _ => u8 0 ++ u8 0xFF

/-- Last good time of NODE READ (R141). -/
def lastGoodBytes : Option Nat → List Byte
  | some t => u32 t
  | none => u32 0xFFFFFFFF

/-- The present samples of a ring, oldest first (R157). -/
def presentSamples (ring : List (Option Nat)) : List Nat := ring.filterMap id

/-- The figures of NODE READ (R141). -/
def nodeReadPayload (k : Slot) (s : State) : List Byte :=
  let r := s.bus.slots.get k
  let h := s.humidity.slots.get k
  u8 (slotStateCode r.state) ++ entryBytes (occupied s k) (s.settings.slots.get k)
    ++ optU16 0x8000 (r.reading.map Reading.rh) ++ optI16 (r.reading.map Reading.temp) ++ mark r.held
    ++ lastGoodBytes r.lastGood ++ u8 r.miss ++ u8 r.injection ++ u8 (pollOutcomeCode r.outcome)
    ++ u8 (boostStateCode h.boost) ++ mark h.saturated ++ u8 (presentSamples h.ring).length
    ++ (presentSamples h.ring).flatMap u16

/-- NODE READ served (R141). -/
def serveNodeRead (slot : Byte) (s : State) : Answer × State :=
  match slotOfNumber slot.toNat with
  | some k => (doneWith (nodeReadPayload k s), s)
  | none => (refusal .range, s)

/-! ### The rows of this family -/

/-- POLL_PERIOD_START (R127). -/
def execPollPeriodStart (s : State) : Host.Outcome State Fault Refusal := whilePowered pollPeriodStart s

/-- POLL (R129). -/
def execPoll (s : State) : Host.Outcome State Fault Refusal := whilePowered sendPoll s

/-- ANSWER_COMPLETE (R129): the bytes that complete the answer, received one after another. -/
def execAnswerComplete (bytes : List BusByte) (s : State) : Host.Outcome State Fault Refusal :=
  whilePowered (fun s => bytes.foldl receiveBusByte s) s

/-- ANSWER_WINDOW_CLOSE (R129). -/
def execAnswerWindowClose (s : State) : Host.Outcome State Fault Refusal := whilePowered closeWindow s

/-- HOLD_EXPIRY (R134). -/
def execHoldExpiry (slot : Slot) (s : State) : Host.Outcome State Fault Refusal := whilePowered (holdExpired slot) s

/-- SENSOR_BUS_BYTE_RECEIVED (R129). -/
def execSensorBusByteReceived (byte : Byte) (stopGood : Bool) (s : State) : Host.Outcome State Fault Refusal :=
  whilePowered (fun s => receiveBusByte s { value := byte, stopGood := stopGood }) s

/-- INJECT_SLOT (R136). -/
def execInjectSlot (slot count : Byte) (s : State) : Host.Outcome State Fault Refusal :=
  serveRow (serveInjectSlot slot count) s

/-- NODE_ENROL (R137). -/
def execNodeEnrol (address kind : Byte) (s : State) : Host.Outcome State Fault Refusal :=
  serveRow (serveNodeEnrol address kind) s

/-- NODE_DROP (R139). -/
def execNodeDrop (slot : Byte) (s : State) : Host.Outcome State Fault Refusal := serveRow (serveNodeDrop slot) s

/-- NODE_READ (R141). -/
def execNodeRead (slot : Byte) (s : State) : Host.Outcome State Fault Refusal := serveRow (serveNodeRead slot) s

end Sys2Proof.Machine
end

