-- ==== Sys2Proof/Machine/HumidMinute.lean ====
section
/-! DEFINITION. The humidity minute of the humidity response (R144 to R152). -/

namespace Sys2Proof.Machine

/-- RH_lim (R146). -/
def thresholdOf (set : Settings) : Option Int → Nat
  | some t =>
    (clampInt ((set.humidBase : Int) - max 0 (100 - t) * set.coldSlope / 10) 400 set.humidBase).toNat
  | none => set.humidBase

/-- One entry pushed into a minute ring (R145). -/
def pushSample (sample : Option Nat) (ring : List (Option Nat)) : List (Option Nat) :=
  if 8 ≤ ring.length then ring.drop 1 ++ [sample] else ring ++ [sample]

/-- The newest sample (R145). -/
def newestSample (ring : List (Option Nat)) : Option Nat :=
  match ring.getLast? with
  | some e => e
  | none => none

/-- The sixth entry counted back from the newest, when the ring holds one and it is present (R147). -/
def olderSample (ring : List (Option Nat)) : Option Nat :=
  if 6 ≤ ring.length then
    match ring[ring.length - 6]? with
    | some e => e
    | none => none
  else none

/-- The rise (R147). -/
def riseOf (ring : List (Option Nat)) : Option Int :=
  match newestSample ring, olderSample ring with
  | some new, some old => some ((new : Int) - old)
  | _, _ => none

/-- The rise trigger (R148). -/
def riseTrigger (set : Settings) (kind : RoomKind) (ring : List (Option Nat)) : Bool :=
  match riseOf ring with
  | some r => (set.riseThreshold : Int) ≤ r && kind != .habitable
  | none => false

/-- The absolute trigger (R148). -/
def absoluteTrigger (limit : Nat) (saturated : Bool) (ring : List (Option Nat)) : Bool :=
  match newestSample ring with
  | some x => limit ≤ x && !saturated
  | none => false

/-- The saturated mark judged (R149). -/
def judgeSaturated (limit : Nat) (saturated : Bool) (ring : List (Option Nat)) : Bool :=
  match newestSample ring with
  | some x => saturated && !decide ((x : Int) < (limit : Int) - 50)
  | none => saturated

/-- The room has dried: the newest sample is absent or below RH_lim − 30 (R151). -/
def dried (limit : Nat) (ring : List (Option Nat)) : Bool :=
  match newestSample ring with
  | some x => (x : Int) < (limit : Int) - 30
  | none => true

/-- Entry to BOOST (R150, R152). -/
def enterBoost (r : HumidRec) : HumidRec := { r with boost := .boost, boostMinutes := 0 }

/-- Entry to RUN-ON (R151). -/
def enterRunOn (r : HumidRec) : HumidRec := { r with boost := .runOn, runOnMinutes := 0 }

/-- A minute that finds the record in BOOST (R151). -/
def boostMinute (set : Settings) (limit : Nat) (r : HumidRec) : HumidRec :=
  let r' := { r with boostMinutes := r.boostMinutes + 1 }
  if 10 ≤ r'.boostMinutes ∧ dried limit r'.ring = true then enterRunOn r'
  else if set.boostMax ≤ r'.boostMinutes then { enterRunOn r' with saturated := true }
  else r'

/-- A minute that finds the record in RUN-ON (R152). -/
def runOnMinute (set : Settings) (kind : RoomKind) (r : HumidRec) : HumidRec :=
  let r' := { r with runOnMinutes := r.runOnMinutes + 1 }
  if riseTrigger set kind r'.ring then enterBoost r'
  else if set.runOnTime ≤ r'.runOnMinutes then { r' with boost := .quiet }
  else r'

/-- The boost record judged by the rule of its state (R150 to R152). -/
def judgeBoost (set : Settings) (limit : Nat) (kind : RoomKind) (r : HumidRec) : HumidRec :=
  match r.boost with
  | .quiet => if riseTrigger set kind r.ring || absoluteTrigger limit r.saturated r.ring then enterBoost r else r
  | .boost => boostMinute set limit r
  | .runOn => runOnMinute set kind r

/-- A slot whose ring and record take part in the humidity minute (R144). -/
def judgedSlot : SlotState → Bool
  | .active | .silent | .faulty => true
  | .empty | .enrolling => false

/-- The work of a humidity minute on one slot (R144): push, saturated mark, boost record. -/
def humidMinuteRec (set : Settings) (limit : Nat) (slot : SlotRec) (kind : RoomKind) (r : HumidRec) : HumidRec :=
  let ring := pushSample (slot.reading.map Reading.rh) r.ring
  judgeBoost set limit kind { r with ring := ring, saturated := judgeSaturated limit r.saturated ring }

/-- The room kind of a slot; HABITABLE when the working set holds none, which no occupied slot shows (R138). -/
def slotKind (s : State) (k : Slot) : RoomKind :=
  match s.settings.slots.get k with
  | some e => e.kind
  | none => .habitable

/-- One slot at a humidity minute. -/
def humidMinuteSlot (s : State) (limit : Nat) (k : Slot) (r : HumidRec) : HumidRec :=
  if judgedSlot (s.bus.slots.get k).state then
    humidMinuteRec s.settings limit (s.bus.slots.get k) (slotKind s k) r
  else r

/-- HUMID BOOST of one slot: its record came to BOOST (R150, R152). -/
def boostReports (k : Slot) (before after : HumidRec) : List (EventKind × Source) :=
  if before.boost ≠ .boost ∧ after.boost = .boost then [(.humidBoost, .slot k)] else []

/-- The humidity minute (R144). -/
def humidityMinute (s : State) : State :=
  let limit := thresholdOf s.settings (channelValue s .tOut)
  let after := s.humidity.slots.update (humidMinuteSlot s limit)
  formHumidity
    (reportAll (Slot.all.flatMap (fun k => boostReports k (s.humidity.slots.get k) (after.get k)))
      { s with humidity := { s.humidity with rhLim := limit, slots := after } })

/-- HUMIDITY_MINUTE (R144). -/
def execHumidityMinute (s : State) : Host.Outcome State Fault Refusal := whilePowered humidityMinute s

end Sys2Proof.Machine
end

