-- ==== Sys2Proof/Machine/LinesUnit.lean ====
section
/-! DEFINITION. The auxiliary line unit: its sample event (R160 to R163, R166), LINE SET (R168), LINE WRITE (R167) and
LINE READ (R169). -/

namespace Sys2Proof.Machine

/-! ### The sample event -/

/-- Debounce length of a function (R160). -/
def debounceLength : LineFunction → Nat
  | .smokeInput => 10
  | .generalIn | .pullSwitch | .generalOut | .alarmOut | .filterLamp | .heaterEnable => 3

/-- The sample run with a new sample (R160). -/
def runWith (new : PinLevel) (r : LineRec) : Nat := if r.sample = some new then saturate 10 (r.sampleRun + 1) else 1

/-- The settled level with a new sample (R160). -/
def settledWith (f : LineFunction) (new : PinLevel) (r : LineRec) : Option PinLevel :=
  if debounceLength f ≤ runWith new r then some new else r.settled

/-- A new sample differs from the level the part drives; never on a released pin (R166). -/
def mismatched (new : PinLevel) (r : LineRec) : Bool :=
  match r.driven with
  | some d => d != new
  | none => false

/-- The comparison of an output's sample with its driven level (R166). -/
def compareDriven (new : PinLevel) (r : LineRec) : LineRec :=
  if r.driven.isNone then r
  else if mismatched new r then
    { r with mismatch := saturate 3 (r.mismatch + 1), fault := r.fault || 3 ≤ r.mismatch + 1 }
  else { r with mismatch := 0, fault := false }

/-- One line at a sample event (R160, R166). -/
def sampleLine (f : LineFunction) (new : PinLevel) (r : LineRec) : LineRec :=
  compareDriven new { r with sample := some new, sampleRun := runWith new r, settled := settledWith f new r }

/-- LINE FAULT of one line (R166): its fault mark comes to be set, or it stands set while the flag was clear. -/
def faultReports (flagWas : Bool) (l : Line) (before after : LineRec) : List (EventKind × Source) :=
  if after.fault && (!before.fault || !flagWas) then [(.lineFault, .line l)] else []

/-- An edge selection includes the settled transition to a level (R161). -/
def selects (e : EdgeSelection) (to' : PinLevel) : Bool :=
  match e with
  | .none => false
  | .both => true
  | .rising => to' == .high
  | .falling => to' == .low

/-- The level a settled transition has come to; a first settling is none (R160). -/
def transitionTo (before after : LineRec) : Option PinLevel :=
  match before.settled, after.settled with
  | some a, some b => if a = b then none else some b
  | _, _ => none

/-- The level the line has settled at, at this event: by a first settling or a settled transition (R160, R163). -/
def settledTo (before after : LineRec) : Option PinLevel :=
  if before.settled = after.settled then none else after.settled

/-- LINE EDGE of one line (R161). -/
def edgeReports (c : LineConfig) (l : Line) (before after : LineRec) : List (EventKind × Source) :=
  match transitionTo before after with
  | some p => if selects c.edge p then [(.lineEdge, .line l)] else []
  | none => []

/-- A settled transition of a PULL SWITCH line to active (R162). -/
def pullSwitchReport (c : LineConfig) (before after : LineRec) (s : State) : State :=
  match transitionTo before after with
  | some p => if c.function = .pullSwitch ∧ activeOf c.polarity p = true then pullEdge s else s
  | none => s

/-- A SMOKE INPUT line reported active or inactive (R163). -/
def smokeReport (c : LineConfig) (l : Line) (before after : LineRec) (s : State) : State :=
  if c.function = .smokeInput then
    match settledTo before after with
    | some p =>
      if activeOf c.polarity p then smokeActiveReport l s
      else if before.settled.isSome then smokeInactiveReport l s
      else s
    | none => s
  else s

/-- The reports of one line to the controller (R162, R163). -/
def inputReport (cfg : PerLine LineConfig) (before after : PerLine LineRec) (s : State) (l : Line) : State :=
  smokeReport (cfg.get l) l (before.get l) (after.get l)
    (pullSwitchReport (cfg.get l) (before.get l) (after.get l) s)

/-- The lines sampled (R160). -/
def sampleLines (pins : PerLine PinLevel) (s : State) : PerLine LineRec :=
  s.lines.table.update (fun l r => sampleLine (s.settings.lines.get l).function (pins.get l) r)

/-- The occurrences of a sample event: every LINE FAULT in line order, then every LINE EDGE (R161, R166). -/
def lineReports (flagWas : Bool) (cfg : PerLine LineConfig) (before after : PerLine LineRec) :
    List (EventKind × Source) :=
  Line.all.flatMap (fun l => faultReports flagWas l (before.get l) (after.get l))
    ++ Line.all.flatMap (fun l => edgeReports (cfg.get l) l (before.get l) (after.get l))

/-- The auxiliary sample event (R160). Every line is compared with the level driven as the event began; a function level
that the event itself changes re-drives its lines after that (R166, log 47). -/
def auxSample (pins : PerLine PinLevel) (s : State) : State :=
  let before := s.lines.table
  let after := sampleLines pins s
  let s₁ := advanceTimers s
  let s₂ := { s₁ with lines := { s₁.lines with table := after } }
  let s₃ := reportAll (lineReports (flagRaised s .lineFault) s.settings.lines before after) s₂
  Line.all.foldl (inputReport s.settings.lines before after) s₃

/-- AUX_SAMPLE_EVENT (R160). -/
def execAuxSampleEvent (pins : PerLine PinLevel) (s : State) : Host.Outcome State Fault Refusal :=
  whilePowered (auxSample pins) s

/-! ### LINE SET -/

/-- The configuration of three payload bytes, when each names a listed value (R168). -/
def configOf (function polarity edge : Byte) : Option LineConfig :=
  match lineFunctionOfCode function.toNat, polarityOfCode polarity.toNat, edgeOfCode edge.toNat with
  | some f, some p, some e => some { function := f, polarity := p, edge := e }
  | _, _, _ => none

/-- The named line is the only SMOKE INPUT line (R168). -/
def onlySmokeLine (s : State) (l : Line) : Bool :=
  (s.settings.lines.get l).function == .smokeInput
    && Line.all.all (fun m => m == l || (s.settings.lines.get m).function != .smokeInput)

/-- LINE SET would remove the last SMOKE INPUT line in SMOKE STOP (R168). -/
def removesLastSmoke (s : State) (l : Line) (c : LineConfig) : Bool :=
  s.demand.runState == .smokeStop && onlySmokeLine s l && c.function != .smokeInput

/-- The function or the polarity changes (R168). -/
def configChanges (old new : LineConfig) : Bool := old.function != new.function || old.polarity != new.polarity

/-- A line's record at a change of function or polarity (R168). -/
def unsettle (r : LineRec) : LineRec := { r with settled := none, sampleRun := 0, mismatch := 0, fault := false }

/-- The line was SMOKE INPUT with its settled level active (R168). -/
def wasActiveSmoke (c : LineConfig) (r : LineRec) : Bool :=
  match r.settled with
  | some p => c.function == .smokeInput && activeOf c.polarity p
  | none => false

/-- A line's configuration written to the working set (R159). -/
def setLineConfig (l : Line) (c : LineConfig) (s : State) : State :=
  { s with settings := { s.settings with lines := s.settings.lines.set l c } }

/-- An accepted LINE SET (R168). -/
def configureLine (l : Line) (c : LineConfig) (s : State) : State :=
  let old := s.settings.lines.get l
  let r := s.lines.table.get l
  let s' := setLineConfig l c s
  if configChanges old c then
    let s'' := setLine l (driveRec s.lines c (unsettle r)) s'
    if wasActiveSmoke old r then smokeInactiveReport l s'' else s''
  else s'

/-- LINE SET served (R168). -/
def serveLineSet (line function polarity edge : Byte) (s : State) : Answer × State :=
  match lineOfNumber line.toNat, configOf function polarity edge with
  | some l, some c =>
    if removesLastSmoke s l c then (refusal .state, s) else (doneWith [], configureLine l c s)
  | _, _ => (refusal .range, s)

/-! ### LINE WRITE -/

/-- A latch written; the pin of a GENERAL OUT line follows (R167). -/
def writeLatch (l : Line) (active : Bool) (s : State) : State :=
  let c := s.settings.lines.get l
  let r := { s.lines.table.get l with latch := active }
  setLine l (if c.function = .generalOut then driveRec s.lines c r else r) s

/-- LINE WRITE served (R167). -/
def serveLineWrite (line value : Byte) (s : State) : Answer × State :=
  match lineOfNumber line.toNat, activityOfCode value.toNat with
  | some l, some v => (doneWith [], writeLatch l v s)
  | _, _ => (refusal .range, s)

/-! ### LINE READ -/

/-- The value of LINE READ: ACTIVE 0, INACTIVE 1, UNSETTLED 2 (R169). -/
def lineValueCode (u : Lines) (c : LineConfig) (r : LineRec) : Nat :=
  match logicalOutput u c.function r.latch with
  | some b => activityCode b
  | none =>
    match r.settled with
    | some p => activityCode (activeOf c.polarity p)
    | none => 2

/-- A pin level, with the byte that stands for its absence. -/
def optPin (absent : Nat) : Option PinLevel → Nat
  | some p => pinCode p
  | none => absent

/-- The figures of LINE READ (R169). -/
def lineReadPayload (l : Line) (s : State) : List Byte :=
  let c := s.settings.lines.get l
  let r := s.lines.table.get l
  u8 (lineFunctionCode c.function) ++ u8 (polarityCode c.polarity) ++ u8 (edgeCode c.edge)
    ++ u8 (lineValueCode s.lines c r) ++ u8 (optPin 0xFF r.sample) ++ u8 (optPin 2 r.settled)
    ++ u8 (optPin 0xFF r.driven) ++ u8 (activityCode r.latch) ++ u8 r.mismatch ++ mark r.fault

/-- LINE READ served (R169). -/
def serveLineRead (line : Byte) (s : State) : Answer × State :=
  match lineOfNumber line.toNat with
  | some l => (doneWith (lineReadPayload l s), s)
  | none => (refusal .range, s)

/-- LINE_SET (R168). -/
def execLineSet (line function polarity edge : Byte) (s : State) : Host.Outcome State Fault Refusal :=
  serveRow (serveLineSet line function polarity edge) s

/-- LINE_WRITE (R167). -/
def execLineWrite (line value : Byte) (s : State) : Host.Outcome State Fault Refusal :=
  serveRow (serveLineWrite line value) s

/-- LINE_READ (R169). -/
def execLineRead (line : Byte) (s : State) : Host.Outcome State Fault Refusal := serveRow (serveLineRead line) s

end Sys2Proof.Machine
end

