-- ==== Sys2Proof/Machine/EventsUnit.lean ====
section
/-! DEFINITION. The event unit's tick and requests: the reset-second count (R171), NOTICES TAKE (R179), FLAGS READ
(R172), FLAGS CLEAR (R174), EVENT SET (R175) and THRESHOLD SET (R181). -/

namespace Sys2Proof.Machine

/-- The reset-second count one second later, wrapping (R171). -/
def secondTick (s : State) : State :=
  { s with events := { s.events with seconds := (s.events.seconds + 1) % 4294967296 } }

/-- RESET_SECOND_TICK (R171). -/
def execResetSecondTick (s : State) : Host.Outcome State Fault Refusal := whilePowered secondTick s

/-! ### NOTICES TAKE -/

/-- The number and the records of NOTICES TAKE (R179, R180). -/
def noticesPayload (taken : List Notice) : List Byte := u8 taken.length ++ taken.flatMap noticeBytes

/-- The four oldest records removed, NTF judged, and the link port told whether the queue is empty (R179). -/
def takeNotices (s : State) : State :=
  judgeNtf
    { s with
      events := { s.events with queue := s.events.queue.drop 4 }
      link := { s.link with queueNotEmpty := !(s.events.queue.drop 4).isEmpty } }

/-- NOTICES TAKE served (R179). -/
def serveNoticesTake (s : State) : Answer × State :=
  (doneWith (noticesPayload (s.events.queue.take 4)), takeNotices s)

/-! ### The raised flags -/

/-- FLAGS READ served (R172). -/
def serveFlagsRead (s : State) : Answer × State := (doneWith (u32 s.events.flags.toNat), s)

/-- The fail-report mark of both loops cleared (R174, R43). -/
def clearFailReports (s : State) : State :=
  { s with
    loops :=
      { supply := { s.loops.supply with failReport := false }
        extract := { s.loops.extract with failReport := false } } }

/-- The flags a set names cleared, and the severe summary judged again (R174). -/
def clearFlags (kinds : BitVec 25) (s : State) : State :=
  let s' := { s with events := { s.events with flags := s.events.flags &&& ~~~kinds } }
  judgeSevere (if kinds.getLsb (kindIndex .fanFail) then clearFailReports s' else s')

/-- FLAGS CLEAR served (R174). -/
def serveFlagsClear (kinds : Word) (s : State) : Answer × State :=
  if 33554432 ≤ kinds.toNat then (refusal .range, s) else (doneWith [], clearFlags (kinds.setWidth 25) s)

/-! ### Enables, levels and the threshold -/

/-- The enable of EVENT SET: ENABLED 0, DISABLED 1 (R175, R189). -/
def enableOfCode : Nat → Option Bool
  | 0 => some true
  | 1 => some false
  | _ => none

/-- EVENT SET served (R175). -/
def serveEventSet (code enable level : Byte) (s : State) : Answer × State :=
  match kindOfCode code.toNat, enableOfCode enable.toNat with
  | some k, some on =>
    if 7 < level.toNat then (refusal .range, s)
    else (doneWith [], { s with settings := putLevel (putEnable s.settings k on) k level.toNat })
  | _, _ => (refusal .range, s)

/-- THRESHOLD SET served (R181). -/
def serveThresholdSet (threshold : Byte) (s : State) : Answer × State :=
  if 7 < threshold.toNat then (refusal .range, s)
  else (doneWith [], judgeNtf { s with settings := { s.settings with threshold := threshold.toNat } })

/-! ### The rows of this family -/

/-- NOTICES_TAKE (R179). -/
def execNoticesTake (s : State) : Host.Outcome State Fault Refusal := serveRow serveNoticesTake s

/-- FLAGS_READ (R172). -/
def execFlagsRead (s : State) : Host.Outcome State Fault Refusal := serveRow serveFlagsRead s

/-- FLAGS_CLEAR (R174). -/
def execFlagsClear (kinds : Word) (s : State) : Host.Outcome State Fault Refusal := serveRow (serveFlagsClear kinds) s

/-- EVENT_SET (R175). -/
def execEventSet (code enable level : Byte) (s : State) : Host.Outcome State Fault Refusal :=
  serveRow (serveEventSet code enable level) s

/-- THRESHOLD_SET (R181). -/
def execThresholdSet (threshold : Byte) (s : State) : Host.Outcome State Fault Refusal :=
  serveRow (serveThresholdSet threshold) s

end Sys2Proof.Machine
end

