-- ==== Sys2Proof/Machine/SettingsUnit.lean ====
section
/-! DEFINITION. The settings store: SETTING WRITE and its effects at the write (R195), SETTING READ, SETTINGS SAVE and
the completion of a save (R196). -/

namespace Sys2Proof.Machine

/-! ### SETTING WRITE -/

/-- A write of a setting that SETTING WRITE never changes: a slot entry or a line configuration (R195). -/
def notWritable : SettingId → Bool
  | .slotEntry _ | .lineConfig _ => true
  | _ => false

/-- A write of F_min or F_max that would leave F_min above F_max (R60, R195). -/
def crossesClamp (set : Settings) (i : SettingId) (v : Int) : Bool :=
  match i with
  | .fMin => (set.fMax : Int) < v
  | .fMax => v < (set.fMin : Int)
  | _ => false

/-- The entry of a level table that a setting is (R54). -/
def levelOfSetting : SettingId → Option Level
  | .awayFlow => some .away
  | .lowFlow => some .low
  | .normalFlow => some .normal
  | .highFlow => some .high
  | _ => none

/-- A level table entry written (R54, R57). -/
def levelEntryWritten (l : Level) (s : State) : State :=
  recomputeDemand (if l = s.demand.level then tellLevelFlow s else s)

/-- A_max written (R71): A lowered to it, and exhaustion when that brings A from above 0 to 0. -/
def ceilingWritten (s : State) : State :=
  if s.settings.aMax < s.governor.allowance then
    let s' := { s with governor := { s.governor with allowance := s.settings.aMax } }
    if s.settings.aMax = 0 then exhausted s' else s'
  else s

/-- H_max written (R96, R93). -/
def heaterMaximumWritten (s : State) : State :=
  setRequested (if s.frost.mode = .blind then s.settings.hMax / 2 else min s.frost.requested s.settings.hMax) s

/-- What a written setting does at the event of its write; the others are read at their next use (the rules of THE
SETTINGS TABLE). -/
def settingWritten (i : SettingId) (s : State) : State :=
  match levelOfSetting i with
  | some l => levelEntryWritten l s
  | none =>
    match i with
    | .fMin | .fMax | .fRef => recomputeDemand s
    | .aMax => ceilingWritten s
    | .hMax => heaterMaximumWritten s
    | .fHmin => reevaluate s
    | .increment _ | .humidCeiling => formHumidity s
    | .threshold => judgeNtf s
    | _ => s

/-- A value SETTING WRITE refuses RANGE (R195, R60). -/
def valueRefused (set : Settings) (i : SettingId) (v : Int) : Bool :=
  !settingInRange i v || crossesClamp set i v

/-- SETTING WRITE served (R195); RANGE is judged before STATE (R188, log 40). -/
def serveSettingWrite (id : Half) (value : Word) (s : State) : Answer × State :=
  match settingOfId id.toNat with
  | some i =>
    if valueRefused s.settings i value.toInt then (refusal .range, s)
    else if notWritable i then (refusal .state, s)
    else (doneWith [], settingWritten i { s with settings := settingPut s.settings i value.toInt })
  | none => (refusal .range, s)

/-- SETTING READ served (R195). -/
def serveSettingRead (id : Half) (s : State) : Answer × State :=
  match settingOfId id.toNat with
  | some i => (doneWith (i32 (settingGet s.settings i)), s)
  | none => (refusal .range, s)

/-! ### Saving -/

/-- SETTINGS SAVE served (R196). -/
def serveSettingsSave (s : State) : Answer × State :=
  if s.store.saving.isSome then (refusal .busy, s)
  else (doneWith [], { s with store := { s.store with saving := some s.settings } })

/-- A bank of the non-volatile store. -/
def bankOf (st : SettingsStore) : BankId → Bank
  | .bank0 => st.bank0
  | .bank1 => st.bank1

/-- The bank a save writes: the one that is not current, bank 0 when there is none (R196). -/
def targetBank (st : SettingsStore) : BankId :=
  match st.current with
  | some .bank0 => .bank1
  | some .bank1 => .bank0
  | none => .bank0

/-- The generation number a save writes (R196). -/
def nextGeneration (st : SettingsStore) : Nat :=
  match st.current with
  | some i => ((bankOf st i).generation + 1) % 65536
  | none => 0

/-- A bank's contents replaced. -/
def putBank (i : BankId) (b : Bank) (st : SettingsStore) : SettingsStore :=
  match i with
  | .bank0 => { st with bank0 := b }
  | .bank1 => { st with bank1 := b }

/-- The write of a save ended with its CRC: the written bank is current and the store IDLE (R196). -/
def bankWritten (image : Settings) (st : SettingsStore) : SettingsStore :=
  { putBank (targetBank st) (wholeBank image (nextGeneration st)) st with
    current := some (targetBank st), saving := none }

/-- The completion of a save; in IDLE nothing (R196). -/
def saveComplete (s : State) : State :=
  match s.store.saving with
  | some image => report .saveDone .none { s with store := bankWritten image s.store }
  | none => s

/-! ### The rows of this family -/

/-- SETTING_WRITE (R195). -/
def execSettingWrite (id : Half) (value : Word) (s : State) : Host.Outcome State Fault Refusal :=
  serveRow (serveSettingWrite id value) s

/-- SETTING_READ (R195). -/
def execSettingRead (id : Half) (s : State) : Host.Outcome State Fault Refusal := serveRow (serveSettingRead id) s

/-- SETTINGS_SAVE (R196). -/
def execSettingsSave (s : State) : Host.Outcome State Fault Refusal := serveRow serveSettingsSave s

/-- SAVE_COMPLETE (R196). -/
def execSaveComplete (s : State) : Host.Outcome State Fault Refusal := whilePowered saveComplete s

end Sys2Proof.Machine
end

