-- ==== Sys2Proof/Machine/LinkPort.lean ====
section
/-! DEFINITION. The link port: STATE READ and TRACE SET, which it serves itself (R190, R192), the serving of a held
request (R188), the receiver (R184, R185), the request holder (R186), the transmitter (R187), traces (R192) and
RESTART (R200). -/

namespace Sys2Proof.Machine

/-! ### STATE READ -/

/-- The host boost record in a payload (R189). -/
def boostBytes : Option HostBoost → List Byte
  | some b => u16 b.flow ++ u16 b.seconds
  | none => u16 0xFFFF ++ u16 0

/-- The smoke source in a payload, 0 for none (R189). -/
def smokeSourceCode : Option Line → Nat
  | some l => lineNumber l
  | none => 0

/-- Page 0: the figures of R72. -/
def statePage0 (s : State) : List Byte :=
  let d := s.demand
  u8 (runStateCode d.runState) ++ u8 (levelCode d.level) ++ u16 d.d ++ boostBytes d.boost ++ u16 d.pullTimer ++ u16 d.h
    ++ mark d.captureInForce ++ u16 (d.hold.getD 0) ++ u16 s.governor.tS ++ u16 s.governor.tE
    ++ u16 s.governor.allowance ++ u16 s.governor.carry ++ u8 (smokeSourceCode d.smokeSource)

/-- One channel's figures, as the latest second end left them (R18). The state and the value change at second ends only;
the last fault and the injection count, which samples and INJECT change between two second ends (R2, R15), are shown as
the second end found them (log 49). -/
def channelBytes (r : ChannelRec) : List Byte :=
  u8 (channelStateCode r.state) ++ optI16 r.value ++ u8 (faultCauseCode r.shownFault) ++ u8 r.shownInjection

/-- Page 1: the figures of R18. -/
def statePage1 (s : State) : List Byte :=
  Channel.all.flatMap (fun c => channelBytes (s.measurement.channels.get c))
    ++ optU16 0x8000 s.measurement.effectiveness ++ mark s.measurement.fresh

/-- The frost-stop history: its count and three entries, 0 beyond the count (R97). -/
def historyBytes (h : List Nat) : List Byte :=
  u8 h.length ++ u32 (h[0]?.getD 0) ++ u32 (h[1]?.getD 0) ++ u32 (h[2]?.getD 0)

/-- Page 2: the figures of R97, then RH_lim (R157). The defrost and stop timers, kept in ms, are carried in seconds,
rounded down (log 43). -/
def statePage2 (s : State) : List Byte :=
  let f := s.frost
  u8 (frostModeCode f.mode) ++ u16 f.requested ++ u16 f.heaterOutput ++ u16 f.r ++ u8 f.cold ++ u8 f.warm
    ++ u16 (f.defrostTimer / 1000) ++ u16 (f.stopTimer / 1000) ++ historyBytes f.history ++ u16 s.humidity.rhLim

/-- STATE READ served (R190). -/
def serveStateRead (page : Byte) (s : State) : Answer × State :=
  match page.toNat with
  | 0 => (doneWith (statePage0 s), s)
  | 1 => (doneWith (statePage1 s), s)
  | 2 => (doneWith (statePage2 s), s)
  | _ => (refusal .range, s)

/-! ### TRACE SET -/

/-- TRACE SET served (R192). -/
def serveTraceSet (period : Byte) (s : State) : Answer × State :=
  if 60 < period.toNat then (refusal .range, s)
  else
    (doneWith [],
      { s with
        link :=
          { s.link with
            tracePeriod := period.toNat
            traceWait := if period.toNat = 0 then none else s.link.traceWait } })

/-! ### Serving a held request -/

/-- The payload length of each of the 26 request kinds (R190). -/
def requestLength (kind : Nat) : Option Nat :=
  match kind with
  | 0x01 | 0x02 | 0x03 | 0x07 | 0x08 | 0x0A | 0x0B | 0x0E | 0x13 | 0x14 => some 1
  | 0x05 | 0x09 | 0x0D | 0x15 | 0x17 => some 2
  | 0x04 | 0x12 => some 3
  | 0x0C | 0x11 => some 4
  | 0x16 => some 6
  | 0x06 | 0x0F | 0x10 | 0x18 | 0x19 | 0x1A => some 0
  | _ => none

/-- A byte of a payload, numbered from 0. -/
def byteAt (payload : List Byte) (n : Nat) : Byte := payload[n]?.getD 0

/-- A two-byte field of a payload, high byte first (R183). -/
def halfAt (payload : List Byte) (n : Nat) : Half := byteAt payload n ++ byteAt payload (n + 1)

/-- A four-byte field of a payload, high byte first (R183). -/
def wordAt (payload : List Byte) (n : Nat) : Word := halfAt payload n ++ halfAt payload (n + 2)

/-- INJECT served: a target 0..5 is a channel, 0x11..0x18 a slot (R190). -/
def serveInject (target count : Byte) (s : State) : Answer × State :=
  if target.toNat ≤ 5 then serveInjectChannel target count s
  else if 0x11 ≤ target.toNat ∧ target.toNat ≤ 0x18 then serveInjectSlot (target - 0x10) count s
  else (refusal .range, s)

/-- A request of the right length handed to the block that serves it (R188 item 4, R190), the kinds of the filter
monitor and RESTART apart. -/
def serveByBlock (kind : Nat) (p : List Byte) (s : State) : Answer × State :=
  match kind with
  | 0x01 => serveStateRead (byteAt p 0) s
  | 0x02 => serveFanRead (byteAt p 0) s
  | 0x03 => serveLevelSet (byteAt p 0) s
  | 0x04 => serveBoost (halfAt p 0) (byteAt p 2) s
  | 0x05 => serveHoldTake (halfAt p 0) s
  | 0x06 => serveResume s
  | 0x09 => serveNodeEnrol (byteAt p 0) (byteAt p 1) s
  | 0x0A => serveNodeDrop (byteAt p 0) s
  | 0x0B => serveNodeRead (byteAt p 0) s
  | 0x0C => serveLineSet (byteAt p 0) (byteAt p 1) (byteAt p 2) (byteAt p 3) s
  | 0x0D => serveLineWrite (byteAt p 0) (byteAt p 1) s
  | 0x0E => serveLineRead (byteAt p 0) s
  | 0x0F => serveNoticesTake s
  | 0x10 => serveFlagsRead s
  | 0x11 => serveFlagsClear (wordAt p 0) s
  | 0x12 => serveEventSet (byteAt p 0) (byteAt p 1) (byteAt p 2) s
  | 0x13 => serveThresholdSet (byteAt p 0) s
  | 0x14 => serveTraceSet (byteAt p 0) s
  | 0x15 => serveInject (byteAt p 0) (byteAt p 1) s
  | 0x16 => serveSettingWrite (halfAt p 0) (wordAt p 2) s
  | 0x17 => serveSettingRead (halfAt p 0) s
  | 0x18 => serveSettingsSave s
  | _ => (refusal .unknown, s)

/-- The request a kind makes of the filter monitor, which holds it during a rewrite (R100). -/
def filterRequestOf (kind : Nat) (p : List Byte) : Option FilterRequest :=
  match kind with
  | 0x07 => some (.read (byteAt p 0))
  | 0x08 => some (.changed (byteAt p 0))
  | 0x19 => some .startReport
  | _ => none

/-- A request handed to its block (R188 item 4). -/
def handOver (r : ReplyTo) (p : List Byte) (s : State) : State :=
  match filterRequestOf r.kind.toNat p with
  | some req => handToFilter (some r) req s
  | none =>
    if r.kind.toNat = 0x1A then answerTo (some r) (doneWith []) true s
    else answerTo (some r) (serveByBlock r.kind.toNat p s).1 false (serveByBlock r.kind.toNat p s).2

/-- The HOLD mark judged (R62, R188 item 1). -/
def judgeHoldMark (flags : Byte) (s : State) : State := if flags.getLsbD 0 then s else releaseHold .mark s

/-- A request served (R188). -/
def serveRequest (r : HeldRequest) (s : State) : State :=
  let s' := judgeHoldMark r.flags s
  let to' : ReplyTo := { kind := r.kind, tag := r.tag }
  match requestLength r.kind.toNat with
  | none => answerTo (some to') (refusal .unknown) false s'
  | some n =>
    if r.payload.length ≠ n then answerTo (some to') (refusal .length) false s' else handOver to' r.payload s'

/-- The held request taken out of the holder and served (R187). -/
def serveHeld (s : State) : State :=
  match s.link.holder with
  | some r => serveRequest r { s with link := { s.link with holder := none } }
  | none => s

/-- The transmitter can take a frame: idle, the port open, and no reply still to be formed (R187, R200, log 8). -/
def transmitterFree (k : Link) : Bool := k.tx == .idle && !k.closed && !k.awaiting

/-! ### The receiver -/

/-- A frame discarded: the check-error-seen mark and LINK ERROR (R185); dropped while the port is closed (R200). -/
def discardFrame (next : Receiver) (s : State) : State :=
  if s.link.closed then { s with link := { s.link with receiver := next } }
  else
    report .linkError (.link .discard)
      { s with link := { s.link with receiver := next, checkErrorSeen := true } }

/-- A request entering the holder; one that is replaced sets the overrun-seen mark and reports LINK ERROR (R186). -/
def enterHolder (r : HeldRequest) (s : State) : State :=
  let s' := { s with link := { s.link with holder := some r } }
  if s.link.holder.isSome then
    report .linkError (.link .overrun) { s' with link := { s'.link with overrunSeen := true } }
  else s'

/-- A valid frame (R185, R186): the receiver goes to IDLE, the silence timer restarts (R63), and the request is served
at once when the transmitter is free. While the port is closed it is dropped (R200). -/
def validFrame (r : HeldRequest) (s : State) : State :=
  let s₀ := { s with link := { s.link with receiver := .idle } }
  if s.link.closed then s₀
  else
    let s₁ := enterHolder r { s₀ with demand := { s₀.demand with silence := 0 } }
    if transmitterFree s₁.link then serveHeld s₁ else s₁

/-- The bytes of a frame after its start byte are all there: length, body and check (R183). -/
def frameComplete (bytes : List Byte) : Bool := bytes.length == (byteAt bytes 0).toNat + 3

/-- The check field of a whole frame is the CRC-16 of its length and body (R185). -/
def checkGood (bytes : List Byte) : Bool :=
  bytes.drop (bytes.length - 2) == u16 (crc16 (bytes.take (bytes.length - 2))).toNat

/-- The request a whole frame carries (R183). -/
def requestOf (bytes : List Byte) : HeldRequest :=
  { kind := byteAt bytes 1, tag := byteAt bytes 2, flags := byteAt bytes 3
    payload := (bytes.drop 4).take ((byteAt bytes 0).toNat - 3) }

/-- A length byte outside 3..64 (R185). -/
def badLength (b : Byte) : Bool := b.toNat < 3 || 64 < b.toNat

/-- A byte received in FRAME (R184, R185). -/
def frameByte (bytes : List Byte) (b : Byte) (stopGood : Bool) (s : State) : State :=
  let bytes' := bytes ++ [b]
  if !stopGood || (bytes.isEmpty && badLength b) then discardFrame .hunt s
  else if frameComplete bytes' then
    if checkGood bytes' then validFrame (requestOf bytes') s else discardFrame .hunt s
  else { s with link := { s.link with receiver := .frame bytes' } }

/-- A byte that starts a frame (R184). -/
def startsFrame (b : Byte) (stopGood : Bool) : Bool := b == Config.linkStart && stopGood

/-- A byte received on RXD (R184). -/
def receiveLinkByte (b : Byte) (stopGood : Bool) (s : State) : State :=
  match s.link.receiver with
  | .idle =>
    if startsFrame b stopGood then { s with link := { s.link with receiver := .frame [] } }
    else discardFrame .hunt s
  | .hunt => if startsFrame b stopGood then { s with link := { s.link with receiver := .frame [] } } else s
  | .frame bytes => frameByte bytes b stopGood s

/-- A gap of more than 5 ms within a frame (R184, R185). -/
def gapTimeout (s : State) : State :=
  match s.link.receiver with
  | .frame _ => discardFrame .idle s
  | .idle | .hunt => s

/-- 5 ms without a byte in HUNT (R184). -/
def huntTimeout (s : State) : State :=
  match s.link.receiver with
  | .hunt => { s with link := { s.link with receiver := .idle } }
  | .idle | .frame _ => s

/-- A whole frame received; one longer than any frame can be is a discard (R183, log 9). -/
def frameReceived (kind tag flags : Byte) (payload : List Byte) (s : State) : State :=
  if maxPayload < payload.length then discardFrame .hunt s
  else validFrame { kind := kind, tag := tag, flags := flags, payload := payload } s

/-! ### The transmitter -/

/-- The transmitter becomes free: it serves the held request, or starts the waiting trace, or goes IDLE (R187). -/
def transmitterFreed (s : State) : State :=
  let s' := { s with link := { s.link with tx := .idle } }
  if s.link.closed then s'
  else if s.link.holder.isSome then serveHeld s'
  else
    match s.link.traceWait with
    | some n => startTrace n { s' with link := { s'.link with traceWait := none } }
    | none => s'

/-- The last check byte of a frame is sent (R187); at the end of the RESTART reply the port closes (R200). -/
def transmitEnd (s : State) : State :=
  match s.link.tx with
  | .idle => s
  | .reply _ true => { s with link := { s.link with tx := .idle, closed := true } }
  | .reply _ false => transmitterFreed s
  | .trace _ => transmitterFreed s

/-- The next trace number (R192). -/
def nextTraceNumber (n : Nat) : Nat := (n + 1) % 256

/-- A trace falls due (R192); with the period 0 the timer is stopped and none does. -/
def traceDue (s : State) : State :=
  if s.link.tracePeriod = 0 then s
  else
    let n := nextTraceNumber s.link.traceNumber
    let s' := { s with link := { s.link with traceNumber := n } }
    if transmitterFree s.link && s.link.holder.isNone then startTrace n s'
    else { s' with link := { s'.link with traceWait := some n } }

/-! ### RESTART -/

/-- RESTART that came by no frame: answered, and the port closed, since there is no reply to send (R200, log 7). -/
def restartRow (s : State) : State :=
  let s' := answerTo none (doneWith []) false s
  { s' with link := { s'.link with closed := true } }

/-! ### The rows of this family -/

/-- FRAME_RECEIVED (R186). -/
def execFrameReceived (kind tag flags : Byte) (payload : List Byte) (s : State) : Host.Outcome State Fault Refusal :=
  whilePowered (frameReceived kind tag flags payload) s

/-- FRAME_DISCARD (R185). -/
def execFrameDiscard (s : State) : Host.Outcome State Fault Refusal := whilePowered (discardFrame .hunt) s

/-- FRAME_GAP_TIMEOUT (R184). -/
def execFrameGapTimeout (s : State) : Host.Outcome State Fault Refusal := whilePowered gapTimeout s

/-- HUNT_TIMEOUT (R184). -/
def execHuntTimeout (s : State) : Host.Outcome State Fault Refusal := whilePowered huntTimeout s

/-- TRANSMIT_END (R187). -/
def execTransmitEnd (s : State) : Host.Outcome State Fault Refusal := whilePowered transmitEnd s

/-- TRACE_DUE (R192). -/
def execTraceDue (s : State) : Host.Outcome State Fault Refusal := whilePowered traceDue s

/-- STATE_READ (R190). -/
def execStateRead (page : Byte) (s : State) : Host.Outcome State Fault Refusal := serveRow (serveStateRead page) s

/-- TRACE_SET (R192). -/
def execTraceSet (period : Byte) (s : State) : Host.Outcome State Fault Refusal := serveRow (serveTraceSet period) s

/-- RESTART (R200). -/
def execRestart (s : State) : Host.Outcome State Fault Refusal := whileOpen restartRow s

/-- LINK_BYTE_RECEIVED (R184). -/
def execLinkByteReceived (byte : Byte) (stopGood : Bool) (s : State) : Host.Outcome State Fault Refusal :=
  whilePowered (receiveLinkByte byte stopGood) s

end Sys2Proof.Machine
end

