-- ==== Sys2Proof/Machine/Resets.lean ====
section
/-! DEFINITION. The loss of the core supply and the three kinds of reset: loading the working set (R197), the reset
values of every block, the judgement of the retained store (R101) and the start occurrences (R182, R198). -/

namespace Sys2Proof.Machine

/-! ### Loading the working set -/

/-- The one of two valid banks that a load takes, by their generation numbers (R197). -/
def laterBank (generation₀ generation₁ : Nat) : BankId :=
  if generation₀ = (generation₁ + 1) % 65536 then .bank0
  else if generation₁ = (generation₀ + 1) % 65536 then .bank1
  else if generation₀ < generation₁ then .bank1
  else .bank0

/-- The bank a load takes of two that are valid or not (R197); none when neither is. -/
def chosenBank (valid₀ valid₁ : Bool) (later : BankId) : Option BankId :=
  match valid₀, valid₁ with
  | true, true => some later
  | true, false => some .bank0
  | false, true => some .bank1
  | false, false => none

/-- The bank a load takes (R197). -/
def loadBank (st : SettingsStore) : Option BankId :=
  chosenBank (bankValid st.bank0) (bankValid st.bank1) (laterBank st.bank0.generation st.bank1.generation)

/-- The image a load takes. -/
def loadedImage (st : SettingsStore) : Option Settings := (loadBank st).map (fun i => (bankOf st i).image)

/-- The working set after a load (R197). -/
def loadedSettings (st : SettingsStore) : Settings := (loadedImage st).getD Settings.defaults

/-- The settings store after a load (R197, R198). -/
def storeLoaded (kind : ResetKind) (st : SettingsStore) : SettingsStore :=
  { st with
    current := loadBank st, saving := none
    verdict := if (loadedImage st).isSome then .loaded else .defaulted
    resetKind := kind }

/-! ### Judging the retained store -/

/-- The records after the judgement (R101). -/
def retainedRecords (store : List Byte) : PerStream FilterRec :=
  if storeGood store then storeRecords store else ⟨FilterRec.reinitialised, FilterRec.reinitialised⟩

/-- The filter monitor after every kind of reset (R124); a LOST verdict orders a rewrite (R101). -/
def filterAtReset (store : List Byte) : FilterMonitor :=
  { records := retainedRecords store
    pending := ⟨Pending.empty, Pending.empty⟩
    gateOpen := false, latest := ⟨none, none⟩, sampled := ⟨false, false⟩, capture := Capture.empty
    verdict := if storeGood store then .retained else .lost
    rewriting := !storeGood store, held := [], store := store }

/-! ### Reset values of the blocks -/

/-- The measurement unit (R19). -/
def measurementAtReset : Measurement :=
  { channels :=
      { tOut := ChannelRec.atReset, tSup := ChannelRec.atReset, tExt := ChannelRec.atReset,
        tExh := ChannelRec.atReset, dpS := ChannelRec.atReset, dpE := ChannelRec.atReset }
    effectiveness := none, fresh := false, quiet := 0, samples := 0 }

/-- D after a reset (R73). -/
def demandAtResetD (set : Settings) : Nat := clampNat (levelFlow set set.startLevel) set.fMin set.fMax

/-- The demand and run controller (R73). -/
def demandAtReset (set : Settings) : Demand :=
  { runState := .startup, level := set.startLevel, d := demandAtResetD set, boost := none, pullTimer := 0, h := 0,
    captureInForce := false, hold := none, silence := 0, smokeClear := 0, smokeRunning := false, smokeSource := none,
    smokeActive := PerLine.const false }

/-- The balance governor (R73). -/
def governorAtReset (set : Settings) : Governor := { tS := 0, tE := 0, allowance := set.aMax, carry := 0, r := 0 }

/-- The frost guard (R98). -/
def frostAtReset (set : Settings) : FrostGuard :=
  { mode := .idle, requested := 0, heaterOutput := 0, applied := 0, hto := false, r := 0, cold := 0, warm := 0,
    defrostTimer := 0, defrostLimit := 0, stopTimer := 0, stopLimit := 0, history := [],
    dHanded := demandAtResetD set, runSeen := .startup, exhaustion := false }

/-- A slot rebuilt from its entry of the loaded working set (R138, R143). -/
def slotAtReset : Option SlotEntry → SlotRec
  | some _ => { SlotRec.cleared with state := .active }
  | none => SlotRec.cleared

/-- The sensor bus controller (R143); the first round begins at the first POLL_PERIOD_START. -/
def busAtReset (set : Settings) : Bus :=
  { slots := set.slots.update (fun _ e => slotAtReset e), round := none, period := set.pollPeriod, sent := [] }

/-- The humidity response (R158). -/
def humidityAtReset (set : Settings) : Humidity :=
  { slots := PerSlot.const HumidRec.atReset, rhLim := set.humidBase, levelFlow := levelFlow set set.startLevel, h := 0 }

/-- The latch of a line after a reset (R170). -/
def latchAfter (kind : ResetKind) (latch : Bool) : Bool :=
  match kind with
  | .powerUp => false
  | .resetLine | .restart => latch

/-- The auxiliary line unit (R170), its outputs not yet driven. -/
def linesAtReset (kind : ResetKind) (records : PerStream FilterRec) (table : PerLine LineRec) : Lines :=
  { table := table.update (fun _ r => LineRec.atReset (latchAfter kind r.latch))
    alarm := false, lamp := lampWanted records, heater := false }

/-- The event unit, emptied (R182). -/
def eventsAtReset : Events := { flags := 0, severe := false, queue := [], ntf := false, seconds := 0 }

/-- The link port (R194). -/
def linkAtReset : Link :=
  { receiver := .idle, holder := none, tx := .idle, awaiting := false, overrunSeen := false, checkErrorSeen := false,
    queueNotEmpty := false, tracePeriod := 0, traceNumber := 0, traceWait := none, closed := false, answer := none }

/-! ### The reset -/

/-- Every block at its reset values from the loaded working set, before the start occurrences (R198). -/
def blocksReset (kind : ResetKind) (s : State) : State :=
  let set := loadedSettings s.store
  driveLines
    { powered := true
      settings := set
      store := storeLoaded kind s.store
      measurement := measurementAtReset
      loops :=
        { supply := LoopRec.atReset set.loops.supply.window, extract := LoopRec.atReset set.loops.extract.window }
      demand := demandAtReset set
      governor := governorAtReset set
      frost := frostAtReset set
      filter := filterAtReset s.filter.store
      bus := busAtReset set
      humidity := humidityAtReset set
      lines := linesAtReset kind (retainedRecords s.filter.store) s.lines.table
      events := eventsAtReset
      link := linkAtReset
      pending := s.pending }

/-- The start occurrences: SETTINGS DEFAULTED, then RETAINED LOST (R182, R197, R101, log 2). -/
def startOccurrences (s : State) : List (EventKind × Source) :=
  (if s.store.verdict = .defaulted then [(.settingsDefaulted, .none)] else [])
    ++ (if s.filter.verdict = .lost then [(.retainedLost, .none)] else [])

/-- A reset (R198). -/
def resetTo (kind : ResetKind) (s : State) : State :=
  let s' := blocksReset kind s
  reportAll (startOccurrences s') s'

/-! ### What a reset or a loss of supply does to the persistent stores -/

/-- A rewrite in progress finished (R102). -/
def finishRewrite (s : State) : State :=
  if s.filter.rewriting then
    { s with filter := { s.filter with store := storeImage s.filter.records, rewriting := false } }
  else s

/-- The settings store after a save that was cut: the bank it wrote is not valid once one of its bytes had changed
(R197). -/
def storeCut (touched : Bool) (image : Settings) (st : SettingsStore) : SettingsStore :=
  { (if touched then putBank (targetBank st) (cutBank image (nextGeneration st)) st else st) with saving := none }

/-- A save in progress cut short (R197). -/
def cutSave (touched : Bool) (s : State) : State :=
  match s.store.saving with
  | some image => { s with store := storeCut touched image s.store }
  | none => s

/-- A save in progress completed, its SAVE DONE lost with the reset (R200). -/
def finishSave (s : State) : State :=
  match s.store.saving with
  | some image => { s with store := bankWritten image s.store }
  | none => s

/-- A rewrite cut where it stood with VBK holding the store up (R102). -/
def cutImage (written : Nat) (records : PerStream FilterRec) (old : List Byte) : List Byte :=
  (storeImage records).take (min written rewriteCutLimit) ++ old.drop (min written rewriteCutLimit)

/-- The retained store after a loss of the core supply (R102). -/
def storeAfterLoss (vbkHolds : Bool) (written : Nat) (f : FilterMonitor) : List Byte :=
  if !vbkHolds then blankStore
  else if f.rewriting then cutImage written f.records f.store
  else f.store

/-- The loss of the core supply (R102, R197). -/
def supplyLoss (vbkHolds : Bool) (written : Nat) (saveTouched : Bool) (s : State) : State :=
  let s' := cutSave saveTouched s
  { s' with
    powered := false
    filter := { s'.filter with store := storeAfterLoss vbkHolds written s'.filter, rewriting := false } }

/-- The RESTART reset: taken once the port is closed by the end of its reply, a rewrite and a save in progress having
completed (R200, R102). -/
def restartReset (s : State) : State :=
  if s.link.closed then resetTo .restart (finishSave (finishRewrite s)) else s

/-! ### The rows of this family -/

/-- POWER_UP (R198). -/
def execPowerUp (s : State) : Host.Outcome State Fault Refusal := .next (resetTo .powerUp s)

/-- RESET_LINE (R198, R102). -/
def execResetLine (saveTouched : Bool) (s : State) : Host.Outcome State Fault Refusal :=
  whilePowered (fun s => resetTo .resetLine (cutSave saveTouched (finishRewrite s))) s

/-- RESTART_RESET (R200). -/
def execRestartReset (s : State) : Host.Outcome State Fault Refusal := whilePowered restartReset s

/-- CORE_SUPPLY_LOSS (R102). -/
def execCoreSupplyLoss (vbkHolds : Bool) (written : Nat) (saveTouched : Bool) (s : State) :
    Host.Outcome State Fault Refusal :=
  whilePowered (supplyLoss vbkHolds written saveTouched) s

end Sys2Proof.Machine
end

