-- ==== Sys2Proof/Machine/Dispatch.lean ====
section
/-! DEFINITION. One arm per command: each is one direct call of its meaning. -/

namespace Sys2Proof.Machine

def exec (i : Instr) (s : State) : Host.Outcome State Fault Refusal :=
  match i with
  | .powerUp => Sys2Proof.Machine.execPowerUp s
  | .resetLine saveTouched => Sys2Proof.Machine.execResetLine saveTouched s
  | .sampleEvent codes => Sys2Proof.Machine.execSampleEvent codes s
  | .secondEnd => Sys2Proof.Machine.execSecondEnd s
  | .tachEdge fan time => Sys2Proof.Machine.execTachEdge fan time s
  | .windowEnd fan => Sys2Proof.Machine.execWindowEnd fan s
  | .exhaustionSignal => Sys2Proof.Machine.execExhaustionSignal s
  | .frostPeriod => Sys2Proof.Machine.execFrostPeriod s
  | .htoOnTimeEnd => Sys2Proof.Machine.execHtoOnTimeEnd s
  | .defrostMaximumExpiry => Sys2Proof.Machine.execDefrostMaximumExpiry s
  | .stopTimerExpiry => Sys2Proof.Machine.execStopTimerExpiry s
  | .demandSecond => Sys2Proof.Machine.execDemandSecond s
  | .hostBoostExpiry => Sys2Proof.Machine.execHostBoostExpiry s
  | .pullSwitchTimerExpiry => Sys2Proof.Machine.execPullSwitchTimerExpiry s
  | .silenceExpiry => Sys2Proof.Machine.execSilenceExpiry s
  | .filterMinute => Sys2Proof.Machine.execFilterMinute s
  | .rewriteEnd => Sys2Proof.Machine.execRewriteEnd s
  | .captureWaitTimeout => Sys2Proof.Machine.execCaptureWaitTimeout s
  | .captureRunEnd => Sys2Proof.Machine.execCaptureRunEnd s
  | .lockOutExpiry fan => Sys2Proof.Machine.execLockOutExpiry fan s
  | .pollPeriodStart => Sys2Proof.Machine.execPollPeriodStart s
  | .poll => Sys2Proof.Machine.execPoll s
  | .answerComplete bytes => Sys2Proof.Machine.execAnswerComplete bytes s
  | .answerWindowClose => Sys2Proof.Machine.execAnswerWindowClose s
  | .holdExpiry slot => Sys2Proof.Machine.execHoldExpiry slot s
  | .humidityMinute => Sys2Proof.Machine.execHumidityMinute s
  | .auxSampleEvent pins => Sys2Proof.Machine.execAuxSampleEvent pins s
  | .resetSecondTick => Sys2Proof.Machine.execResetSecondTick s
  | .frameReceived kind tag flags payload => Sys2Proof.Machine.execFrameReceived kind tag flags payload s
  | .frameDiscard => Sys2Proof.Machine.execFrameDiscard s
  | .frameGapTimeout => Sys2Proof.Machine.execFrameGapTimeout s
  | .huntTimeout => Sys2Proof.Machine.execHuntTimeout s
  | .transmitEnd => Sys2Proof.Machine.execTransmitEnd s
  | .traceDue => Sys2Proof.Machine.execTraceDue s
  | .stateRead page => Sys2Proof.Machine.execStateRead page s
  | .fanRead fan => Sys2Proof.Machine.execFanRead fan s
  | .levelSet level => Sys2Proof.Machine.execLevelSet level s
  | .boost flow minutes => Sys2Proof.Machine.execBoost flow minutes s
  | .holdTake flow => Sys2Proof.Machine.execHoldTake flow s
  | .resume => Sys2Proof.Machine.execResume s
  | .filterRead filter => Sys2Proof.Machine.execFilterRead filter s
  | .filterChanged filter => Sys2Proof.Machine.execFilterChanged filter s
  | .nodeEnrol address kind => Sys2Proof.Machine.execNodeEnrol address kind s
  | .nodeDrop slot => Sys2Proof.Machine.execNodeDrop slot s
  | .nodeRead slot => Sys2Proof.Machine.execNodeRead slot s
  | .lineSet line function polarity edge => Sys2Proof.Machine.execLineSet line function polarity edge s
  | .lineWrite line value => Sys2Proof.Machine.execLineWrite line value s
  | .lineRead line => Sys2Proof.Machine.execLineRead line s
  | .noticesTake => Sys2Proof.Machine.execNoticesTake s
  | .flagsRead => Sys2Proof.Machine.execFlagsRead s
  | .flagsClear kinds => Sys2Proof.Machine.execFlagsClear kinds s
  | .eventSet code enable level => Sys2Proof.Machine.execEventSet code enable level s
  | .thresholdSet threshold => Sys2Proof.Machine.execThresholdSet threshold s
  | .traceSet period => Sys2Proof.Machine.execTraceSet period s
  | .injectChannel channel count => Sys2Proof.Machine.execInjectChannel channel count s
  | .injectSlot slot count => Sys2Proof.Machine.execInjectSlot slot count s
  | .settingWrite id value => Sys2Proof.Machine.execSettingWrite id value s
  | .settingRead id => Sys2Proof.Machine.execSettingRead id s
  | .settingsSave => Sys2Proof.Machine.execSettingsSave s
  | .saveComplete => Sys2Proof.Machine.execSaveComplete s
  | .startReport => Sys2Proof.Machine.execStartReport s
  | .restart => Sys2Proof.Machine.execRestart s
  | .restartReset => Sys2Proof.Machine.execRestartReset s
  | .linkByteReceived byte stopGood => Sys2Proof.Machine.execLinkByteReceived byte stopGood s
  | .sensorBusByteReceived byte stopGood => Sys2Proof.Machine.execSensorBusByteReceived byte stopGood s
  | .coreSupplyLoss vbkHolds written saveTouched => Sys2Proof.Machine.execCoreSupplyLoss vbkHolds written saveTouched s

end Sys2Proof.Machine
end

