-- ==== Sys2Proof/Safety.lean ====
section
/-! DEFINITION. What a safe state is: the properties of the manual that hold between any two commands, each over the
state alone, and the run of a list of commands. -/

namespace Sys2Proof.Machine

/-- Commands run one after another; the first that faults or is refused ends the run. -/
def runCommands : List Instr → State → Host.Outcome State Fault Refusal
  | [], s => .next s
  | c :: cs, s =>
    match exec c s with
    | .next s' => runCommands cs s'
    | .fault f => .fault f
    | .refused r => .refused r

/-- The image of a bank that is valid. -/
def validImage (b : Bank) : List Settings := if bankValid b then [b.image] else []

/-- The images a load or a save can take from the settings store: those of the valid banks, and the snapshot being
saved. -/
def storedImages (st : SettingsStore) : List Settings :=
  validImage st.bank0 ++ validImage st.bank1 ++ st.saving.toList

/-- Every set of settings the part holds: the working set and the images. -/
def allSettings (s : State) : List Settings := s.settings :: storedImages s.store

/-- F_min is not above F_max (R60). -/
abbrev clampOrdered (set : Settings) : Prop := set.fMin ≤ set.fMax

/-- D lies between F_min and F_max (R59). -/
abbrev DemandBounded (s : State) : Prop :=
  (∀ set ∈ allSettings s, clampOrdered set) ∧ s.settings.fMin ≤ s.demand.d ∧ s.demand.d ≤ s.settings.fMax

/-- D, H and the level flow are what their rules give of their inputs, and the frost guard has the same D (R59, R60,
R154, R54). -/
abbrev DemandCurrent (s : State) : Prop :=
  s.demand.d = demandOf s ∧ s.frost.dHanded = s.demand.d ∧ s.humidity.levelFlow = levelFlowNow s
    ∧ s.humidity.h = humidityDemand s ∧ s.demand.h = s.humidity.h

/-- A slot that the humidity minute does not judge, EMPTY or ENROLLING, has a QUIET record (R153, THE BOOST RECORD). -/
abbrev UnjudgedSlotsQuiet (s : State) : Prop :=
  ∀ k ∈ Slot.all, (s.bus.slots.get k).state = .empty ∨ (s.bus.slots.get k).state = .enrolling →
    countsTowardH (s.humidity.slots.get k) = false

/-- The heater output is the requested power while the interlock holds and 0 otherwise; HTO and HEATER ENABLE are on
only with it (R75 to R77, R165). -/
abbrev HeatInterlocked (s : State) : Prop :=
  s.frost.runSeen = s.demand.runState
    ∧ s.frost.heaterOutput = (if interlock s then s.frost.requested else 0)
    ∧ (s.frost.hto = true → 0 < s.frost.heaterOutput)
    ∧ s.lines.heater = decide (0 < s.frost.heaterOutput)

/-- A run state that a FAILED loop leaves the unit in (R52). -/
abbrev stopsForFailure (rs : RunState) : Prop := rs = .smokeStop ∨ rs = .faultStop

/-- Both targets are 0 and offered so in every run state but RUN, and no loop is FAILED but in SMOKE STOP and FAULT STOP
(R52, R67). -/
abbrev TargetsStopped (s : State) : Prop :=
  (s.demand.runState ≠ .run →
    s.governor.tS = 0 ∧ s.governor.tE = 0 ∧ s.loops.supply.offered = 0 ∧ s.loops.extract.offered = 0)
    ∧ (anyLoopFailed s = true → stopsForFailure s.demand.runState)

/-- The allowance lies within 0..A_max, its carry within 0..999 (R68). -/
abbrev AllowanceBounded (s : State) : Prop := s.governor.allowance ≤ s.settings.aMax ∧ s.governor.carry ≤ 999

/-- A frost state in which the guard asks for no power. -/
abbrev asksNoPower (m : FrostMode) : Prop := m = .idle ∨ m = .watch ∨ m = .frostStop

/-- What the frost state says of the run state, the requested power and R (R46, R78, R79, R86, R90). -/
abbrev FrostConsistent (s : State) : Prop :=
  s.frost.runSeen = s.demand.runState
    ∧ (s.frost.mode = .preheat ∨ s.frost.mode = .defrost → s.demand.runState = .run)
    ∧ (s.frost.mode = .frostStop ↔ s.demand.runState = .frostStop)
    ∧ (asksNoPower s.frost.mode → s.frost.requested = 0)
    ∧ (0 < s.frost.r → s.frost.mode = .defrost)
    ∧ s.governor.r = s.frost.r
    ∧ s.frost.requested ≤ s.settings.hMax

/-- The hold is in force in RUN only, never with a capture, DEFROST or FROST STOP (R61, R64). -/
abbrev HoldExclusive (s : State) : Prop :=
  (s.demand.hold.isSome = true →
    s.demand.runState = .run ∧ s.demand.captureInForce = false ∧ s.frost.mode ≠ .defrost ∧ s.frost.mode ≠ .frostStop)
    ∧ s.demand.captureInForce = decide (s.filter.capture.state ≠ .none)

/-- At most 15 ordinary records and one OVERFLOW record (R177); NTF and the not-empty report stand as the queue does
(R181, R179). -/
abbrev QueueBounded (s : State) : Prop :=
  ordinaryCount s.events.queue ≤ 15
    ∧ s.events.queue.countP (fun n => !ordinary n) ≤ 1
    ∧ s.events.ntf = s.events.queue.any (fun n => decide (s.settings.threshold < n.level))
    ∧ s.link.queueNotEmpty = !s.events.queue.isEmpty

/-- The severe summary says whether a severe flag is raised, and ALARM OUT follows it (R173, R165). -/
abbrev AlarmFollows (s : State) : Prop :=
  s.events.severe = (s.events.flags &&& severeMask != 0) ∧ s.lines.alarm = s.events.severe

/-- The addresses of a set's slot entries. -/
def enrolledAddresses (set : Settings) : List Nat :=
  (Slot.all.filterMap (fun k => set.slots.get k)).map SlotEntry.address

/-- No two slots that are not EMPTY hold the same address, and a slot is EMPTY just when the working set has no entry
for it (THE SLOT TABLE, R137, R138). -/
abbrev SlotsConsistent (s : State) : Prop :=
  (∀ set ∈ allSettings s, (enrolledAddresses set).Nodup)
    ∧ ∀ k ∈ Slot.all, (s.settings.slots.get k).isSome = occupied s k

/-- A loop state in which the fan is not driven (LOOP STATES). -/
abbrev undriven (st : LoopState) : Prop := st = .stopped ∨ st = .stalled ∨ st = .failed

/-- A fan that is STOPPED, STALLED or FAILED has drive 0 (R36, R37, R38). -/
abbrev FansUndriven (s : State) : Prop :=
  (undriven s.loops.supply.state → s.loops.supply.drive = 0)
    ∧ (undriven s.loops.extract.state → s.loops.extract.drive = 0)

/-- Neither bank is valid while there is no current bank (R196, R197). -/
abbrev BanksConsistent (s : State) : Prop :=
  s.store.current = none → bankValid s.store.bank0 = false ∧ bankValid s.store.bank1 = false

/-- The retained store holds 50 bytes (R100). -/
abbrev StoreWhole (s : State) : Prop := s.filter.store.length = 50

/-- What a request row leaves when it changes nothing but the link port's latest reply. -/
def replied (a : Answer) (s : State) : State := { s with link := { s.link with answer := some a } }

/-- The row that a request frame asks for, by its kind and payload (R190); RESTART, whose reply closes the port, and a
kind or a length that R188 refuses have none. -/
def requestRow (kind : Byte) (payload : List Byte) : Option Instr :=
  match kind.toNat, payload with
  | 0x01, [page] => some (.stateRead page)
  | 0x02, [fan] => some (.fanRead fan)
  | 0x03, [level] => some (.levelSet level)
  | 0x04, [hi, lo, minutes] => some (.boost (hi ++ lo) minutes)
  | 0x05, [hi, lo] => some (.holdTake (hi ++ lo))
  | 0x06, [] => some .resume
  | 0x07, [filter] => some (.filterRead filter)
  | 0x08, [filter] => some (.filterChanged filter)
  | 0x09, [address, kind] => some (.nodeEnrol address kind)
  | 0x0A, [slot] => some (.nodeDrop slot)
  | 0x0B, [slot] => some (.nodeRead slot)
  | 0x0C, [line, function, polarity, edge] => some (.lineSet line function polarity edge)
  | 0x0D, [line, value] => some (.lineWrite line value)
  | 0x0E, [line] => some (.lineRead line)
  | 0x0F, [] => some .noticesTake
  | 0x10, [] => some .flagsRead
  | 0x11, [a, b, c, d] => some (.flagsClear ((a ++ b : Half) ++ (c ++ d : Half)))
  | 0x12, [code, enable, level] => some (.eventSet code enable level)
  | 0x13, [threshold] => some (.thresholdSet threshold)
  | 0x14, [period] => some (.traceSet period)
  | 0x15, [target, count] =>
    if target.toNat ≤ 5 then some (.injectChannel target count)
    else if 0x11 ≤ target.toNat ∧ target.toNat ≤ 0x18 then some (.injectSlot (target - 0x10) count)
    else none
  | 0x16, [i, j, a, b, c, d] => some (.settingWrite (i ++ j) ((a ++ b : Half) ++ (c ++ d : Half)))
  | 0x17, [i, j] => some (.settingRead (i ++ j))
  | 0x18, [] => some .settingsSave
  | 0x19, [] => some .startReport
  | _, _ => none

/-- What a request row asks of the filter monitor, which holds it while a rewrite lasts (R100). -/
def filterAsk : Instr → Option FilterRequest
  | .filterRead b => some (.read b)
  | .filterChanged b => some (.changed b)
  | .startReport => some .startReport
  | _ => none

/-- The rows that are requests of the host (R190), which the closed link port does not serve (R200). -/
def isRequest : Instr → Bool
  | .stateRead _ | .fanRead _ | .levelSet _ | .boost .. | .holdTake _ | .resume | .filterRead _ | .filterChanged _
  | .nodeEnrol .. | .nodeDrop _ | .nodeRead _ | .lineSet .. | .lineWrite .. | .lineRead _ | .noticesTake | .flagsRead
  | .flagsClear _ | .eventSet .. | .thresholdSet _ | .traceSet _ | .injectChannel .. | .injectSlot .. | .settingWrite ..
  | .settingRead _ | .settingsSave | .startReport | .restart => true
  | _ => false

/-- The reply to a request sent: the frame of R183, R188 and R191 with the answer, both link marks cleared (R191). -/
def replySent (kind tag : Byte) (a : Answer) (restart : Bool) (s : State) : State :=
  { s with
    link :=
      { s.link with
        answer := some a
        tx := .reply (frameBytes (replyKind kind) tag (linkFlags s.link) (u8 (statusCode a.status) ++ a.payload)) restart
        overrunSeen := false, checkErrorSeen := false, awaiting := false } }

/-- A command that is taken as a reset, and its kind (R198, R200). -/
inductive TakesReset (s : State) : Instr → ResetKind → Prop where
  | powerUp : TakesReset s .powerUp .powerUp
  | resetLine (b : Bool) (h : s.powered = true) : TakesReset s (.resetLine b) .resetLine
  | restart (h : s.powered = true) (hc : s.link.closed = true) : TakesReset s .restartReset .restart

/-- Supply, settings, banks, sensor bus, humidity response and queue are as they were. -/
abbrev OuterKept (s t : State) : Prop :=
  t.powered = s.powered ∧ t.settings = s.settings ∧ t.store = s.store ∧ t.bus = s.bus ∧ t.humidity = s.humidity
    ∧ t.pending = s.pending

/-- The event unit, the link port and the lines differ by reported occurrences and function levels at most: the
reset-second count, the link port but for its not-empty report, and every line's latch and samples are as they were. -/
abbrev ReportsOnly (s t : State) : Prop :=
  t.events.seconds = s.events.seconds
    ∧ t.link = { s.link with queueNotEmpty := t.link.queueNotEmpty }
    ∧ ∀ l, (t.lines.table.get l).latch = (s.lines.table.get l).latch
        ∧ (t.lines.table.get l).sample = (s.lines.table.get l).sample
        ∧ (t.lines.table.get l).sampleRun = (s.lines.table.get l).sampleRun
        ∧ (t.lines.table.get l).settled = (s.lines.table.get l).settled

/-- A filter record whose figures lie in the ranges of R99. -/
abbrev recordInRange (r : FilterRec) : Prop :=
  r.volume ≤ Config.maxVolume ∧ r.carry < Config.cubicMetre ∧ r.minutes ≤ Config.maxServiceMinutes
    ∧ (∀ b ∈ r.baseline, 5 ≤ b ∧ b ≤ 500) ∧ r.dpAvg ≤ 1000 ∧ r.changes ≤ 65535

end Sys2Proof.Machine
end

