-- ==== Sys2Proof/Certificates/Slice0/Obligations.lean ====
section
/-! DEFINITION. The statements about the model, for the provers. A docstring names the rules a statement comes from; it
states of each what its Lean text says, which may be a part. An answer to a request row is read in `link.answer`; a
request row is served while the link port is open (log 7, R200). The model's own choices that a clause rests on are named by their log entry. -/

open Sys2Proof Sys2Proof.Machine

/-! ### The queue -/

/-- The command at the front of the queue is run with the queue's rest (the model's own queue); with none the block
idles (log 3). -/
def Obligations.StepTakesFront : Prop :=
  (∀ (c : Instr) (s : State), step { s with pending := c :: s.pending } = exec c s)
    ∧ ∀ s : State, s.pending = [] → step s = .next s

/-! ### Invariants -/

/-- The state right after reset has every property below. -/
def Obligations.ResetSatisfiesInvariants : Prop :=
  DemandBounded State.reset ∧ DemandCurrent State.reset ∧ HeatInterlocked State.reset ∧ TargetsStopped State.reset
    ∧ FansUndriven State.reset ∧ AllowanceBounded State.reset ∧ FrostConsistent State.reset
    ∧ HoldExclusive State.reset ∧ QueueBounded State.reset ∧ AlarmFollows State.reset ∧ SlotsConsistent State.reset
    ∧ BanksConsistent State.reset ∧ UnjudgedSlotsQuiet State.reset ∧ StoreWhole State.reset

/-- R59, R60: D always lies between F_min and F_max. -/
def Obligations.DemandStaysBounded : Prop :=
  ∀ s s' : State, DemandBounded s → step s = .next s' → DemandBounded s'

/-- R54, R59, R60, R153, R154, R155: after every command D, H and the level flow are what their rules give of their
inputs, and the frost guard has been handed that D; a slot that is EMPTY or ENROLLING adds nothing to H. -/
def Obligations.DemandStaysCurrent : Prop :=
  ∀ s s' : State, DemandCurrent s ∧ UnjudgedSlotsQuiet s → step s = .next s' → DemandCurrent s' ∧ UnjudgedSlotsQuiet s'

/-- R75, R76, R77, R165: after every command the heater output is the requested power just while the interlock holds,
and HTO and HEATER ENABLE follow it. -/
def Obligations.HeatStaysInterlocked : Prop :=
  ∀ s s' : State, HeatInterlocked s → step s = .next s' → HeatInterlocked s'

/-- R67, R52, R25: outside RUN no flow is offered, a FAILED loop keeps the unit stopped, and a fan that is STOPPED,
STALLED or FAILED is not driven. -/
def Obligations.StoppedFansStayStill : Prop :=
  ∀ s s' : State, TargetsStopped s ∧ FansUndriven s → step s = .next s' → TargetsStopped s' ∧ FansUndriven s'

/-- R68: the allowance stays within 0..A_max and its carry within 0..999. -/
def Obligations.AllowanceStaysBounded : Prop :=
  ∀ s s' : State, AllowanceBounded s → step s = .next s' → AllowanceBounded s'

/-- R78, R79, R86, R90: the frost state, the run state, the requested power and R stay consistent. -/
def Obligations.FrostStaysConsistent : Prop :=
  ∀ s s' : State, FrostConsistent s → step s = .next s' → FrostConsistent s'

/-- R61, R64: the hold stays out of every state in which it must not be in force. -/
def Obligations.HoldStaysExclusive : Prop :=
  ∀ s s' : State, HoldExclusive s → step s = .next s' → HoldExclusive s'

/-- R173, R177, R179, R181: the notice queue keeps its bounds, NTF and the not-empty report stand as the queue does, and
ALARM OUT as the severe flags do. -/
def Obligations.EventsStayConsistent : Prop :=
  ∀ s s' : State, QueueBounded s ∧ AlarmFollows s → step s = .next s' → QueueBounded s' ∧ AlarmFollows s'

/-- R137, R138, R196, R197, R100: no two occupied slots ever hold one address, the working set has an entry just for the
occupied slots, with no current bank no bank is valid, and the retained store holds 50 bytes. -/
def Obligations.SlotsAndBanksStayConsistent : Prop :=
  ∀ s s' : State, SlotsConsistent s ∧ BanksConsistent s ∧ StoreWhole s → step s = .next s' →
    SlotsConsistent s' ∧ BanksConsistent s' ∧ StoreWhole s'

/-! ### Round trips -/

/-- R183, R184, R185: the bytes of a frame, received one after another with good stop bits by an idle receiver, are
taken as that frame. -/
def Obligations.LinkFrameRoundTrip : Prop :=
  ∀ (kind tag flags : Byte) (payload : List Byte) (s : State),
    s.powered = true → s.link.receiver = .idle → payload.length ≤ maxPayload →
      runCommands ((frameBytes kind tag flags payload).map (fun b => .linkByteReceived b true)) s
        = exec (.frameReceived kind tag flags payload) s

/-- R100, R101: records in their ranges that a rewrite has stored are found RETAINED at a reset and read back as they
were (in the model's byte order of the check words and the CRC, log 45). -/
def Obligations.RetainedStoreRoundTrip : Prop :=
  ∀ (b : Bool) (s : State),
    s.powered = true → s.filter.rewriting = true → s.filter.held = [] →
      recordInRange s.filter.records.supply → recordInRange s.filter.records.extract →
        ∃ t, runCommands [.rewriteEnd, .resetLine b] s = .next t
          ∧ t.filter.verdict = .retained ∧ t.filter.records = s.filter.records ∧ t.filter.rewriting = false

/-- R196, R197: a working set that has been saved is loaded again by the next reset. -/
def Obligations.SavedSettingsAreLoaded : Prop :=
  ∀ (b : Bool) (s : State),
    s.powered = true → s.link.closed = false → s.store.saving = none → BanksConsistent s →
      ∃ t, runCommands [.settingsSave, .saveComplete, .resetLine b] s = .next t
        ∧ t.settings = s.settings ∧ t.store.verdict = .loaded ∧ t.store.saving = none

/-! ### Resets and the supply -/

/-- R19, R45, R73: what every kind of reset leaves in the measurement unit, the fan loops, the controller and the
governor. -/
def Obligations.ResetValuesOfAirBlocks : Prop :=
  ∀ (c : Instr) (kind : ResetKind) (s : State), TakesReset s c kind →
    ∃ t, exec c s = .next t
      ∧ t.measurement.effectiveness = none ∧ t.measurement.fresh = false ∧ t.measurement.quiet = 0
      ∧ t.measurement.samples = 0
      ∧ (∀ ch, t.measurement.channels.get ch =
          { state := .failed, value := none, last := none, lastFault := .none, first := false, badSeconds := 0,
            recovery := 0, injection := 0, shownFault := .none, shownInjection := 0, sum := 0, bad := 0 })
      ∧ (∀ x, let l := t.loops.get x
          l.state = .stopped ∧ l.drive = 0 ∧ l.offered = 0 ∧ l.taken = 0 ∧ l.speedTarget = 0 ∧ l.shownTarget = 0 ∧ l.speed = 0
            ∧ l.n = 0 ∧ l.d = 0 ∧ l.flow = 0 ∧ l.atCeiling = false ∧ l.latch = true ∧ l.stallCount = 0 ∧ l.inBand = 0
            ∧ l.outBand = 0 ∧ l.settling = 0 ∧ l.noEdge = 0 ∧ l.startTime = 0 ∧ l.pauseTime = 0
            ∧ l.failReport = false ∧ l.edges = 0 ∧ l.span = 0
            ∧ l.window = (t.settings.loops.get x).window ∧ l.ended = (t.settings.loops.get x).window)
      ∧ t.demand.runState = .startup ∧ t.demand.level = t.settings.startLevel ∧ t.demand.boost = none
      ∧ t.demand.pullTimer = 0 ∧ t.demand.h = 0 ∧ t.demand.captureInForce = false ∧ t.demand.hold = none
      ∧ t.demand.silence = 0 ∧ t.demand.smokeClear = 0 ∧ t.demand.smokeRunning = false ∧ t.demand.smokeSource = none
      ∧ t.demand.d = clampNat (levelFlow t.settings t.settings.startLevel) t.settings.fMin t.settings.fMax
      ∧ t.governor.tS = 0 ∧ t.governor.tE = 0 ∧ t.governor.allowance = t.settings.aMax ∧ t.governor.carry = 0
      ∧ t.governor.r = 0

/-- R98, R124, R143, R158, R194: what every kind of reset leaves in the frost guard, the filter monitor, the sensor bus
controller, the humidity response and the link port. -/
def Obligations.ResetValuesOfOtherBlocks : Prop :=
  ∀ (c : Instr) (kind : ResetKind) (s : State), TakesReset s c kind →
    ∃ t, exec c s = .next t
      ∧ t.powered = true ∧ t.store.resetKind = kind ∧ t.store.saving = none ∧ t.pending = s.pending
      ∧ t.events.seconds = 0
      ∧ t.frost.mode = .idle ∧ t.frost.requested = 0 ∧ t.frost.heaterOutput = 0 ∧ t.frost.applied = 0
      ∧ t.frost.hto = false ∧ t.frost.r = 0 ∧ t.frost.cold = 0 ∧ t.frost.warm = 0 ∧ t.frost.defrostTimer = 0
      ∧ t.frost.stopTimer = 0 ∧ t.frost.history = [] ∧ t.frost.dHanded = t.demand.d ∧ t.frost.runSeen = .startup
      ∧ t.filter.gateOpen = false ∧ t.filter.capture = Capture.empty ∧ t.filter.latest = ⟨none, none⟩
      ∧ t.filter.sampled = ⟨false, false⟩ ∧ t.filter.pending = ⟨Pending.empty, Pending.empty⟩ ∧ t.filter.held = []
      ∧ t.bus.round = none ∧ t.bus.period = t.settings.pollPeriod
      ∧ (∀ k, t.bus.slots.get k =
          { state := if (t.settings.slots.get k).isSome then .active else .empty, reading := none, held := false,
            lastGood := none, miss := 0, injection := 0, outcome := .none, expiry := none })
      ∧ (∀ k, t.humidity.slots.get k =
          { ring := [], boost := .quiet, boostMinutes := 0, runOnMinutes := 0, saturated := false })
      ∧ t.humidity.rhLim = t.settings.humidBase ∧ t.humidity.h = 0
      ∧ t.humidity.levelFlow = levelFlow t.settings t.settings.startLevel
      ∧ t.link.receiver = .idle ∧ t.link.holder = none ∧ t.link.tx = .idle ∧ t.link.overrunSeen = false
      ∧ t.link.checkErrorSeen = false ∧ t.link.tracePeriod = 0 ∧ t.link.traceWait = none ∧ t.link.traceNumber = 0
      ∧ t.link.closed = false

/-- R170: the output latches are INACTIVE after POWER UP and kept by the other resets; no line has a sample, a settled
level, a mismatch or a fault, and every line drives what its loaded configuration says. -/
def Obligations.ResetOfTheLines : Prop :=
  ∀ (c : Instr) (kind : ResetKind) (s : State), TakesReset s c kind →
    ∃ t, exec c s = .next t ∧ t.lines.heater = false ∧ t.lines.lamp = lampWanted t.filter.records
      ∧ ∀ l, let r := t.lines.table.get l
        r.latch = (if kind = .powerUp then false else (s.lines.table.get l).latch)
          ∧ r.sample = none ∧ r.sampleRun = 0 ∧ r.settled = none ∧ r.mismatch = 0 ∧ r.fault = false
          ∧ r.driven = drivenLevel t.lines (t.settings.lines.get l) r.latch

/-- R101, R102, R182, R196 to R198, R200: what POWER UP and each other kind of reset load, judge and report, of the
stores as that reset finds them. POWER UP takes them as they stand, in a powered part too (log 14). RESET LINE finishes a
rewrite and cuts a save, the bank it wrote not valid once a byte of it had changed (what a cut bank holds: log 13, 27).
RESTART finishes a rewrite and completes a save, which the reload then takes. The bank whose generation follows the
other's is loaded, or the only valid one, or the defaults; the records follow the retained store; and the event unit holds
nothing but the start occurrences, SETTINGS DEFAULTED first (log 2). -/
def Obligations.PowerUpLoadsAndReports : Prop :=
  ∀ (c : Instr) (kind : ResetKind) (s : State), TakesReset s c kind →
    ∃ t, exec c s = .next t
      ∧ (let a := t.store.bank0
          let b := t.store.bank1
          let onBank0 := s.store.current = some .bank0
          (s.store.saving = none ∨ c = .powerUp ∨ c = .resetLine false → a = s.store.bank0 ∧ b = s.store.bank1)
            ∧ (s.store.saving.isSome = true → c = .resetLine true →
                (onBank0 → a = s.store.bank0 ∧ bankValid b = false) ∧ (¬onBank0 → bankValid a = false ∧ b = s.store.bank1))
            ∧ (∀ image, s.store.saving = some image → kind = .restart →
                (onBank0 →
                    a = s.store.bank0 ∧ b.image = image ∧ b.generation = (s.store.bank0.generation + 1) % 65536
                      ∧ bankValid b = true)
                  ∧ (¬onBank0 →
                      b = s.store.bank1 ∧ a.image = image ∧ bankValid a = true
                        ∧ a.generation =
                            (if s.store.current = none then 0 else (s.store.bank1.generation + 1) % 65536))
                  ∧ (s.store.current ≠ none ∨ bankValid s.store.bank1 = false → t.settings = image))
            ∧ (bankValid a = true → bankValid b = true →
                (t.settings, t.store.current) =
                  (if a.generation = (b.generation + 1) % 65536 then (a.image, some .bank0)
                    else if b.generation = (a.generation + 1) % 65536 then (b.image, some .bank1)
                    else if a.generation < b.generation then (b.image, some .bank1) else (a.image, some .bank0)))
            ∧ (bankValid a = true → bankValid b = false → t.settings = a.image ∧ t.store.current = some .bank0)
            ∧ (bankValid a = false → bankValid b = true → t.settings = b.image ∧ t.store.current = some .bank1)
            ∧ (bankValid a = false → bankValid b = false → t.settings = Settings.defaults ∧ t.store.current = none)
            ∧ t.store.verdict = (if bankValid a = true ∨ bankValid b = true then .loaded else .defaulted)
            ∧ t.store.saving = none ∧ t.store.resetKind = kind)
      ∧ t.filter.store =
          (if c ≠ .powerUp ∧ s.filter.rewriting = true then storeImage s.filter.records else s.filter.store)
      ∧ t.filter.verdict = (if storeGood t.filter.store then .retained else .lost)
      ∧ (storeGood t.filter.store = true → t.filter.records = storeRecords t.filter.store)
      ∧ (storeGood t.filter.store = false → ∀ x, t.filter.records.get x =
          { volume := 0, carry := 0, minutes := 0, baseline := none, dpAvg := 0, service := .unknown, blocked := false,
            changes := 0 })
      ∧ t.filter.rewriting = decide (t.filter.verdict = .lost)
      ∧ (let defaulted := t.store.verdict = .defaulted
          let lost := t.filter.verdict = .lost
          let placed (k : EventKind) (severe : Bool) : List Notice :=
            if kindEnabled t.settings k then
              [{ kind := some k, source := .none, severe := severe, level := kindLevel t.settings k, count := 1,
                 first := 0, last := 0 }]
            else [];
          t.events.flags =
              (if defaulted then kindBit .settingsDefaulted else 0) ||| (if lost then kindBit .retainedLost else 0)
            ∧ t.events.severe = decide defaulted ∧ t.lines.alarm = decide defaulted
            ∧ t.events.queue =
                (if defaulted then placed .settingsDefaulted true else [])
                  ++ (if lost then placed .retainedLost false else [])
            ∧ t.events.ntf = t.events.queue.any (fun n => decide (t.settings.threshold < n.level))
            ∧ t.link.queueNotEmpty = !t.events.queue.isEmpty ∧ t.events.seconds = 0)

/-- R102, R197: CORE SUPPLY LOSS stops the part; it cuts a rewrite where it stands when VBK holds the store, loses the
store when it does not, and ends a save without completing it, its bank not valid once a byte of it had changed (the
bytes a lost store and a cut bank hold are the model's: log 13, 27). From then on every command but POWER UP finds a part
that has stopped (log 15). -/
def Obligations.SupplyLossStopsThePart : Prop :=
  (∀ (vbkHolds : Bool) (written : Nat) (touched : Bool) (s : State), s.powered = true → written ≤ rewriteCutLimit →
    ∃ t, exec (.coreSupplyLoss vbkHolds written touched) s = .next t
      ∧ t = { s with powered := false, store := t.store
                     filter := { s.filter with store := t.filter.store, rewriting := false } }
      ∧ t.store.saving = none ∧ t.store.current = s.store.current ∧ t.store.verdict = s.store.verdict
      ∧ t.store.resetKind = s.store.resetKind
      ∧ (s.store.saving = none ∨ touched = false → t.store.bank0 = s.store.bank0 ∧ t.store.bank1 = s.store.bank1)
      ∧ (s.store.saving.isSome = true → touched = true →
          (s.store.current = some .bank0 → t.store.bank0 = s.store.bank0 ∧ bankValid t.store.bank1 = false)
            ∧ (s.store.current ≠ some .bank0 → bankValid t.store.bank0 = false ∧ t.store.bank1 = s.store.bank1))
      ∧ (vbkHolds = false → t.filter.store.length = 50 ∧ storeGood t.filter.store = false)
      ∧ (vbkHolds = true → s.filter.rewriting = false → t.filter.store = s.filter.store)
      ∧ (vbkHolds = true → s.filter.rewriting = true →
          t.filter.store = (storeImage s.filter.records).take written ++ s.filter.store.drop written))
    ∧ ∀ (c : Instr) (s : State), s.powered = false → c ≠ .powerUp → exec c s = .next s

/-! ### Measurement -/

/-- R3, R4, R5: the conversions. -/
def Obligations.ConversionsFollowTheTables : Prop :=
  (∀ c : Nat, convertPressure c =
      if c < 205 then .bad .under else if 3890 < c then .bad .over
      else if c < 410 then .good 0 else if c ≤ 3686 then .good (((c - 410) * 500 / 3276 : Nat) : Int) else .good 500)
    ∧ (∀ c : Nat, c ≤ 40 → convertTemperature c = .bad .short)
    ∧ (∀ c : Nat, 4056 ≤ c → convertTemperature c = .bad .open_)
    ∧ (∀ c : Nat, 41 ≤ c → c < 1000 → convertTemperature c = .good 800)
    ∧ (∀ c : Nat, 3900 ≤ c → c < 4056 → convertTemperature c = .good (-400))
    ∧ (∀ (g : Segment) (c : Nat), g ∈ segments → g.cb ≤ c → c < g.ca →
        convertTemperature c = .good (g.ta + ((g.ca : Int) - c) * (g.tb - g.ta) / ((g.ca : Int) - g.cb)))
    ∧ (∀ g ∈ segments, convertTemperature g.ca = .good g.ta ∧ convertTemperature g.cb = .good g.tb)
    ∧ (∀ (c : Nat) (v : Int), convertTemperature c = .good v → -400 ≤ v ∧ v ≤ 800)
    ∧ (∀ (c : Nat) (v : Int), convertPressure c = .good v → 0 ≤ v ∧ v ≤ 500)

/-- R1, R2, R6: a sample event adds one sample to each channel's account, spoiled while its injection count lasts, counts
as one of the second's four, and changes nothing else. A second that its fourth sample event has closed is judged before
a sample of the next is added (log 28). -/
def Obligations.SampleEventFillsAccounts : Prop :=
  ∀ (codes : PerChannel Code) (s : State), s.powered = true →
    (s.measurement.samples < 4 →
      ∃ t, exec (.sampleEvent codes) s = .next t
        ∧ t = { s with measurement :=
                  { s.measurement with channels := t.measurement.channels, samples := s.measurement.samples + 1 } }
        ∧ ∀ ch, let r := s.measurement.channels.get ch
          t.measurement.channels.get ch =
            if 0 < r.injection then
              { r with bad := r.bad + 1, lastFault := .injected, injection := r.injection - 1 }
            else
              match convert ch (codes.get ch).toNat with
              | .good v => { r with sum := r.sum + v }
              | .bad cause => { r with bad := r.bad + 1, lastFault := cause })
      ∧ (4 ≤ s.measurement.samples →
          ∃ u, exec .secondEnd s = .next u ∧ u.measurement.samples = 0
            ∧ exec (.sampleEvent codes) s = exec (.sampleEvent codes) u)

/-- R1, R6 to R10, R12 to R14, R16 to R18, R47, R89, R92, R93, R118: the second end of a closed second judges each channel's
second, reports each channel that fails, and each that is FAILED while the flag is clear, computes the effectiveness
under its conditions on the heater-quiet count it finds, counts the quiet second by the heater output it finds (log 48),
ends STARTUP, and leaves the last fault and the injection count to be shown (log 49); out of STARTUP the frost guard and a
capture act on what has become absent or present (in PREHEAT the counts are set to 0 at the report that T_EXH is present:
log 25). Before the fourth sample event there is no second end (log 28). -/
def Obligations.SecondEndJudgesChannels : Prop :=
  (∀ s : State, s.measurement.samples < 4 → exec .secondEnd s = .next s)
    ∧ ∀ s : State, s.powered = true → 4 ≤ s.measurement.samples →
    ∃ t, exec .secondEnd s = .next t ∧ OuterKept s t ∧ ReportsOnly s t ∧ t.measurement.samples = 0
      ∧ (∀ ch, let r := s.measurement.channels.get ch
          let r' := t.measurement.channels.get ch
          r'.sum = 0 ∧ r'.bad = 0 ∧ r'.injection = r.injection ∧ r'.lastFault = r.lastFault
            ∧ r'.shownFault = r.lastFault ∧ r'.shownInjection = r.injection
            ∧ (r.bad = 0 → r.state ≠ .failed →
                r'.state = .valid ∧ r'.value = some (r.sum / 4) ∧ r'.last = some (r.sum / 4) ∧ r'.badSeconds = 0
                  ∧ r'.first = r.first ∧ r'.recovery = r.recovery)
            ∧ (r.bad = 0 → r.state = .failed → r.first = false ∨ 10 ≤ r.recovery + 1 →
                r'.state = .valid ∧ r'.value = some (r.sum / 4) ∧ r'.last = some (r.sum / 4) ∧ r'.first = true
                  ∧ r'.badSeconds = 0 ∧ r'.recovery = 0)
            ∧ (r.bad = 0 → r.state = .failed → r.first = true → r.recovery + 1 < 10 →
                r'.state = .failed ∧ r'.value = r.value ∧ r'.last = r.last ∧ r'.recovery = r.recovery + 1
                  ∧ r'.badSeconds = r.badSeconds ∧ r'.first = true)
            ∧ (0 < r.bad → r.state = .valid →
                r'.state = .suspect ∧ r'.value = r.value ∧ r'.last = r.last ∧ r'.badSeconds = 1)
            ∧ (0 < r.bad → r.state = .suspect → r.badSeconds + 1 < 5 →
                r'.state = .suspect ∧ r'.value = r.value ∧ r'.last = r.last ∧ r'.badSeconds = r.badSeconds + 1)
            ∧ (0 < r.bad → r.state = .suspect → 5 ≤ r.badSeconds + 1 →
                r'.state = .failed ∧ r'.value = none ∧ r'.last = r.last ∧ r'.recovery = 0
                  ∧ flagRaised t .sensorFailed = true)
            ∧ (0 < r.bad → r.state = .failed →
                r'.state = .failed ∧ r'.value = r.value ∧ r'.last = r.last ∧ r'.recovery = 0))
      ∧ (flagRaised t .sensorFailed = true ↔
          flagRaised s .sensorFailed = true ∨ ∃ ch, (t.measurement.channels.get ch).state = .failed)
      ∧ (∀ tOut tSup tExt, channelValue t .tOut = some tOut → channelValue t .tSup = some tSup →
          channelValue t .tExt = some tExt → s.measurement.quiet = 120 → s.loops.supply.state = .locked →
          s.loops.extract.state = .locked → 50 ≤ tExt - tOut →
            t.measurement.fresh = true
              ∧ t.measurement.effectiveness = some (clampInt (1000 * (tSup - tOut) / (tExt - tOut)) 0 1000).toNat)
      ∧ (s.measurement.quiet ≠ 120 ∨ s.loops.supply.state ≠ .locked ∨ s.loops.extract.state ≠ .locked
            ∨ channelValue t .tOut = none ∨ channelValue t .tSup = none ∨ channelValue t .tExt = none
            ∨ (∃ tOut tExt, channelValue t .tOut = some tOut ∧ channelValue t .tExt = some tExt ∧ tExt - tOut < 50) →
          t.measurement.fresh = false ∧ t.measurement.effectiveness = s.measurement.effectiveness)
      ∧ (s.frost.runSeen = s.demand.runState →
          t.measurement.quiet =
            (if 0 < s.frost.heaterOutput ∨ 0 < t.frost.heaterOutput then 0 else min 120 (s.measurement.quiet + 1)))
      ∧ t.demand.runState =
          (if s.demand.runState = .startup then
            (if Line.all.any (fun l => s.demand.smokeActive.get l) then .smokeStop
              else if s.demand.level = .off then .rest else .run)
          else s.demand.runState)
      ∧ (s.demand.runState ≠ .startup →
          let lost (ch : Channel) : Prop := (channelValue s ch).isSome = true ∧ channelValue t ch = none
          let back (ch : Channel) : Prop := channelValue s ch = none ∧ (channelValue t ch).isSome = true
          let fails (x : Stream) : Bool :=
            (s.measurement.channels.get (pressureChannel x)).state != .failed
              && (t.measurement.channels.get (pressureChannel x)).state == .failed
          let blinds :=
            (lost .tOut ∨ lost .tExh) ∧ channelValue t .tOut = none ∧ channelValue t .tExh = none
              ∧ s.frost.mode ≠ .frostStop ∧ s.frost.mode ≠ .blind
          let sees := s.frost.mode = .blind ∧ (back .tOut ∨ back .tExh)
          let uncovers := ¬blinds ∧ s.frost.mode = .defrost ∧ lost .tExh
          let resumes := s.frost.mode = .preheat ∧ back .tExh
          let aborts :=
            s.filter.rewriting = false ∧ s.filter.capture.state ≠ .none
              ∧ ∃ x, fails x = true ∧ s.filter.capture.named.get x = true;
          t.loops = s.loops
            ∧ (blinds →
                t.frost.mode = .blind ∧ t.frost.requested = s.settings.hMax / 2 ∧ t.frost.r = 0 ∧ t.governor.r = 0
                  ∧ t.frost.cold = 0 ∧ t.frost.warm = 0 ∧ t.frost.defrostTimer = 0
                  ∧ flagRaised t .frostBlind = true ∧ flagRaised t .frostState = true)
            ∧ (sees → t.frost.mode = .watch ∧ t.frost.requested = 0 ∧ flagRaised t .frostState = true)
            ∧ (uncovers →
                t.frost.mode = .preheat ∧ t.frost.requested = s.frost.requested ∧ t.frost.r = 0 ∧ t.governor.r = 0
                  ∧ t.frost.cold = 0 ∧ t.frost.warm = 0 ∧ t.frost.defrostTimer = 0
                  ∧ flagRaised t .frostState = true)
            ∧ (resumes →
                t.frost.mode = .preheat ∧ t.frost.requested = s.frost.requested ∧ t.frost.cold = 0 ∧ t.frost.warm = 0)
            ∧ (¬blinds → ¬sees → ¬uncovers → ¬resumes →
                t.frost = { s.frost with dHanded := t.frost.dHanded, r := t.frost.r })
            ∧ (aborts →
                t.filter = { s.filter with capture := Capture.empty }
                  ∧ t.demand = { s.demand with captureInForce := false, d := demandOf t }
                  ∧ flagRaised t .captureAborted = true)
            ∧ (¬aborts → t.demand = s.demand ∧ t.filter = { s.filter with held := t.filter.held })
            ∧ t.filter.held =
                (if s.filter.rewriting then
                  s.filter.held ++ (if fails .supply then [.channelFailed .supply] else [])
                    ++ (if fails .extract then [.channelFailed .extract] else [])
                else s.filter.held)
            ∧ ((channelValue s .tOut).isSome = (channelValue t .tOut).isSome →
                (channelValue s .tExh).isSome = (channelValue t .tExh).isSome →
                fails .supply = false → fails .extract = false →
                  let failed (u : State) (ch : Channel) : Bool := (u.measurement.channels.get ch).state == .failed
                  let reported :=
                    Channel.all.filter (fun ch => failed t ch && (!failed s ch || !flagRaised s .sensorFailed))
                  t = { reportAll (reported.map (fun ch => (.sensorFailed, .channel ch))) s with
                        measurement := t.measurement }))

/-- R15, R136, R190: INJECT sets a channel's or an occupied slot's injection count and nothing else; a count outside
1..15 or an unknown target is refused RANGE, an EMPTY slot STATE. -/
def Obligations.InjectSetsTheCount : Prop :=
  (∀ (channel count : Byte) (s : State), s.powered = true → s.link.closed = false →
    exec (.injectChannel channel count) s = .next (
      match channelOfCode channel.toNat with
      | none => replied (refusal .range) s
      | some ch =>
        if count.toNat = 0 ∨ 15 < count.toNat then replied (refusal .range) s
        else
          replied (doneWith [])
            (setChannel ch { s.measurement.channels.get ch with injection := count.toNat } s)))
    ∧ ∀ (slot count : Byte) (s : State), s.powered = true → s.link.closed = false →
      exec (.injectSlot slot count) s = .next (
        match slotOfNumber slot.toNat with
        | none => replied (refusal .range) s
        | some k =>
          if count.toNat = 0 ∨ 15 < count.toNat then replied (refusal .range) s
          else if (s.bus.slots.get k).state = .empty then replied (refusal .state) s
          else replied (doneWith []) (setSlot k { s.bus.slots.get k with injection := count.toNat } s))

/-! ### Fan loops -/

/-- R21: an edge closer than 200 µs to the previous accepted edge is discarded; any other is counted, timed from the
window's first and remembered. -/
def Obligations.TachEdgeCounts : Prop :=
  ∀ (fan : Stream) (time : Nat) (s : State), s.powered = true →
    let l := s.loops.get fan
    ((∃ p, l.lastEdge = some p ∧ time < p + 200) → exec (.tachEdge fan time) s = .next s)
      ∧ ((l.lastEdge = none ∨ ∃ p, l.lastEdge = some p ∧ p + 200 ≤ time) →
          exec (.tachEdge fan time) s = .next
            (setLoop fan
              { l with
                edges := l.edges + 1
                firstEdge := if l.edges = 0 then time else l.firstEdge
                span := if l.edges = 0 then 0 else time - l.firstEdge
                lastEdge := some time } s))

/-- R20, R22, R23, R24, R27, R28: what a window end measures and computes, in every loop state; the other loop's
measurements stay. A target the governor then sets to 0 takes the loop's targets with it (R23), but not the S_t that is
shown as the window end's (R41, log 42). R104, R106, R108, R115,
R116, R119, R120: what the filter monitor does with it: the accrual, the pressure sample, the capture's passage to RUN, its
sums and its lock-out timers, or the abort when a fan's failure ends RUN; during a rewrite all of it is held (R100), with
the figures of the window end (log 50). The state handed to it is the one the window end left, before the governor's step
(log 18). -/
def Obligations.WindowEndMeasures : Prop :=
  ∀ (x : Stream) (s : State), s.powered = true →
    ∃ t, exec (.windowEnd x) s = .next t ∧ OuterKept s t ∧ ReportsOnly s t
      ∧ (let l := s.loops.get x
          let l' := t.loops.get x
          let c := s.settings.loops.get x
          let dp := loopPressure s x
          let target := if l.state = .starting then l.taken else l.offered
          let speedTarget := if target = 0 then 0 else min c.smax ((target + dp * c.kp / 64) * 1024 / c.kn)
          l'.n = l.edges ∧ l'.d = l.span ∧ l'.edges = 0 ∧ l'.span = 0 ∧ l'.lastEdge = l.lastEdge
            ∧ l'.speed = (if l.edges < 2 then 0 else min 6000 (60000000 * (l.edges - 1) / (c.pulses * l.span)))
            ∧ l'.flow =
                (if l'.speed = 0 then 0
                  else
                    (clampInt (((l'.speed * c.kn / 1024 : Nat) : Int) - ((dp * c.kp / 64 : Nat) : Int)) 0 2500).toNat)
            ∧ l'.band =
                (match s.settings.lockBand with
                  | .narrow => max 30 (speedTarget * 2 / 100)
                  | .normal => max 30 (speedTarget * 4 / 100)
                  | .wide => max 30 (speedTarget * 8 / 100)
                  | .off => 0)
            ∧ l'.ended = l.window ∧ l'.window = c.window
            ∧ l'.shownTarget = speedTarget
            ∧ ((l'.taken = target ∧ l'.speedTarget = speedTarget)
                ∨ (l'.taken = 0 ∧ l'.speedTarget = 0 ∧ l'.offered = 0)))
      ∧ (∀ y, y ≠ x →
          (t.loops.get y).speed = (s.loops.get y).speed ∧ (t.loops.get y).n = (s.loops.get y).n
            ∧ (t.loops.get y).d = (s.loops.get y).d ∧ (t.loops.get y).flow = (s.loops.get y).flow
            ∧ (t.loops.get y).edges = (s.loops.get y).edges ∧ (t.loops.get y).span = (s.loops.get y).span
            ∧ (t.loops.get y).window = (s.loops.get y).window ∧ (t.loops.get y).ended = (s.loops.get y).ended
            ∧ (t.loops.get y).shownTarget = (s.loops.get y).shownTarget
            ∧ (t.loops.get y).stallCount = (s.loops.get y).stallCount)
      ∧ (let f := s.filter
          let f' := t.filter
          let c := f.capture
          let c' := f'.capture
          let l' := t.loops.get x
          let handed := (windowLoop s.settings (s.settings.loops.get x) (loopPressure s x) (s.loops.get x)).state
          let length := (s.loops.get x).window
          let air := l'.flow * length
          let pressure := channelValue s (pressureChannel x)
          let measurable := handed = .locked ∧ s.settings.fRef / 2 ≤ l'.flow
          let sample (dp : Int) := min 1000 (dp.toNat * s.settings.fRef * s.settings.fRef / (l'.flow * l'.flow))
          let timed (before after : LoopState) (q : Option Nat) : Option Nat :=
            if before = .locked ∧ after ≠ .locked then some 0
            else if before ≠ .locked ∧ after = .locked then none else q
          let windows := c.windows + if x = .supply then 1 else 0
          let onTarget :=
            2 ≤ windows ∧ ∀ y, (t.loops.get y).state = .locked ∧ (t.loops.get y).taken = (t.loops.get y).offered
          let working (y : Stream) : Bool :=
            (t.loops.get y).state == .locked && (t.loops.get y).taken == (t.loops.get y).offered
          let figures : WindowFigures :=
            { state := handed, flow := l'.flow, ended := length, pressure := pressure, fRef := s.settings.fRef
              onTarget := working .supply && working .extract };
          (f.rewriting = true →
              ∃ es, f' = { f with held := f.held ++ es ++ [.windowEnd x figures] }
                ∧ ∀ e ∈ es, e = .leftRun ∨ ∃ y before after, e = .loopChange y before after)
            ∧ (f.rewriting = false →
                f' = { f with records := f'.records, pending := f'.pending, latest := f'.latest, sampled := f'.sampled,
                              capture := c' }
                  ∧ (∀ y, y ≠ x →
                      f'.records.get y = f.records.get y ∧ f'.pending.get y = f.pending.get y
                        ∧ f'.latest.get y = f.latest.get y ∧ f'.sampled.get y = f.sampled.get y)
                  ∧ (let r := f.records.get x
                      let p := f.pending.get x;
                      (f.gateOpen = true →
                          f'.pending.get x = p
                            ∧ f'.records.get x =
                                { r with volume := min 1000000 (r.volume + (r.carry + air) / 10000000)
                                         carry := (r.carry + air) % 10000000 })
                        ∧ (f.gateOpen = false →
                            f'.records.get x = r
                              ∧ f'.pending.get x =
                                  { p with volume := min 1000000 (p.volume + (p.carry + air) / 10000000)
                                           carry := (p.carry + air) % 10000000 }))
                  ∧ (∀ dp, measurable → pressure = some dp →
                      f'.latest.get x = some (sample dp) ∧ f'.sampled.get x = true)
                  ∧ (¬measurable ∨ pressure = none →
                      f'.latest.get x = f.latest.get x ∧ f'.sampled.get x = f.sampled.get x)
                  ∧ (c.state = .none → c' = c)
                  ∧ (c.state ≠ .none → s.demand.runState = .run → t.demand.runState ≠ .run →
                      c' = Capture.empty ∧ t.demand.captureInForce = false ∧ flagRaised t .captureAborted = true)
                  ∧ (s.demand.runState = t.demand.runState → c.state = .wait → onTarget →
                      c' = { c with state := .run, windows := windows, timer := 0, lockOut := ⟨none, none⟩ }
                        ∧ t.demand.captureInForce = true)
                  ∧ (s.demand.runState = t.demand.runState → c.state = .wait → ¬onTarget →
                      c' = { c with windows := windows })
                  ∧ (s.demand.runState = t.demand.runState → c.state = .run →
                      c' = { c with sum := c'.sum, count := c'.count, lockOut := c'.lockOut }
                        ∧ c'.lockOut.get x =
                            timed handed l'.state (timed (s.loops.get x).state handed (c.lockOut.get x))
                        ∧ (∀ y, y ≠ x →
                            c'.lockOut.get y = timed (s.loops.get y).state (t.loops.get y).state (c.lockOut.get y)
                              ∧ c'.sum.get y = c.sum.get y ∧ c'.count.get y = c.count.get y)
                        ∧ (∀ dp, measurable → pressure = some dp → c.named.get x = true →
                            c'.sum.get x = c.sum.get x + sample dp ∧ c'.count.get x = c.count.get x + 1)
                        ∧ (¬measurable ∨ pressure = none ∨ c.named.get x = false →
                            c'.sum.get x = c.sum.get x ∧ c'.count.get x = c.count.get x))))

/-- R25, R26, R30 to R38, R40, R42, R43: the state in which a window end leaves a loop, from each state it can begin in,
with its drive, its AT CEILING mark, its counts and times, its lock-loss latch and its occurrences; the governor's step
after the supply loop's window end may then take the loop to STOPPED by a target of 0 (`cut`). The other loop is changed
by the target it is offered at most. -/
def Obligations.ExtractLoopChangesState : Prop :=
  ∀ (x : Stream) (s : State), s.powered = true →
    ∃ t, exec (.windowEnd x) s = .next t
      ∧ (let l := s.loops.get x
          let l' := t.loops.get x
          let c := s.settings.loops.get x
          let dp := loopPressure s x
          let left := (windowLoop s.settings c dp l).state
          let target := if l.state = .starting then l.taken else l.offered
          let speedTarget := if target = 0 then 0 else min c.smax ((target + dp * c.kp / 64) * 1024 / c.kn)
          let error := (speedTarget : Int) - l'.speed
          let drive := (clampInt ((l.drive : Int) + (error * c.gain).tdiv 256) c.dmin 1000).toNat
          let noEdge := if l.edges < 2 ∧ 0 < speedTarget ∧ c.dmin ≤ drive then l.noEdge + 1 else 0
          let inBand := s.settings.lockBand ≠ .off ∧ error.natAbs ≤ l'.band
          let stalls := if 3 ≤ l.stallCount + 1 then LoopState.failed else .stalled
          let cut := x = .supply ∧ t.demand.runState = .run ∧ t.governor.tS = 0 ∧ left ≠ .failed
          let cleared := cut ∧ left ≠ .stopped
          let counted := if inBand then l.inBand + 1 else 0
          (l.state = .stopped → left = if 0 < target then .starting else .stopped)
            ∧ (l.state = .starting → left =
                if l.startTime + l.window < 2000 then .starting
                else if 0 < l'.speed then .settling else stalls)
            ∧ (l.state = .settling → left =
                if 3 ≤ noEdge then stalls
                else if inBand ∧ 3 ≤ l.inBand + 1 then .locked
                else if 20 ≤ l.settling + 1 then .unlocked else .settling)
            ∧ (l.state = .locked → s.settings.lockBand ≠ .off → left =
                if 3 ≤ noEdge then stalls
                else if l'.band < ((speedTarget : Int) - l.speedTarget).natAbs then .settling
                else if ¬inBand ∧ 2 ≤ l.outBand + 1 then .unlocked else .locked)
            ∧ (l.state = .locked → s.settings.lockBand = .off → left =
                if 3 ≤ noEdge then stalls else if 2 ≤ l.outBand + 1 then .unlocked else .locked)
            ∧ (l.state = .unlocked → left =
                if 3 ≤ noEdge then stalls else if inBand ∧ 3 ≤ l.inBand + 1 then .locked else .unlocked)
            ∧ (l.state = .stalled → left =
                if l.pauseTime + l.window < 10000 then .stalled else if 0 < target then .starting else .stopped)
            ∧ (l.state = .failed → left = .failed)
            ∧ l'.state = (if cut then .stopped else left)
            ∧ l'.drive =
                (if cleared then 0
                else if running l.state = true ∧ running left = true then drive
                else if left = l.state then l.drive
                else
                  match left with
                  | .starting => c.startDrive
                  | .stalled | .failed => 0
                  | .stopped | .settling | .locked | .unlocked => l.drive)
            ∧ (l'.atCeiling = true ↔
                running l.state = true ∧ left ≠ .stalled ∧ left ≠ .failed ∧ drive = 1000 ∧ 0 < error)
            ∧ l'.stallCount =
                (if left = l.state then l.stallCount
                else
                  match left with
                  | .failed => 3
                  | .stalled => l.stallCount + 1
                  | .locked => 0
                  | .stopped | .starting | .settling | .unlocked => l.stallCount)
            ∧ l'.noEdge =
                (if cleared then 0
                else if running left = true then (if running l.state = true then noEdge else 0)
                else if left = l.state then l.noEdge
                else 0)
            ∧ l'.startTime =
                (if cleared ∨ (left = .starting ∧ l.state ≠ .starting) then 0
                else if l.state = .starting then min 2000 (l.startTime + l.window)
                else l.startTime)
            ∧ l'.pauseTime =
                (if cleared ∨ (left = .stalled ∧ l.state ≠ .stalled) then 0
                else if l.state = .stalled then min 10000 (l.pauseTime + l.window)
                else l.pauseTime)
            ∧ (l'.inBand, l'.outBand, l'.settling) =
                (if cleared then (0, 0, 0)
                else
                  match l.state, left with
                  | .stopped, .starting | .stalled, .starting => (0, 0, 0)
                  | .starting, .settling => (0, l.outBand, 0)
                  | .settling, .settling => (counted, l.outBand, l.settling + 1)
                  | .settling, .locked => (counted, 0, l.settling + 1)
                  | .settling, .unlocked => (0, l.outBand, l.settling + 1)
                  | .locked, .settling => (0, l.outBand, 0)
                  | .locked, .locked => (l.inBand, if inBand then 0 else l.outBand + 1, l.settling)
                  | .locked, .unlocked => (0, if inBand then 0 else l.outBand + 1, l.settling)
                  | .unlocked, .unlocked => (counted, l.outBand, l.settling)
                  | .unlocked, .locked => (counted, 0, l.settling)
                  | _, _ => (l.inBand, l.outBand, l.settling))
            ∧ (l'.latch = true ↔
                l.latch = true ∨ left = .unlocked ∨ left = .stalled ∨ left = .failed
                  ∨ (s.settings.lockBand = .off ∧ left ≠ .stopped))
            ∧ (left = .unlocked → l.state = .settling ∨ l.state = .locked → flagRaised t .fanLockLost = true)
            ∧ (left = .stalled → l.state ≠ .stalled → flagRaised t .fanStall = true)
            ∧ l'.failReport = (if left = .failed then true else l.failReport)
            ∧ (left = .failed → l.state ≠ .failed → flagRaised t .fanFail = true)
            ∧ (l.state = .failed →
                (l.failReport = false → flagRaised t .fanFail = true)
                  ∧ (l.failReport = true → flagRaised t .fanFail = flagRaised s .fanFail)))
      ∧ (∀ y, y ≠ x →
          let m := s.loops.get y
          let steps := x = .supply ∧ t.demand.runState = .run
          let zeroed := t.demand.runState ≠ s.demand.runState ∨ (steps ∧ t.governor.tE = 0);
          t.loops.get y =
            (if zeroed then
              (if m.state = .stopped ∨ m.state = .failed then { m with offered := 0, taken := 0, speedTarget := 0 }
              else
                { m with state := .stopped, drive := 0, inBand := 0, outBand := 0, settling := 0, noEdge := 0,
                         startTime := 0, pauseTime := 0, offered := 0, taken := 0, speedTarget := 0 })
            else if steps then { m with offered := t.governor.tE }
            else m))

/-- R36, R37, R42, R46, R52, R67: a third stall, here of a fan that does not start, fails the loop and stops the unit. -/
def Obligations.ThirdStallStopsTheUnit : Prop :=
  ∀ (x : Stream) (s : State), s.powered = true → s.demand.runState = .run → (s.loops.get x).state = .starting →
    (s.loops.get x).stallCount = 2 → 2000 ≤ (s.loops.get x).startTime + (s.loops.get x).window →
    (s.loops.get x).edges < 2 →
      ∃ t, exec (.windowEnd x) s = .next t
        ∧ (t.loops.get x).state = .failed ∧ (t.loops.get x).drive = 0 ∧ (t.loops.get x).stallCount = 3
        ∧ (t.loops.get x).latch = true ∧ (t.loops.get x).failReport = true
        ∧ flagRaised t .fanFail = true
        ∧ t.demand.runState = .faultStop ∧ t.demand.hold = none
        ∧ t.governor.tS = 0 ∧ t.governor.tE = 0
        ∧ (∀ y, y ≠ x → (s.loops.get y).state ≠ .failed → (t.loops.get y).state = .stopped ∨ (s.loops.get y).state = .stopped)
        ∧ t.frost.heaterOutput = 0 ∧ t.frost.requested = 0

/-- R65, R66, R67: the targets of a step of the governor. -/
def Obligations.GovernorFormsTargets : Prop :=
  ∀ s : State, s.powered = true →
    ∃ t, exec (.windowEnd .supply) s = .next t
      ∧ (s.demand.runState ≠ .run → s.governor.tS = 0 → s.governor.tE = 0 → t.governor.tS = 0 ∧ t.governor.tE = 0)
      ∧ (s.demand.runState = .run → t.demand.runState = .run →
          let set := s.settings
          let rawS := clampInt ((s.demand.d : Int) + set.offset - s.governor.r) 0 2500
          let rawE := clampInt (s.demand.d : Int) 0 2500
          let limS :=
            if s.loops.extract.atCeiling then
              max 0 (min rawS ((s.loops.extract.flow : Int) + set.offset + set.balanceBand))
            else rawS
          let limE :=
            if t.loops.supply.atCeiling then
              max 0 (min rawE ((t.loops.supply.flow : Int) - set.offset + set.balanceBand))
            else rawE
          let none' := (limS = 0 ∧ 0 < limE) ∨ (limE = 0 ∧ 0 < limS)
          (t.governor.tS : Int) = (if none' then 0 else limS)
            ∧ (t.governor.tE : Int) = (if none' then 0 else limE)
            ∧ t.loops.supply.offered = t.governor.tS ∧ t.loops.extract.offered = t.governor.tE)

/-- R68, R69, R70: the allowance at a step of the governor. A charging step that brings it from above 0 to 0 reports
ALLOWANCE EXHAUSTED and leaves its signal pending at the frost guard (log 29); any other step reports and signals nothing.
The allowance and its carry stay in their ranges. -/
def Obligations.GovernorJudgesAllowance : Prop :=
  ∀ s : State, s.powered = true →
    ∃ t, exec (.windowEnd .supply) s = .next t
      ∧ (let imbalance := (t.loops.supply.flow : Int) - s.loops.extract.flow - s.settings.offset
          let excess := imbalance.natAbs - s.settings.balanceBand
          let charge := excess * s.loops.supply.window + s.governor.carry
          let charging := (0 < t.governor.tS ∨ 0 < t.governor.tE) ∧ 0 < excess
          let exhausts := charging ∧ 0 < s.governor.allowance ∧ t.governor.allowance = 0;
          (if charging then
            t.governor.allowance = s.governor.allowance - charge / 1000 ∧ t.governor.carry = charge % 1000
          else
            t.governor.allowance =
                min s.settings.aMax
                  (s.governor.allowance + s.settings.recovery * s.loops.supply.window / 1000)
              ∧ t.governor.carry = s.governor.carry)
            ∧ (exhausts → flagRaised t .allowanceExhausted = true ∧ t.frost.exhaustion = true)
            ∧ (¬exhausts →
                flagRaised t .allowanceExhausted = flagRaised s .allowanceExhausted
                  ∧ t.frost.exhaustion = s.frost.exhaustion
                  ∧ ∀ n ∈ t.events.queue, n.kind = some .allowanceExhausted → n ∈ s.events.queue)
            ∧ (AllowanceBounded s → AllowanceBounded t))

/-- R40, R41, R190: FAN READ answers the named loop's figures, S_t being that of the latest window end (log 42), and clears
its lock-loss latch. -/
def Obligations.FanReadAnswers : Prop :=
  ∀ (fan : Byte) (s : State), s.powered = true → s.link.closed = false →
    exec (.fanRead fan) s = .next (
      match streamOfCode fan.toNat with
      | none => replied (refusal .range) s
      | some x =>
        let l := s.loops.get x
        replied
          (doneWith
            (u8 (loopStateCode l.state) ++ u16 l.drive ++ u16 l.speed ++ u16 l.n ++ u16 l.offered ++ u16 l.taken
              ++ u16 l.shownTarget ++ u16 l.band ++ u16 l.flow ++ mark l.atCeiling ++ mark l.latch
              ++ u8 l.stallCount ++ u16 l.ended))
          (setLoop x { l with latch := false } s))

/-! ### Demand and run state -/

/-- R48, R54, R46, R67: LEVEL SET. -/
def Obligations.LevelSetSelects : Prop :=
  ∀ (level : Byte) (s : State), s.powered = true → s.link.closed = false →
    (levelOfCode level.toNat = none → exec (.levelSet level) s = .next (replied (refusal .range) s))
      ∧ (levelOfCode level.toNat = some s.demand.level → exec (.levelSet level) s = .next (replied (doneWith []) s))
      ∧ ∀ l, levelOfCode level.toNat = some l → l ≠ s.demand.level →
          ∃ t, exec (.levelSet level) s = .next t
            ∧ t.link.answer = some (doneWith [])
            ∧ t.demand.level = l ∧ t.humidity.levelFlow = levelFlow s.settings l ∧ t.demand.d = demandOf t
            ∧ t.demand.runState =
                (if s.demand.runState = .run ∧ l = .off then .rest
                  else if s.demand.runState = .rest ∧ l ≠ .off then .run else s.demand.runState)
            ∧ (s.demand.runState = .run → l = .off →
                t.governor.tS = 0 ∧ t.governor.tE = 0 ∧ t.demand.hold = none ∧ t.frost.heaterOutput = 0)
            ∧ (s.demand.runState ≠ .run → t.demand.hold = s.demand.hold)
            ∧ t.powered = s.powered ∧ t.settings = s.settings ∧ t.store = s.store ∧ t.bus = s.bus
            ∧ t.pending = s.pending ∧ t.demand.boost = s.demand.boost ∧ t.demand.pullTimer = s.demand.pullTimer
            ∧ t.demand.smokeSource = s.demand.smokeSource

/-- R55, R59, R60, R86: BOOST sets or cancels the host boost record; D follows by its rule, and a new D reaches the
frost guard, which in DEFROST has R follow it. -/
def Obligations.BoostSetsTheRecord : Prop :=
  ∀ (flow : Half) (minutes : Byte) (s : State), s.powered = true → s.link.closed = false →
    (2500 < flow.toNat ∨ 120 < minutes.toNat →
      exec (.boost flow minutes) s = .next (replied (refusal .range) s))
      ∧ (flow.toNat ≤ 2500 → minutes.toNat ≤ 120 →
          ∃ t, exec (.boost flow minutes) s = .next t
            ∧ t = { s with demand := { s.demand with boost := t.demand.boost, d := t.demand.d }
                           frost := { s.frost with dHanded := t.frost.dHanded, r := t.frost.r }
                           governor := { s.governor with r := t.governor.r }
                           link := { s.link with answer := some (doneWith []) } }
            ∧ t.demand.boost =
                (if minutes.toNat = 0 then none
                  else some { flow := flow.toNat, seconds := minutes.toNat * 60 })
            ∧ t.demand.d =
                clampNat
                  (if s.demand.captureInForce then s.settings.fRef
                    else
                      match s.demand.hold with
                      | some f => f
                      | none =>
                        max (max (levelFlow s.settings s.demand.level) (if minutes.toNat = 0 then 0 else flow.toNat))
                          (max s.demand.h (if 0 < s.demand.pullTimer then s.settings.highFlow else 0)))
                  s.settings.fMin s.settings.fMax
            ∧ (t.demand.d = s.demand.d → t.frost = s.frost ∧ t.governor = s.governor)
            ∧ (t.demand.d ≠ s.demand.d →
                t.frost.dHanded = t.demand.d
                  ∧ t.frost.r = (if s.frost.mode = .defrost then t.demand.d * s.settings.reduction / 100 else s.frost.r)
                  ∧ t.governor.r =
                      (if s.frost.mode = .defrost then t.demand.d * s.settings.reduction / 100 else s.governor.r)))

/-- R61: HOLD TAKE takes or replaces the hold in RUN, with no capture in force and the frost guard neither in DEFROST
nor in FROST STOP; RANGE is judged before STATE. -/
def Obligations.HoldTakeIsAcceptedInRun : Prop :=
  ∀ (flow : Half) (s : State), s.powered = true → s.link.closed = false →
    (flow.toNat = 0 ∨ 2500 < flow.toNat → exec (.holdTake flow) s = .next (replied (refusal .range) s))
      ∧ (0 < flow.toNat → flow.toNat ≤ 2500 →
          s.demand.runState ≠ .run ∨ s.demand.captureInForce = true ∨ s.frost.mode = .defrost
              ∨ s.frost.mode = .frostStop →
            exec (.holdTake flow) s = .next (replied (refusal .state) s))
      ∧ (0 < flow.toNat → flow.toNat ≤ 2500 → s.demand.runState = .run → s.demand.captureInForce = false →
          s.frost.mode ≠ .defrost → s.frost.mode ≠ .frostStop →
            exec (.holdTake flow) s = .next
              { s with demand := { s.demand with hold := some flow.toNat
                                                 d := clampNat flow.toNat s.settings.fMin s.settings.fMax }
                       frost := { s.frost with dHanded :=
                                    if clampNat flow.toNat s.settings.fMin s.settings.fMax = s.demand.d then
                                      s.frost.dHanded
                                    else clampNat flow.toNat s.settings.fMin s.settings.fMax }
                       link := { s.link with answer := some (doneWith []) } })

/-- R53, R37: RESUME by the run state in which it is served. -/
def Obligations.ResumeLeavesStops : Prop :=
  ∀ s : State, s.powered = true → s.link.closed = false →
    (s.demand.runState ≠ .smokeStop → s.demand.runState ≠ .faultStop →
      exec .resume s = .next (replied (refusal .state) s))
      ∧ (s.demand.runState = .smokeStop →
          Line.all.any (fun l => s.demand.smokeActive.get l) = true ∨ s.demand.smokeClear < 5000 →
            exec .resume s = .next (replied (refusal .state) s))
      ∧ (s.demand.runState = .smokeStop → Line.all.any (fun l => s.demand.smokeActive.get l) = false →
          5000 ≤ s.demand.smokeClear →
            ∃ t, exec .resume s = .next t ∧ OuterKept s t ∧ t.link.answer = some (doneWith [])
              ∧ t.demand.smokeSource = none
              ∧ t.demand.runState =
                  (if s.loops.supply.state = .failed ∨ s.loops.extract.state = .failed then .faultStop
                    else if s.demand.level = .off then .rest else .run))
      ∧ (s.demand.runState = .faultStop →
          ∃ t, exec .resume s = .next t ∧ OuterKept s t ∧ t.link.answer = some (doneWith [])
            ∧ t.demand.runState = (if s.demand.level = .off then .rest else .run)
            ∧ (∀ x, (s.loops.get x).state = .failed →
                (t.loops.get x).state = .stopped ∧ (t.loops.get x).drive = 0 ∧ (t.loops.get x).stallCount = 0
                  ∧ (t.loops.get x).inBand = 0 ∧ (t.loops.get x).outBand = 0 ∧ (t.loops.get x).settling = 0
                  ∧ (t.loops.get x).noEdge = 0 ∧ (t.loops.get x).failReport = false)
            ∧ (∀ x, (s.loops.get x).state ≠ .failed → s.demand.level ≠ .off → t.loops.get x = s.loops.get x))

/-- R51, R56, R57: the demand second. -/
def Obligations.DemandSecondCountsDown : Prop :=
  ∀ s : State, s.powered = true →
    ∃ t, exec .demandSecond s = .next t ∧ OuterKept s t ∧ ReportsOnly s t ∧ t.loops = s.loops ∧ t.filter = s.filter
      ∧ t.measurement = s.measurement
      ∧ t.demand = { s.demand with boost := t.demand.boost, pullTimer := t.demand.pullTimer, d := t.demand.d }
      ∧ t.demand.pullTimer = s.demand.pullTimer - 1
      ∧ (s.demand.boost = none → t.demand.boost = none)
      ∧ (∀ b, s.demand.boost = some b → 1 < b.seconds → t.demand.boost = some { b with seconds := b.seconds - 1 })
      ∧ (∀ b, s.demand.boost = some b → b.seconds ≤ 1 → t.demand.boost = none)
      ∧ t.demand.d = demandOf t
      ∧ (s.demand.runState ≠ .smokeStop ∨ flagRaised s .smokeStop = true → t.events = s.events)
      ∧ (s.demand.runState = .smokeStop → flagRaised s .smokeStop = false → flagRaised t .smokeStop = true)

/-- R56, R57, R63, R64: the ends of the host boost record, of the pull-switch timer and of the silence timer, whose expiry
releases a hold only when the timer stands at its time (log 4, 5). -/
def Obligations.DemandTimersExpire : Prop :=
  ∀ s : State, s.powered = true →
    (∃ t, exec .hostBoostExpiry s = .next t ∧ OuterKept s t ∧ t.loops = s.loops ∧ t.events = s.events
        ∧ t.lines = s.lines ∧ t.link = s.link ∧ t.filter = s.filter
        ∧ t.demand = { s.demand with boost := none, d := demandOf t } ∧ t.frost.mode = s.frost.mode)
      ∧ (∃ t, exec .pullSwitchTimerExpiry s = .next t ∧ OuterKept s t ∧ t.loops = s.loops ∧ t.events = s.events
          ∧ t.lines = s.lines ∧ t.link = s.link ∧ t.filter = s.filter
          ∧ t.demand = { s.demand with pullTimer := 0, d := demandOf t } ∧ t.frost.mode = s.frost.mode)
      ∧ (s.demand.hold = none ∨ s.demand.silence < 30000 → exec .silenceExpiry s = .next s)
      ∧ (s.demand.hold.isSome = true → 30000 ≤ s.demand.silence →
          ∃ t, exec .silenceExpiry s = .next t ∧ OuterKept s t ∧ ReportsOnly s t ∧ t.loops = s.loops
            ∧ t.filter = s.filter ∧ t.demand = { s.demand with hold := none, d := demandOf t }
            ∧ flagRaised t .holdReleased = true)

/-! ### The frost guard -/

/-- R74, R77, R78, R79, R80, R92, R93: a frost period judges BLIND, applies the rule of IDLE, WATCH and BLIND, and starts a
heater cycle on the heater output that the interlock gives. -/
def Obligations.FrostPeriodJudgesAndStartsACycle : Prop :=
  ∀ s : State, s.powered = true →
    ∃ t, exec .frostPeriod s = .next t ∧ OuterKept s t ∧ ReportsOnly s t
      ∧ t.measurement.channels = s.measurement.channels
      ∧ t.frost.applied = t.frost.heaterOutput ∧ t.frost.hto = decide (0 < t.frost.heaterOutput)
      ∧ t.frost.heaterOutput = (if interlock t then t.frost.requested else 0)
      ∧ (let tOut := channelValue s .tOut
          let tExh := channelValue s .tExh
          let blind := tOut = none ∧ tExh = none
          let cold := ∃ v, tExh = some v ∧ v < s.settings.tFrost
          let ice :=
            s.measurement.fresh = true
              ∧ (∃ e, s.measurement.effectiveness = some e ∧ e < s.settings.effFloor)
              ∧ ∃ v, tOut = some v ∧ v < -50
          let released := ∃ v, tOut = some v ∧ s.settings.tWatch + 10 ≤ v;
          (blind → s.frost.mode ≠ .frostStop →
              t.frost.mode = .blind ∧ t.frost.requested = s.settings.hMax / 2 ∧ flagRaised t .frostBlind = true
                ∧ (s.frost.mode ≠ .blind →
                    t.frost.r = 0 ∧ t.governor.r = 0 ∧ t.frost.cold = 0 ∧ t.frost.warm = 0
                      ∧ t.frost.defrostTimer = 0 ∧ flagRaised t .frostState = true))
            ∧ (¬blind → s.frost.mode = .blind → t.frost.mode = .watch ∧ t.frost.requested = 0)
            ∧ (s.frost.mode = .frostStop →
                t.frost.mode = .frostStop ∧ t.frost.requested = s.frost.requested ∧ t.demand = s.demand
                  ∧ t.events = s.events)
            ∧ (¬blind → s.frost.mode = .idle →
                t.frost.requested = s.frost.requested
                  ∧ (tOut = none → t.frost.mode = .watch)
                  ∧ (∀ v, tOut = some v → t.frost.mode = (if s.settings.tWatch ≤ v then .idle else .watch)))
            ∧ (¬blind → s.frost.mode = .watch → s.frost.runSeen ≠ .run →
                t.frost.requested = s.frost.requested ∧ (released → t.frost.mode = .idle)
                  ∧ (¬released → t.frost.mode = .watch))
            ∧ (¬blind → s.frost.mode = .watch → s.frost.runSeen = .run →
                (cold ∨ ice →
                    t.frost.mode = .preheat ∧ t.frost.requested = min 500 s.settings.hMax ∧ t.frost.cold = 0
                      ∧ t.frost.warm = 0)
                  ∧ (¬(cold ∨ ice) →
                      (∀ v, tExh = none → tOut = some v → v < s.settings.tWatch →
                          t.frost.mode = .preheat
                            ∧ t.frost.requested = (clampInt ((s.settings.tWatch - v) * 20) 0 s.settings.hMax).toNat
                            ∧ t.frost.cold = 0 ∧ t.frost.warm = 0)
                        ∧ (released → t.frost.mode = .idle)
                        ∧ (¬released → tExh.isSome = true ∨ (∀ v, tOut = some v → s.settings.tWatch ≤ v) →
                            t.frost.mode = .watch ∧ t.frost.requested = s.frost.requested)))
            ∧ (s.frost.mode = .preheat → ¬blind → s.frost.runSeen ≠ .run →
                t.frost.mode = .preheat ∧ t.frost.requested = s.frost.requested ∧ t.frost.cold = s.frost.cold
                  ∧ t.frost.warm = s.frost.warm))

/-- R81 to R87, R90, R49, R64, R67: a frost period in PREHEAT and in DEFROST, with T_EXH present in RUN and, in PREHEAT,
with it absent (its move to WATCH sets both counts to 0: log 44). -/
def Obligations.FrostPeriodEscalates : Prop :=
  ∀ s : State, s.powered = true → s.frost.runSeen = .run → s.demand.runState = .run →
    ∃ t, exec .frostPeriod s = .next t
      ∧ (∀ v, channelValue s .tExh = some v →
          let power :=
            if v < s.settings.tFrost + 5 then min s.settings.hMax (s.frost.requested + 50)
            else if s.settings.tFrost + 15 < v then s.frost.requested - 50
            else s.frost.requested
          let warm := if power = 0 ∧ s.settings.tFrost + 15 ≤ v then s.frost.warm + 1 else 0
          let stuck := power = s.settings.hMax ∨ s.settings.hMax = 0 ∨ interlock s = false
          let cold := if v < s.settings.tFrost ∧ stuck then s.frost.cold + 1 else 0;
          (s.frost.mode = .preheat → 3 ≤ warm →
              t.frost.mode = .watch ∧ t.frost.requested = 0 ∧ t.frost.cold = 0 ∧ t.frost.warm = 0
                ∧ t.demand = s.demand)
            ∧ (s.frost.mode = .preheat → warm < 3 → cold < 6 →
                t.frost.mode = .preheat ∧ t.frost.requested = power ∧ t.frost.cold = cold ∧ t.frost.warm = warm
                  ∧ t.demand = s.demand)
            ∧ (s.frost.mode = .preheat → warm < 3 → 6 ≤ cold → s.settings.aEnter ≤ s.governor.allowance →
                t.frost.mode = .defrost ∧ t.frost.requested = power ∧ t.frost.cold = 0
                  ∧ t.frost.defrostTimer = 0 ∧ t.frost.defrostLimit = s.settings.defrostMax
                  ∧ t.frost.r = t.frost.dHanded * s.settings.reduction / 100 ∧ t.governor.r = t.frost.r
                  ∧ t.demand.hold = none ∧ t.demand.runState = .run ∧ flagRaised t .frostState = true
                  ∧ (s.demand.hold.isSome = true → flagRaised t .holdReleased = true))
            ∧ (s.frost.mode = .preheat → warm < 3 → 6 ≤ cold → s.governor.allowance < s.settings.aEnter →
                t.frost.mode = .frostStop ∧ t.frost.requested = 0 ∧ t.frost.heaterOutput = 0 ∧ t.frost.r = 0
                  ∧ t.governor.r = 0 ∧ t.frost.cold = 0 ∧ t.frost.warm = 0 ∧ t.frost.stopTimer = 0
                  ∧ t.frost.stopLimit = s.settings.stopTime
                  ∧ t.demand.runState = .frostStop ∧ t.demand.hold = none ∧ t.governor.tS = 0 ∧ t.governor.tE = 0
                  ∧ t.frost.history =
                      (if 3 ≤ s.frost.history.length then
                        (s.frost.history ++ [s.events.seconds]).drop (s.frost.history.length - 2)
                      else s.frost.history ++ [s.events.seconds])
                  ∧ (∀ a b c, t.frost.history = [a, b, c] → (c : Int) - a ≤ 21600 →
                      flagRaised t .frostRepeat = true))
            ∧ (s.frost.mode = .defrost → s.settings.tRelease ≤ v →
                t.frost.mode = .preheat ∧ t.frost.requested = power ∧ t.frost.r = 0 ∧ t.governor.r = 0
                  ∧ t.frost.cold = 0 ∧ t.frost.warm = 0 ∧ t.demand = s.demand)
            ∧ (s.frost.mode = .defrost → v < s.settings.tRelease →
                t.frost.mode = .defrost ∧ t.frost.requested = power
                  ∧ t.frost.r = s.frost.dHanded * s.settings.reduction / 100 ∧ t.governor.r = t.frost.r
                  ∧ t.demand = s.demand))
      ∧ (∀ v, channelValue s .tExh = none → channelValue s .tOut = some v → s.frost.mode = .preheat →
          let power := (clampInt ((s.settings.tWatch - v) * 20) 0 s.settings.hMax).toNat
          let warm := if power = 0 ∧ s.settings.tWatch + 10 ≤ v then s.frost.warm + 1 else 0;
          t.demand = s.demand ∧ t.frost.requested = power ∧ t.frost.cold = 0
            ∧ (3 ≤ warm → t.frost.mode = .watch ∧ t.frost.warm = 0)
            ∧ (warm < 3 → t.frost.mode = .preheat ∧ t.frost.warm = warm))

/-- R77, R88, R91, R49, R94: the exhaustion signal and the defrost maximum end DEFROST, by T_EXH; the stop timer ends
FROST STOP; the on-time's end turns HTO off. In any other state they find nothing to end (log 4). -/
def Obligations.FrostSignalsAndTimersEndTheirStates : Prop :=
  ∀ s : State, s.powered = true →
    (s.frost.mode ≠ .defrost →
        exec .exhaustionSignal s = .next { s with frost := { s.frost with exhaustion := false } }
          ∧ exec .defrostMaximumExpiry s = .next s)
      ∧ (∀ c : Instr, c = .exhaustionSignal ∨ c = .defrostMaximumExpiry → s.frost.mode = .defrost →
          ∃ t, exec c s = .next t ∧ OuterKept s t ∧ ReportsOnly s t ∧ t.frost.r = 0 ∧ t.governor.r = 0
            ∧ t.frost.cold = 0 ∧ t.frost.warm = 0 ∧ t.frost.defrostTimer = 0 ∧ flagRaised t .frostState = true
            ∧ (c = .exhaustionSignal → t.frost.exhaustion = false)
            ∧ ((∃ v, channelValue s .tExh = some v ∧ v < s.settings.tFrost) →
                t.frost.mode = .frostStop ∧ t.frost.requested = 0 ∧ t.frost.stopTimer = 0
                  ∧ (s.demand.runState = .run → t.demand.runState = .frostStop ∧ t.governor.tS = 0 ∧ t.governor.tE = 0))
            ∧ (channelValue s .tExh = none ∨ (∃ v, channelValue s .tExh = some v ∧ s.settings.tFrost ≤ v) →
                t.frost.mode = .preheat ∧ t.frost.requested = s.frost.requested ∧ t.demand = s.demand
                  ∧ t.loops = s.loops ∧ t.filter = s.filter))
      ∧ (s.frost.mode ≠ .frostStop → exec .stopTimerExpiry s = .next s)
      ∧ (s.frost.mode = .frostStop →
          ∃ t, exec .stopTimerExpiry s = .next t ∧ OuterKept s t ∧ ReportsOnly s t ∧ t.frost.stopTimer = 0
            ∧ t.frost.cold = 0 ∧ t.frost.warm = 0 ∧ flagRaised t .frostState = true
            ∧ (s.demand.runState = .frostStop → s.demand.level ≠ .off →
                t.demand = { s.demand with runState := .run } ∧ t.frost.mode = .preheat
                  ∧ t.frost.requested = s.settings.hMax
                  ∧ t.frost.heaterOutput = (if interlock t then s.settings.hMax else 0))
            ∧ (s.demand.runState = .frostStop → s.demand.level = .off →
                t.demand = { s.demand with runState := .rest } ∧ t.frost.requested = 0
                  ∧ (t.frost.mode = .idle ↔ ∃ v, channelValue s .tOut = some v ∧ s.settings.tWatch ≤ v)
                  ∧ (t.frost.mode = .watch ↔ ∀ v, channelValue s .tOut = some v → v < s.settings.tWatch)))
      ∧ exec .htoOnTimeEnd s = .next
          (if s.frost.applied < 1000 then { s with frost := { s.frost with hto := false } } else s)

/-! ### The filter monitor -/

/-- R103, R105, R109 to R112, R165: the filter minute, with no rewrite in progress, judges both records, reports, has the
lamp follow and orders a rewrite. -/
def Obligations.FilterMinuteJudgesTheRecords : Prop :=
  ∀ s : State, s.powered = true → s.filter.rewriting = false →
    ∃ t, exec .filterMinute s = .next t ∧ OuterKept s t ∧ ReportsOnly s t ∧ t.demand = s.demand ∧ t.loops = s.loops
      ∧ t.measurement = s.measurement ∧ t.frost = s.frost ∧ t.governor = s.governor
      ∧ t.filter =
          { s.filter with records := t.filter.records, pending := t.filter.pending, sampled := ⟨false, false⟩,
                          rewriting := true }
      ∧ t.lines.lamp = lampWanted t.filter.records
      ∧ ∀ x,
        let r := s.filter.records.get x
        let r' := t.filter.records.get x
        let p := s.filter.pending.get x
        let p' := t.filter.pending.get x
        let volume := 100 * r.volume / s.settings.ratedVolume
        let reaches (bound : Nat) := ∃ b, r.baseline = some b ∧ bound ≤ 100 * r'.dpAvg / b
        let target : Service :=
          if 125 ≤ volume ∨ reaches 250 then .overdue
          else if 100 ≤ volume ∨ reaches 200 ∨ s.settings.serviceLimit ≤ r'.minutes / 1440 then .due
          else if 90 ≤ volume ∨ reaches 180 then .dueSoon
          else .good;
        r' = { r with minutes := r'.minutes, dpAvg := r'.dpAvg, blocked := r'.blocked, service := r'.service }
          ∧ (r'.minutes, p'.minutes) =
              (if inService (s.loops.get x).state then
                (if s.filter.gateOpen then (min 1051200 (r.minutes + 1), p.minutes)
                else (r.minutes, min 1440 (p.minutes + 1)))
              else (r.minutes, p.minutes))
          ∧ p' = { p with minutes := p'.minutes }
          ∧ (∀ v, s.filter.sampled.get x = true → s.filter.latest.get x = some v →
              r'.dpAvg = ((r.dpAvg : Int) + ((v : Int) - r.dpAvg).tdiv 8).toNat)
          ∧ (s.filter.sampled.get x = false → r'.dpAvg = r.dpAvg)
          ∧ (r.blocked = false → (r'.blocked = true ↔ s.settings.blockLimit ≤ r'.dpAvg))
          ∧ (r.blocked = true → (r'.blocked = true ↔ s.settings.blockLimit - 20 ≤ r'.dpAvg))
          ∧ (r'.blocked = true → r.blocked = false ∨ flagRaised s .filterBlocked = false →
              flagRaised t .filterBlocked = true)
          ∧ (r.service = .unknown → r'.service = .unknown)
          ∧ (r.service ≠ .unknown → r'.service = (if serviceCode r.service < serviceCode target then target else r.service))
          ∧ (r'.service ≠ r.service → flagRaised t .filterDue = true)

/-- R100, R102: while a rewrite lasts, what reaches the filter monitor waits in the order of its arrival, the requests too
(log 8); with none it is taken at once. At the rewrite's end the store holds the image (log 45), and what waited is taken
in its order until one of them orders a rewrite, which holds the rest: of the list that waited, the first is taken, and
then either the rest is held, or it is taken as the rest of a rewrite that ends. R105, R108, R115: a window end is taken
by the figures that stood at that window end, and a minute by the loops in service at that minute (log 50). -/
def Obligations.RewriteHoldsEvents : Prop :=
  ∀ s : State, s.powered = true →
    let serving (x : Stream) : Bool := (s.loops.get x).state ∈ [.starting, .settling, .locked, .unlocked]
    let served : PerStream Bool := ⟨serving .supply, serving .extract⟩;
    (∀ (c : Instr) (e : FilterEvent),
        (c, e) ∈ [(.filterMinute, .minute served), (.captureWaitTimeout, .waitTimeout), (.captureRunEnd, .runEnd),
            (.lockOutExpiry .supply, .lockOut .supply), (.lockOutExpiry .extract, .lockOut .extract)]
          ∨ (s.link.closed = false ∧ ∃ ask, filterAsk c = some ask ∧ e = .request none ask) →
        (s.filter.rewriting = true →
            exec c s = .next { s with filter := { s.filter with held := s.filter.held ++ [e] } })
          ∧ (s.filter.rewriting = false → exec c s = .next (filterTake e s)))
      ∧ (s.filter.rewriting = false → exec .rewriteEnd s = .next s)
      ∧ (s.filter.rewriting = true →
          let image := storeImage s.filter.records
          let freed : State :=
            { s with filter := { s.filter with store := image, rewriting := false, held := [] } };
          (∃ t, exec .rewriteEnd s = .next t ∧ OuterKept s t ∧ t.filter.store = image)
            ∧ (s.filter.held = [] → exec .rewriteEnd s = .next freed)
            ∧ ∀ e es, s.filter.held = e :: es →
              let u := filterTake e freed;
              (u.filter.rewriting = true →
                  exec .rewriteEnd s = .next { u with filter := { u.filter with held := es } })
                ∧ (u.filter.rewriting = false →
                    ∃ t,
                      exec .rewriteEnd { u with filter := { u.filter with rewriting := true, held := es } } = .next t
                        ∧ exec .rewriteEnd s = .next { t with filter := { t.filter with store := image } }))
      ∧ (∀ (x : Stream) (w : WindowFigures),
          let u := filterTake (.windowEnd x w) s
          let measurable := w.state = .locked ∧ w.fRef / 2 ≤ w.flow
          let windows := s.filter.capture.windows + if x = .supply then 1 else 0;
          (∀ dp, measurable → w.pressure = some dp →
              u.filter.latest.get x = some (min 1000 (dp.toNat * w.fRef * w.fRef / (w.flow * w.flow)))
                ∧ u.filter.sampled.get x = true)
            ∧ (¬measurable ∨ w.pressure = none →
                u.filter.latest = s.filter.latest ∧ u.filter.sampled = s.filter.sampled)
            ∧ (s.filter.capture.state = .wait →
                (u.filter.capture.state = .run ↔ 2 ≤ windows ∧ w.onTarget = true)))
      ∧ (∀ (p : PerStream Bool) (x : Stream), s.filter.gateOpen = true →
          ((filterTake (.minute p) s).filter.records.get x).minutes =
            (if p.get x then min 1051200 ((s.filter.records.get x).minutes + 1) else (s.filter.records.get x).minutes))

/-- R114, R58, R59: FILTER CHANGED starts a baseline capture under its conditions, else it is refused. -/
def Obligations.FilterChangedStartsCapture : Prop :=
  ∀ (filter : Byte) (s : State), s.powered = true → s.link.closed = false → s.filter.rewriting = false →
    let allowed :=
      s.filter.gateOpen = true ∧ s.demand.runState = .run
        ∧ (s.frost.mode = .idle ∨ s.frost.mode = .watch ∨ s.frost.mode = .preheat)
        ∧ s.demand.hold = none ∧ s.filter.capture.state = .none
    (2 < filter.toNat → exec (.filterChanged filter) s = .next (replied (refusal .range) s))
      ∧ (filter.toNat ≤ 2 → ¬allowed → exec (.filterChanged filter) s = .next (replied (refusal .state) s))
      ∧ (filter.toNat ≤ 2 → allowed →
          ∃ t, exec (.filterChanged filter) s = .next t
            ∧ t = { s with demand := { s.demand with captureInForce := true, d := t.demand.d }
                           frost := { s.frost with dHanded := t.frost.dHanded }
                           filter := { s.filter with capture := t.filter.capture }
                           link := { s.link with answer := some (doneWith []) } }
            ∧ t.demand.d = clampNat s.settings.fRef s.settings.fMin s.settings.fMax
            ∧ (t.demand.d ≠ s.demand.d → t.frost.dHanded = t.demand.d)
            ∧ t.filter.capture =
                { state := .wait, named := ⟨filter.toNat ≠ 1, filter.toNat ≠ 0⟩, sum := ⟨0, 0⟩, count := ⟨0, 0⟩,
                  timer := 0, windows := 0, lockOut := ⟨none, none⟩ })

/-- R115, R117 to R120: the capture's waiting time, its run and a lock-out timer, at their ends. The expiry rows are
judged on the state alone, and in any other state they do nothing (log 4). -/
def Obligations.CaptureEnds : Prop :=
  ∀ s : State, s.powered = true → s.filter.rewriting = false →
    let c := s.filter.capture
    let lacks := ∃ x, c.named.get x = true ∧ c.count.get x = 0
    let aborted (i : Instr) : Prop :=
      ∃ t, exec i s = .next t ∧ OuterKept s t ∧ ReportsOnly s t ∧ t.loops = s.loops ∧ t.measurement = s.measurement
        ∧ t.filter = { s.filter with capture := Capture.empty }
        ∧ t.demand = { s.demand with captureInForce := false, d := demandOf t }
        ∧ flagRaised t .captureAborted = true
    (c.state ≠ .wait → exec .captureWaitTimeout s = .next s)
      ∧ (c.state = .wait → aborted .captureWaitTimeout)
      ∧ (∀ x, c.state ≠ .run ∨ c.lockOut.get x = none → exec (.lockOutExpiry x) s = .next s)
      ∧ (∀ x, c.state = .run → (c.lockOut.get x).isSome = true → aborted (.lockOutExpiry x))
      ∧ (c.state ≠ .run → exec .captureRunEnd s = .next s)
      ∧ (c.state = .run → lacks → aborted .captureRunEnd)
      ∧ (c.state = .run → ¬lacks →
          ∃ t, exec .captureRunEnd s = .next t ∧ OuterKept s t ∧ ReportsOnly s t ∧ t.loops = s.loops
            ∧ t.measurement = s.measurement
            ∧ t.filter = { s.filter with capture := Capture.empty, records := t.filter.records, rewriting := true }
            ∧ t.demand = { s.demand with captureInForce := false, d := demandOf t }
            ∧ t.lines.lamp = lampWanted t.filter.records
            ∧ ∀ x,
              (c.named.get x = false → t.filter.records.get x = s.filter.records.get x)
                ∧ (c.named.get x = true →
                    flagRaised t .captureDone = true
                      ∧ t.filter.records.get x =
                          { volume := 0, carry := 0, minutes := 0
                            baseline := some (clampNat (c.sum.get x / c.count.get x) 5 500)
                            dpAvg := clampNat (c.sum.get x / c.count.get x) 5 500, service := .good, blocked := false
                            changes := min 65535 ((s.filter.records.get x).changes + 1) }))

/-- R107, R123, R199: START REPORT answers the start report and, the first time, opens the gate, which adds the pending
accrual to the records and orders a rewrite; FILTER READ answers a filter's figures. The gate byte, the named mark and
the four bytes of v are the model's reading (log 22, 23), and so is the rounding of the capture timer (log 43). -/
def Obligations.StartReportAndFilterReadAnswer : Prop :=
  ∀ s : State, s.powered = true → s.link.closed = false → s.filter.rewriting = false →
    let first := if s.filter.gateOpen then 0 else 1
    let report :=
      doneWith
        (u8 (resetKindCode s.store.resetKind) ++ u8 (retainedVerdictCode s.filter.verdict)
          ++ u8 (settingsVerdictCode s.store.verdict) ++ u16 0x2140 ++ u8 1 ++ u8 first)
    (s.filter.gateOpen = true → exec .startReport s = .next (replied report s))
      ∧ (s.filter.gateOpen = false →
          ∃ t, exec .startReport s = .next t
            ∧ t = { s with filter := { s.filter with records := t.filter.records,
                                                     pending := ⟨Pending.empty, Pending.empty⟩, gateOpen := true,
                                                     rewriting := true }
                           link := { s.link with answer := some report } }
            ∧ ∀ x, let r := s.filter.records.get x
              let p := s.filter.pending.get x
              t.filter.records.get x =
                { r with
                  volume := min 1000000 (min 1000000 (r.volume + (if 10000000 ≤ r.carry + p.carry then 1 else 0)) + p.volume)
                  carry := if 10000000 ≤ r.carry + p.carry then r.carry + p.carry - 10000000 else r.carry + p.carry
                  minutes := min 1051200 (r.minutes + p.minutes) })
      ∧ ∀ filter : Byte,
        exec (.filterRead filter) s = .next (
          match streamOfCode filter.toNat with
          | none => replied (refusal .range) s
          | some x =>
            let f := s.filter
            let r := f.records.get x
            let c := f.capture
            let p := f.pending.get x
            replied
              (doneWith
                (u8 (serviceCode r.service) ++ mark r.blocked ++ u32 r.volume ++ u32 r.carry ++ u32 r.minutes
                  ++ optU16 0 r.baseline ++ u16 r.dpAvg ++ optU16 0xFFFF (f.latest.get x)
                  ++ u32 (100 * r.volume / s.settings.ratedVolume)
                  ++ optU16 0xFFFF (r.baseline.map (fun b => 100 * r.dpAvg / b)) ++ u16 (r.minutes / 1440)
                  ++ u16 r.changes ++ u8 first ++ u32 (if f.gateOpen then 0 else p.volume)
                  ++ u16 (if f.gateOpen then 0 else p.minutes) ++ u8 (retainedVerdictCode f.verdict)
                  ++ u8 (captureStateCode c.state) ++ mark (c.named.get x)
                  ++ u8 (if c.state = .run ∧ c.named.get x = true then c.count.get x else 0)
                  ++ u8 (if c.state = .none then 0 else c.timer / 1000))) s)

/-! ### The sensor bus -/

/-- R126 to R129, R134: a poll period start chooses the lowest occupied slot, POLL sends its frame and opens the answer
window, and a hold expiry drops the held reading of a slot still SILENT. A poll period start during a round begins a new
one (log 34); the POLL carries the address that its slot had at the choice (log 52); an occupied slot without an entry,
which no run reaches, is polled at address 0 (log 41). -/
def Obligations.RoundsPollAndHoldsExpire : Prop :=
  ∀ s : State, s.powered = true →
    exec .pollPeriodStart s = .next
        { s with
          bus :=
            { s.bus with
              period := s.settings.pollPeriod
              round :=
                match Slot.all.find? (fun k => decide ((s.bus.slots.get k).state ≠ .empty)) with
                | some k =>
                  some
                    { slot := k
                      address :=
                        match s.settings.slots.get k with
                        | some e => e.address
                        | none => 0
                      windowOpen := false, discard := false, answer := [] }
                | none => s.bus.round } }
      ∧ (s.bus.round = none → exec .poll s = .next s)
      ∧ (∀ p, s.bus.round = some p → p.windowOpen = true → exec .poll s = .next s)
      ∧ (∀ p, s.bus.round = some p → p.windowOpen = false →
          let address := BitVec.ofNat 8 p.address
          exec .poll s = .next
            { s with
              bus :=
                { s.bus with
                  sent := [0x96, address, 0x01, crc8 [address, 0x01]]
                  round := some { p with windowOpen := true, answer := [] } } })
      ∧ ∀ k,
        let r := s.bus.slots.get k
        exec (.holdExpiry k) s = .next
          (if r.expiry = none then s
            else if r.state = .silent then setSlot k { r with reading := none, held := false, expiry := none } s
            else setSlot k { r with expiry := none } s)

/-- R125, R129: bytes received in an open answer window build the answer, which begins at a good start byte; elsewhere
they are discarded. The bytes of an answer are received one after another. -/
def Obligations.AnswerBytesAreCollected : Prop :=
  ∀ s : State, s.powered = true →
    (∀ b good, s.bus.round = none → exec (.sensorBusByteReceived b good) s = .next s)
      ∧ (∀ p, s.bus.round = some p → ∀ b good,
          p.windowOpen = false ∨ (p.answer = [] ∧ (b ≠ 0x96 ∨ good = false)) →
            exec (.sensorBusByteReceived b good) s = .next s)
      ∧ (∀ p, s.bus.round = some p → ∀ b good, p.windowOpen = true → p.answer ≠ [] ∨ (b = 0x96 ∧ good = true) →
          p.answer.length < 8 →
            exec (.sensorBusByteReceived b good) s = .next
              { s with
                bus :=
                  { s.bus with
                    round := some { p with answer := p.answer ++ [{ value := b, stopGood := good }] } } })
      ∧ (s.bus.round = none ∨ (∃ p, s.bus.round = some p ∧ p.windowOpen = false) →
          exec .answerWindowClose s = .next s)
      ∧ ∀ bytes, ∃ t, exec (.answerComplete bytes) s = .next t
          ∧ runCommands (bytes.map (fun b => .sensorBusByteReceived b.value b.stopGood)) s = .next t

/-- R126, R128 to R135, R140: the end of a poll, by the answer's ninth byte or by the window's close: its outcome, what it
does to the slot, and the next poll of the round. At the entry to SILENT an expiry that is not after now has passed
(log 39), and the slot's one pending expiry is replaced or removed (log 26); an occupied slot without an entry has
address 0 (log 41). -/
def Obligations.PollEndJudgesTheSlot : Prop :=
  ∀ (c : Instr) (p : Poll) (s : State), s.powered = true →
    (c = .answerWindowClose ∧ s.bus.round = some p ∧ p.windowOpen = true)
      ∨ (∃ q b good, c = .sensorBusByteReceived b good ∧ s.bus.round = some q ∧ q.windowOpen = true
          ∧ q.answer.length = 8 ∧ p = { q with answer := q.answer ++ [{ value := b, stopGood := good }] }) →
      ∃ t, exec c s = .next t
        ∧ t.powered = true ∧ t.store = s.store ∧ t.measurement = s.measurement ∧ t.loops = s.loops
        ∧ t.filter = s.filter ∧ t.pending = s.pending ∧ ReportsOnly s t
        ∧ t.bus.period = s.bus.period ∧ t.bus.sent = s.bus.sent
        ∧ t.bus.round =
            (Slot.all.find?
                (fun k => decide (slotNumber p.slot < slotNumber k ∧ (t.bus.slots.get k).state ≠ .empty))).map
              (fun k =>
                { slot := k
                  address :=
                    match t.settings.slots.get k with
                    | some e => e.address
                    | none => 0
                  windowOpen := false, discard := false, answer := [] })
        ∧ (∀ k, k ≠ p.slot →
            t.bus.slots.get k = s.bus.slots.get k ∧ t.settings.slots.get k = s.settings.slots.get k
              ∧ t.humidity.slots.get k = s.humidity.slots.get k)
        ∧ (let r := s.bus.slots.get p.slot
            let r' := t.bus.slots.get p.slot
            let now := s.events.seconds
            let byte (n : Nat) : Byte := ((p.answer[n - 1]?).map BusByte.value).getD 0
            let rh := (byte 4).toNat * 256 + (byte 5).toNat
            let temp := (byte 6 ++ byte 7 : BitVec 16).toInt
            let bad :=
              p.answer.length ≠ 9 ∨ byte 9 ≠ crc8 [byte 2, byte 3, byte 4, byte 5, byte 6, byte 7, byte 8]
                ∨ byte 3 ≠ 0x81 ∨ 1000 < rh ∨ temp < -400 ∨ 800 < temp
            let outcome : PollOutcome :=
              if 0 < r.injection then .check
              else if p.answer = [] then .noAnswer
              else if ∃ b ∈ p.answer, b.stopGood = false then .framing
              else if bad then .check
              else if (byte 2).toNat ≠ p.address then .wrongAddress
              else .good
            let passed := ∃ g, r.lastGood = some g ∧ g + 600 ≤ now;
            (p.discard = true ∨ r.state = .empty → r' = r ∧ t.settings = s.settings ∧ t.events = s.events)
              ∧ (p.discard = false → r.state ≠ .empty → outcome = .good → (byte 8).getLsbD 0 = false →
                  t.events = s.events ∧ t.settings = s.settings
                    ∧ r' = { r with state := .active, reading := some { rh := rh, temp := temp }, held := false,
                                    lastGood := some now, miss := 0, outcome := .good, injection := 0 })
              ∧ (p.discard = false → r.state ≠ .empty → outcome = .good → (byte 8).getLsbD 0 = true →
                  (r.state ≠ .faulty → flagRaised t .nodeFaulty = true) ∧ t.settings = s.settings
                    ∧ r' = { r with state := .faulty, reading := none, held := false, lastGood := some now, miss := 0,
                                    outcome := .good, injection := 0 })
              ∧ (p.discard = false → r.state ≠ .empty → outcome = .wrongAddress → flagRaised t .addressClash = true)
              ∧ (p.discard = false → r.state ≠ .empty → outcome ≠ .good → r.miss < 2 →
                  t.settings = s.settings
                    ∧ r' = { r with miss := r.miss + 1, outcome := outcome, injection := r.injection - 1 })
              ∧ (p.discard = false → r.state = .active ∨ r.state = .faulty → outcome ≠ .good → 2 ≤ r.miss →
                  t.settings = s.settings ∧ flagRaised t .nodeSilent = true
                    ∧ r'.state = .silent ∧ r'.miss = 3 ∧ r'.outcome = outcome ∧ r'.lastGood = r.lastGood
                    ∧ (passed → r'.reading = none ∧ r'.held = false ∧ r'.expiry = none)
                    ∧ (¬passed → r'.reading = r.reading ∧ r'.held = r.reading.isSome
                        ∧ r'.expiry = (if r.reading.isSome then r.lastGood.map (fun g => g + 600) else none)))
              ∧ (p.discard = false → r.state = .silent → outcome ≠ .good → 2 ≤ r.miss →
                  t.settings = s.settings
                    ∧ r' = { r with miss := 3, outcome := outcome, injection := r.injection - 1 })
              ∧ (p.discard = false → r.state = .enrolling → outcome ≠ .good → 2 ≤ r.miss →
                  flagRaised t .enrolFailed = true ∧ r' = SlotRec.cleared
                    ∧ t.settings = { s.settings with slots := s.settings.slots.set p.slot none }
                    ∧ t.humidity.slots.get p.slot = HumidRec.atReset))

/-- R137 to R141, R153: NODE ENROL takes the lowest EMPTY slot, NODE DROP empties a slot and has its poll discarded, also
one chosen and not yet sent (log 10), NODE READ answers a slot's figures. -/
def Obligations.NodeRequestsChangeTheSlotTable : Prop :=
  ∀ s : State, s.powered = true → s.link.closed = false →
    (∀ (address kind : Byte),
      let held :=
        ∃ k ∈ Slot.all, (s.bus.slots.get k).state ≠ .empty
          ∧ ∃ e, s.settings.slots.get k = some e ∧ e.address = address.toNat
      let first := Slot.all.find? (fun k => decide ((s.bus.slots.get k).state = .empty));
      (address.toNat = 0 ∨ 15 < address.toNat ∨ 4 < kind.toNat →
          exec (.nodeEnrol address kind) s = .next (replied (refusal .range) s))
        ∧ (0 < address.toNat → address.toNat ≤ 15 → kind.toNat ≤ 4 → held ∨ first = none →
            exec (.nodeEnrol address kind) s = .next (replied (refusal .state) s))
        ∧ (∀ k room, 0 < address.toNat → address.toNat ≤ 15 → roomKindOfCode kind.toNat = some room → ¬held →
            first = some k →
              exec (.nodeEnrol address kind) s = .next
                (replied (doneWith (u8 (slotNumber k)))
                  { s with
                    settings :=
                      { s.settings with
                        slots := s.settings.slots.set k (some { address := address.toNat, kind := room }) }
                    bus :=
                      { s.bus with slots := s.bus.slots.set k { SlotRec.cleared with state := .enrolling } } })))
      ∧ (∀ slot : Byte,
          (slotOfNumber slot.toNat = none →
              exec (.nodeDrop slot) s = .next (replied (refusal .range) s)
                ∧ exec (.nodeRead slot) s = .next (replied (refusal .range) s))
            ∧ ∀ k, slotOfNumber slot.toNat = some k →
              ((s.bus.slots.get k).state = .empty → exec (.nodeDrop slot) s = .next (replied (refusal .state) s))
                ∧ ((s.bus.slots.get k).state ≠ .empty →
                    ∃ t, exec (.nodeDrop slot) s = .next t
                      ∧ t = { s with
                              settings := { s.settings with slots := s.settings.slots.set k none }
                              bus := { s.bus with slots := s.bus.slots.set k SlotRec.cleared, round := t.bus.round }
                              humidity :=
                                { s.humidity with slots := s.humidity.slots.set k HumidRec.atReset, h := t.humidity.h }
                              demand := { s.demand with h := t.demand.h, d := t.demand.d }
                              frost := { s.frost with dHanded := t.frost.dHanded, r := t.frost.r }
                              governor := { s.governor with r := t.governor.r }
                              link := { s.link with answer := some (doneWith []) } }
                      ∧ t.bus.round =
                          s.bus.round.map (fun p => if p.slot = k then { p with discard := true } else p)
                      ∧ (DemandCurrent s → DemandCurrent t))
                ∧ (let r := s.bus.slots.get k
                    let h := s.humidity.slots.get k
                    let ring := h.ring.filterMap (fun e => e)
                    exec (.nodeRead slot) s = .next
                      (replied
                        (doneWith
                          (u8 (slotStateCode r.state)
                            ++ (match s.settings.slots.get k with
                                | some e =>
                                  if r.state = .empty then [0x00, 0xFF] else u8 e.address ++ u8 (roomKindCode e.kind)
                                | none => [0x00, 0xFF])
                            ++ optU16 0x8000 (r.reading.map Reading.rh) ++ optI16 (r.reading.map Reading.temp)
                            ++ mark r.held
                            ++ (match r.lastGood with
                                | some g => u32 g
                                | none => [0xFF, 0xFF, 0xFF, 0xFF])
                            ++ u8 r.miss ++ u8 r.injection ++ u8 (pollOutcomeCode r.outcome)
                            ++ u8 (boostStateCode h.boost) ++ mark h.saturated ++ u8 ring.length ++ ring.flatMap u16))
                        s)))

/-! ### The humidity response -/

/-- R144 to R152, R154, R155: the humidity minute forms the threshold, pushes each judged slot's sample, judges its
saturated mark and its boost record, and hands H on when it has changed. -/
def Obligations.HumidityMinuteJudgesTheSlots : Prop :=
  ∀ s : State, s.powered = true →
    ∃ t, exec .humidityMinute s = .next t
      ∧ t.powered = true ∧ t.settings = s.settings ∧ t.store = s.store ∧ t.bus = s.bus ∧ t.pending = s.pending
      ∧ t.loops = s.loops ∧ t.measurement = s.measurement ∧ t.filter = s.filter ∧ ReportsOnly s t
      ∧ (channelValue s .tOut = none → t.humidity.rhLim = s.settings.humidBase)
      ∧ (∀ v, channelValue s .tOut = some v →
          t.humidity.rhLim =
            (clampInt ((s.settings.humidBase : Int) - max 0 (100 - v) * s.settings.coldSlope / 10) 400
              s.settings.humidBase).toNat)
      ∧ t.humidity.levelFlow = s.humidity.levelFlow ∧ t.humidity.h = humidityDemand t
      ∧ (t.humidity.h = s.humidity.h → t.demand = s.demand)
      ∧ (t.humidity.h ≠ s.humidity.h → t.demand = { s.demand with h := t.humidity.h, d := demandOf t })
      ∧ ∀ k,
        let slot := s.bus.slots.get k
        let r := s.humidity.slots.get k
        let r' := t.humidity.slots.get k
        let sample := slot.reading.map Reading.rh
        let ring := (if 8 ≤ r.ring.length then r.ring.drop 1 else r.ring) ++ [sample]
        let older := if 6 ≤ ring.length then (ring[ring.length - 6]?).getD none else none
        let habitable := ∀ e, s.settings.slots.get k = some e → e.kind = .habitable
        let rise :=
          ¬habitable ∧ ∃ x y : Nat, sample = some x ∧ older = some y ∧ (s.settings.riseThreshold : Int) ≤ (x : Int) - y
        let saturated := r.saturated = true ∧ ∀ x : Nat, sample = some x → (t.humidity.rhLim : Int) - 50 ≤ x
        let above := ∃ x : Nat, sample = some x ∧ t.humidity.rhLim ≤ x ∧ ¬saturated
        let dry := ∀ x : Nat, sample = some x → (x : Int) < (t.humidity.rhLim : Int) - 30;
        (slot.state = .empty ∨ slot.state = .enrolling → r' = r)
          ∧ (slot.state = .active ∨ slot.state = .silent ∨ slot.state = .faulty →
              r'.ring = ring ∧ ring.length ≤ max 8 r.ring.length
                ∧ (r.boost = .quiet →
                    (r'.saturated = true ↔ saturated)
                      ∧ (rise ∨ above → r'.boost = .boost ∧ r'.boostMinutes = 0 ∧ flagRaised t .humidBoost = true)
                      ∧ (¬(rise ∨ above) → r'.boost = .quiet))
                ∧ (r.boost = .boost →
                    (10 ≤ r.boostMinutes + 1 → dry →
                        r'.boost = .runOn ∧ r'.runOnMinutes = 0 ∧ (r'.saturated = true ↔ saturated))
                      ∧ (¬(10 ≤ r.boostMinutes + 1 ∧ dry) → s.settings.boostMax ≤ r.boostMinutes + 1 →
                          r'.boost = .runOn ∧ r'.runOnMinutes = 0 ∧ r'.saturated = true)
                      ∧ (¬(10 ≤ r.boostMinutes + 1 ∧ dry) → r.boostMinutes + 1 < s.settings.boostMax →
                          r'.boost = .boost ∧ r'.boostMinutes = r.boostMinutes + 1
                            ∧ (r'.saturated = true ↔ saturated)))
                ∧ (r.boost = .runOn →
                    (r'.saturated = true ↔ saturated)
                      ∧ (rise → r'.boost = .boost ∧ r'.boostMinutes = 0 ∧ flagRaised t .humidBoost = true)
                      ∧ (¬rise → s.settings.runOnTime ≤ r.runOnMinutes + 1 → r'.boost = .quiet)
                      ∧ (¬rise → r.runOnMinutes + 1 < s.settings.runOnTime →
                          r'.boost = .runOn ∧ r'.runOnMinutes = r.runOnMinutes + 1)))

/-! ### The auxiliary lines -/

/-- R160 to R163, R166, R50, R51: the auxiliary sample event samples and settles every line, reports edges and output
faults, starts the pull-switch timer, stops the unit for smoke, and starts the smoke-clear timer when the last active
SMOKE INPUT line goes inactive; the millisecond timers advance by its period (log 5). The comparison of every line is
with the level driven as the event began (log 47). R113, R118, R119: the capture and lock-out timers advance with it
(log 5), unless smoke ends RUN and aborts the capture. -/
def Obligations.AuxSampleSettlesTheLines : Prop :=
  ∀ (pins : PerLine PinLevel) (s : State), s.powered = true →
    ∃ t, exec (.auxSampleEvent pins) s = .next t ∧ OuterKept s t ∧ t.measurement.channels = s.measurement.channels
      ∧ t.link = { s.link with queueNotEmpty := t.link.queueNotEmpty } ∧ t.events.seconds = s.events.seconds
      ∧ t.filter.records = s.filter.records ∧ t.demand.level = s.demand.level
      ∧ t.demand.silence = min 30000 (s.demand.silence + 10)
      ∧ (∀ l,
          let c := s.settings.lines.get l
          let r := s.lines.table.get l
          let r' := t.lines.table.get l
          let pin := pins.get l
          let run := if r.sample = some pin then min 10 (r.sampleRun + 1) else 1
          let needed := if c.function = .smokeInput then 10 else 3
          let moved := ∃ q, r.settled = some q ∧ r'.settled = some pin ∧ q ≠ pin
          let compared : Nat × Bool :=
            match r.driven with
            | none => (r.mismatch, r.fault)
            | some d =>
              if d = pin then (0, false) else (min 3 (r.mismatch + 1), r.fault || decide (3 ≤ r.mismatch + 1));
          r'.sample = some pin ∧ r'.sampleRun = run ∧ r'.latch = r.latch
            ∧ r'.settled = (if needed ≤ run then some pin else r.settled)
            ∧ ((r'.mismatch, r'.fault) = compared ∨ (r'.mismatch, r'.fault) = (0, false))
            ∧ (t.events = s.events → t.demand.runState = s.demand.runState →
                (r'.mismatch, r'.fault) = compared ∧ r'.driven = r.driven)
            ∧ (compared.2 = true → r.fault = false ∨ flagRaised s .lineFault = false → flagRaised t .lineFault = true)
            ∧ (moved →
                c.edge = .both ∨ (c.edge = .rising ∧ pin = .high) ∨ (c.edge = .falling ∧ pin = .low) →
                  flagRaised t .lineEdge = true)
            ∧ (moved → c.function = .pullSwitch → activeOf c.polarity pin = true →
                t.demand.pullTimer = s.settings.switchTime * 60)
            ∧ t.demand.smokeActive.get l =
                (if c.function = .smokeInput ∧ r'.settled ≠ r.settled ∧ activeOf c.polarity pin = true then true
                  else if c.function = .smokeInput ∧ r.settled ≠ none ∧ r'.settled ≠ r.settled then false
                  else s.demand.smokeActive.get l))
      ∧ (let smoke :=
            ∃ l ∈ Line.all,
              (s.settings.lines.get l).function = .smokeInput
                ∧ (s.lines.table.get l).settled ≠ (t.lines.table.get l).settled
                ∧ activeOf (s.settings.lines.get l).polarity (pins.get l) = true;
          (smoke → t.demand.runState = .smokeStop ∧ t.demand.smokeClear = 0 ∧ t.demand.smokeRunning = false
              ∧ (s.demand.runState ≠ .smokeStop →
                  flagRaised t .smokeStop = true ∧ t.governor.tS = 0 ∧ t.governor.tE = 0
                    ∧ t.frost.heaterOutput = 0 ∧ t.demand.smokeSource.isSome = true))
            ∧ (¬smoke → t.demand.runState = s.demand.runState ∧ t.demand.hold = s.demand.hold
                ∧ t.governor.tS = s.governor.tS ∧ t.governor.tE = s.governor.tE
                ∧ (let any (u : State) : Bool := Line.all.any (fun l => u.demand.smokeActive.get l);
                    (any s = true → any t = false → t.demand.smokeClear = 0 ∧ t.demand.smokeRunning = true)
                      ∧ (any s = false ∨ any t = true →
                          t.demand.smokeRunning = s.demand.smokeRunning
                            ∧ t.demand.smokeClear =
                                (if s.demand.smokeRunning then s.demand.smokeClear + 10 else s.demand.smokeClear)))
                ∧ t.frost.defrostTimer =
                    (if s.frost.mode = .defrost then min (s.frost.defrostLimit * 1000) (s.frost.defrostTimer + 10)
                      else s.frost.defrostTimer)
                ∧ t.frost.stopTimer =
                    (if s.frost.mode = .frostStop then min (s.frost.stopLimit * 1000) (s.frost.stopTimer + 10)
                      else s.frost.stopTimer))
            ∧ (let before := s.filter.capture
                let after := t.filter.capture
                let advanced :=
                  after.timer =
                      (match before.state with
                        | .none => before.timer
                        | .wait => min 120000 (before.timer + 10)
                        | .run => min 60000 (before.timer + 10))
                    ∧ (∀ x, after.lockOut.get x = (before.lockOut.get x).map (fun m => min 10000 (m + 10)))
                    ∧ after = { before with timer := after.timer, lockOut := after.lockOut };
                (¬smoke ∨ s.demand.runState = .smokeStop → advanced ∧ t.filter = { s.filter with capture := after })
                  ∧ (before.state = .none → advanced)
                  ∧ (smoke → s.demand.runState = .run → s.filter.rewriting = true → advanced)
                  ∧ (smoke → s.demand.runState = .run → s.filter.rewriting = false → before.state ≠ .none →
                      after = Capture.empty ∧ t.demand.captureInForce = false ∧ flagRaised t .captureAborted = true)))

/-- R159, R164, R168, R51: LINE SET writes a line's configuration. A line that was active smoke and is no longer is
reported inactive, and the smoke-clear timer starts when it was the last. -/
def Obligations.LineSetConfigures : Prop :=
  ∀ (line function polarity edge : Byte) (s : State), s.powered = true → s.link.closed = false →
    (lineOfNumber line.toNat = none ∨ 6 < function.toNat ∨ 1 < polarity.toNat ∨ 3 < edge.toNat →
      exec (.lineSet line function polarity edge) s = .next (replied (refusal .range) s))
      ∧ ∀ l f p e, lineOfNumber line.toNat = some l → lineFunctionOfCode function.toNat = some f →
          polarityOfCode polarity.toNat = some p → edgeOfCode edge.toNat = some e →
        let old := s.settings.lines.get l
        let r := s.lines.table.get l
        let lastSmoke :=
          old.function = .smokeInput ∧ ∀ m ∈ Line.all, m ≠ l → (s.settings.lines.get m).function ≠ .smokeInput
        let wasSmoking := old.function = .smokeInput ∧ ∃ q, r.settled = some q ∧ activeOf old.polarity q = true;
        (s.demand.runState = .smokeStop → lastSmoke → f ≠ .smokeInput →
            exec (.lineSet line function polarity edge) s = .next (replied (refusal .state) s))
          ∧ (s.demand.runState ≠ .smokeStop ∨ ¬lastSmoke ∨ f = .smokeInput →
              ∃ t, exec (.lineSet line function polarity edge) s = .next t
                ∧ t = { s with
                        settings :=
                          { s.settings with
                            lines := s.settings.lines.set l { function := f, polarity := p, edge := e } }
                        lines := { s.lines with table := s.lines.table.set l (t.lines.table.get l) }
                        demand :=
                          { s.demand with smokeActive := t.demand.smokeActive, smokeClear := t.demand.smokeClear,
                                          smokeRunning := t.demand.smokeRunning }
                        link := { s.link with answer := some (doneWith []) } }
                ∧ (f = old.function → p = old.polarity → t.lines = s.lines ∧ t.demand = s.demand)
                ∧ (f ≠ old.function ∨ p ≠ old.polarity →
                    t.lines.table.get l =
                        { r with
                          settled := none, sampleRun := 0, mismatch := 0, fault := false
                          driven := drivenLevel s.lines { function := f, polarity := p, edge := e } r.latch }
                      ∧ (¬wasSmoking → t.demand = s.demand)
                      ∧ (wasSmoking →
                          let active := s.demand.smokeActive.set l false
                          let last := s.demand.smokeActive.get l && !Line.all.any (fun m => active.get m)
                          t.demand =
                            { s.demand with smokeActive := active
                                            smokeClear := if last then 0 else s.demand.smokeClear
                                            smokeRunning := last || s.demand.smokeRunning })))

/-- R167, R169, R164: LINE WRITE writes a latch, which a GENERAL OUT line's pin follows; LINE READ answers a line's
figures. -/
def Obligations.LineWriteAndReadAnswer : Prop :=
  ∀ s : State, s.powered = true → s.link.closed = false →
    (∀ line value : Byte,
      (lineOfNumber line.toNat = none ∨ 1 < value.toNat →
          exec (.lineWrite line value) s = .next (replied (refusal .range) s))
        ∧ ∀ l, lineOfNumber line.toNat = some l → value.toNat ≤ 1 →
          let c := s.settings.lines.get l
          let r := s.lines.table.get l
          let active := decide (value.toNat = 0)
          let pin := if active = decide (c.polarity = .activeHigh) then PinLevel.high else .low
          exec (.lineWrite line value) s = .next
            (replied (doneWith [])
              (setLine l
                (if c.function = .generalOut ∧ r.driven ≠ some pin then
                  { r with latch := active, driven := some pin, mismatch := 0, fault := false }
                else { r with latch := active }) s)))
      ∧ ∀ line : Byte,
        exec (.lineRead line) s = .next (
          match lineOfNumber line.toNat with
          | none => replied (refusal .range) s
          | some l =>
            let c := s.settings.lines.get l
            let r := s.lines.table.get l
            let level (active : Bool) := if active then 0 else 1
            let value :=
              match c.function with
              | .generalOut => level r.latch
              | .alarmOut => level s.lines.alarm
              | .filterLamp => level s.lines.lamp
              | .heaterEnable => level s.lines.heater
              | .generalIn | .pullSwitch | .smokeInput =>
                match r.settled with
                | some q => level (activeOf c.polarity q)
                | none => 2
            let pin (absent : Nat) (q : Option PinLevel) := (q.map pinCode).getD absent
            replied
              (doneWith
                (u8 (lineFunctionCode c.function) ++ u8 (polarityCode c.polarity) ++ u8 (edgeCode c.edge) ++ u8 value
                  ++ u8 (pin 0xFF r.sample) ++ u8 (pin 2 r.settled) ++ u8 (pin 0xFF r.driven) ++ u8 (level r.latch)
                  ++ u8 r.mismatch ++ mark r.fault)) s)

/-! ### The event unit -/

/-- R171, R172, R174, R179, R43, R173, R165: the reset-second tick, NOTICES TAKE, FLAGS READ and FLAGS CLEAR. R172, R175 to
R178, R181: what one occurrence does to the event unit, by the first case of its placement that holds: it merges, or is
appended, or takes the place of the oldest advisory record, or is lost in the OVERFLOW record; a discarded frame reports
such an occurrence. -/
def Obligations.EventUnitServesItsRequests : Prop :=
  (∀ s : State, s.powered = true →
    exec .resetSecondTick s =
        .next { s with events := { s.events with seconds := (s.events.seconds + 1) % 2 ^ 32 } })
    ∧ (∀ s : State, s.powered = true → s.link.closed = false →
      exec .noticesTake s = .next
          (replied
            (doneWith (u8 (s.events.queue.take 4).length ++ (s.events.queue.take 4).flatMap noticeBytes))
            { s with
              events :=
                { s.events with
                  queue := s.events.queue.drop 4
                  ntf := (s.events.queue.drop 4).any (fun n => decide (s.settings.threshold < n.level)) }
              link := { s.link with queueNotEmpty := !(s.events.queue.drop 4).isEmpty } })
        ∧ exec .flagsRead s = .next (replied (doneWith (u32 s.events.flags.toNat)) s)
        ∧ (∀ kinds : Word,
          (2 ^ 25 ≤ kinds.toNat → exec (.flagsClear kinds) s = .next (replied (refusal .range) s))
            ∧ (kinds.toNat < 2 ^ 25 →
                let flags := s.events.flags &&& ~~~(kinds.setWidth 25)
                let severe := decide (flags &&& 0x7F#25 ≠ 0)
                ∃ t, exec (.flagsClear kinds) s = .next t
                  ∧ t = { s with
                          events := { s.events with flags := flags, severe := severe }
                          loops := t.loops, lines := t.lines
                          link := { s.link with answer := some (doneWith []) } }
                  ∧ (∀ x, t.loops.get x =
                      { s.loops.get x with
                        failReport := if kinds.getLsbD 0 then false else (s.loops.get x).failReport })
                  ∧ (severe = s.events.severe → t.lines = s.lines)
                  ∧ (severe ≠ s.events.severe →
                      t.lines.alarm = severe ∧ t.lines.lamp = s.lines.lamp ∧ t.lines.heater = s.lines.heater
                        ∧ ∀ l, (t.lines.table.get l).driven =
                            drivenLevel t.lines (s.settings.lines.get l) (s.lines.table.get l).latch)
                  ∧ ReportsOnly (replied (doneWith []) s) t))
        ∧ exec .frameDiscard s = .next
            (report .linkError (.link .discard)
              { s with link := { s.link with receiver := .hunt, checkErrorSeen := true } }))
    ∧ ∀ (k : EventKind) (src : Source) (s : State),
      let t := report k src s
      let q := s.events.queue
      let now := s.events.seconds
      let severe := decide (kindCode k ≤ 7)
      let fresh : Notice :=
        { kind := some k, source := src, severe := severe, level := kindLevel s.settings k, count := 1, first := now,
          last := now }
      let evictable (n : Notice) : Bool := n.kind.isSome && !n.severe
      let merges (n : Notice) : Prop := severe = false ∧ n.kind = some k ∧ n.source = src
      let merging := ∃ n, q.getLast? = some n ∧ merges n
      let full := 15 ≤ q.countP (fun n => n.kind.isSome)
      let lose (losses : Nat) (sev : Bool) (p : List Notice) : List Notice :=
        if p.any (fun n => n.kind.isNone) then
          p.map (fun n =>
            if n.kind.isSome then n
            else { n with count := min 255 (n.count + losses), severe := n.severe || sev, last := now })
        else
          p ++ [{ kind := none, source := .none, severe := sev, level := 7, count := min 255 losses, first := now,
                  last := now }];
      t.events.flags = s.events.flags ||| 1#25 <<< (kindCode k - 1) ∧ t.events.seconds = now
        ∧ (kindEnabled s.settings k = false →
            t.events.queue = q ∧ t.events.ntf = s.events.ntf ∧ t.link = s.link)
        ∧ (kindEnabled s.settings k = true →
            t.events.ntf = t.events.queue.any (fun n => decide (s.settings.threshold < n.level))
              ∧ t.link = { s.link with queueNotEmpty := true }
              ∧ (∀ n, q.getLast? = some n → merges n →
                  t.events.queue = q.dropLast ++ [{ n with count := min 255 (n.count + 1), last := now }])
              ∧ (¬merging → ¬full → t.events.queue = q ++ [fresh])
              ∧ (¬merging → full → severe = true → ∀ newer old older, q = older ++ old :: newer →
                  (∀ n ∈ older, evictable n = false) → evictable old = true →
                    t.events.queue = lose old.count false (older ++ newer) ++ [fresh])
              ∧ (¬merging → full → severe = false ∨ (∀ n ∈ q, evictable n = false) →
                  t.events.queue = lose 1 severe q))

/-- R175, R181: EVENT SET writes a kind's enable and level and touches no record; THRESHOLD SET writes the threshold and
judges NTF. -/
def Obligations.EventSetAndThresholdSetWrite : Prop :=
  ∀ s : State, s.powered = true → s.link.closed = false →
    (∀ code enable level : Byte,
      (code.toNat = 0 ∨ 25 < code.toNat ∨ 1 < enable.toNat ∨ 7 < level.toNat →
          exec (.eventSet code enable level) s = .next (replied (refusal .range) s))
        ∧ ∀ k, kindCode k = code.toNat → enable.toNat ≤ 1 → level.toNat ≤ 7 →
          ∃ t, exec (.eventSet code enable level) s = .next t
            ∧ t = { s with
                    settings := { s.settings with enables := t.settings.enables, levels := t.settings.levels }
                    link := { s.link with answer := some (doneWith []) } }
            ∧ kindEnabled t.settings k = decide (enable.toNat = 0) ∧ kindLevel t.settings k = level.toNat
            ∧ ∀ j, j ≠ k →
                kindEnabled t.settings j = kindEnabled s.settings j ∧ kindLevel t.settings j = kindLevel s.settings j)
      ∧ ∀ threshold : Byte,
        (7 < threshold.toNat → exec (.thresholdSet threshold) s = .next (replied (refusal .range) s))
          ∧ (threshold.toNat ≤ 7 →
              exec (.thresholdSet threshold) s = .next
                (replied (doneWith [])
                  { s with
                    settings := { s.settings with threshold := threshold.toNat }
                    events :=
                      { s.events with
                        ntf := s.events.queue.any (fun n => decide (threshold.toNat < n.level)) } }))

/-! ### The link port -/

/-- R62, R63, R186 to R188, R190, R191, R200: a valid frame restarts the silence timer; when the transmitter is free it is
served at once, its HOLD mark first, and answered: a kind or a length that is none of R190's is refused, an INJECT that
names no target too, and any other is served as its row is, or handed to the filter monitor, which holds it during a
rewrite (R100). When the transmitter is busy, or a request waits at the filter monitor (log 8), the request waits,
replacing one that waited. -/
def Obligations.FramesAreServedOrHeld : Prop :=
  ∀ (kind tag flags : Byte) (payload : List Byte) (s : State), s.powered = true → payload.length ≤ maxPayload →
    let base : State :=
      { s with demand := { s.demand with silence := 0 }, link := { s.link with receiver := .idle } }
    let judged := if flags.getLsbD 0 then base else releaseHold .mark base
    let free := s.link.closed = false ∧ s.link.tx = .idle ∧ s.link.awaiting = false ∧ s.link.holder = none
    let taken := exec (.frameReceived kind tag flags payload) s;
    (s.link.closed = true → taken = .next { s with link := { s.link with receiver := .idle } })
      ∧ (free → kind.toNat = 0 ∨ 0x1A < kind.toNat → taken = .next (replySent kind tag (refusal .unknown) false judged))
      ∧ (free → ∀ n, requestLength kind.toNat = some n → payload.length ≠ n →
          taken = .next (replySent kind tag (refusal .length) false judged))
      ∧ (free → kind.toNat = 0x1A → payload = [] → taken = .next (replySent kind tag (doneWith []) true judged))
      ∧ (free → kind.toNat = 0x15 → payload.length = 2 → requestRow kind payload = none →
          taken = .next (replySent kind tag (refusal .range) false judged))
      ∧ (free → ∀ c, requestRow kind payload = some c → filterAsk c = none ∨ s.filter.rewriting = false →
          ∃ a u, exec c judged = .next u ∧ u.link.answer = some a ∧ taken = .next (replySent kind tag a false u))
      ∧ (free → ∀ c ask, requestRow kind payload = some c → filterAsk c = some ask → s.filter.rewriting = true →
          taken = .next
            { judged with
              filter := { judged.filter with
                          held := s.filter.held ++ [.request (some { kind := kind, tag := tag }) ask] }
              link := { judged.link with awaiting := true } })
      ∧ (s.link.closed = false → s.link.tx ≠ .idle ∨ s.link.awaiting = true →
          let waits := some { kind := kind, tag := tag, flags := flags, payload := payload };
          (s.link.holder = none → taken = .next { base with link := { base.link with holder := waits } })
            ∧ (s.link.holder.isSome = true →
                ∃ t, taken = .next t ∧ OuterKept s t
                  ∧ t.demand = base.demand ∧ t.loops = s.loops ∧ t.filter = s.filter
                  ∧ t.link =
                      { s.link with
                        receiver := .idle, holder := waits, overrunSeen := true
                        queueNotEmpty := t.link.queueNotEmpty }
                  ∧ flagRaised t .linkError = true))

/-- R184, R185, R200: the receiver byte by byte, its two timeouts, and the discard of a frame. -/
def Obligations.ReceiverFollowsTheBytes : Prop :=
  ∀ s : State, s.powered = true →
    (s.link.closed = true →
        exec .frameDiscard s = .next { s with link := { s.link with receiver := .hunt } })
      ∧ (s.link.closed = false →
          ∃ t, exec .frameDiscard s = .next t ∧ OuterKept s t ∧ t.demand = s.demand ∧ t.loops = s.loops
            ∧ t.filter = s.filter ∧ t.measurement = s.measurement ∧ t.frost = s.frost ∧ t.governor = s.governor
            ∧ t.link =
                { s.link with receiver := .hunt, checkErrorSeen := true, queueNotEmpty := t.link.queueNotEmpty }
            ∧ flagRaised t .linkError = true)
      ∧ ((∀ bs, s.link.receiver ≠ .frame bs) → exec .frameGapTimeout s = .next s)
      ∧ (∀ bs, s.link.receiver = .frame bs →
          ∃ t, exec .frameDiscard s = .next t
            ∧ exec .frameGapTimeout s = .next { t with link := { t.link with receiver := .idle } })
      ∧ exec .huntTimeout s =
          .next (if s.link.receiver = .hunt then { s with link := { s.link with receiver := .idle } } else s)
      ∧ ∀ (b : Byte) (good : Bool),
        let starts := b = 0xC5 ∧ good = true;
        (s.link.receiver = .idle ∨ s.link.receiver = .hunt → starts →
            exec (.linkByteReceived b good) s = .next { s with link := { s.link with receiver := .frame [] } })
          ∧ (s.link.receiver = .hunt → ¬starts → exec (.linkByteReceived b good) s = .next s)
          ∧ (s.link.receiver = .idle → ¬starts → exec (.linkByteReceived b good) s = exec .frameDiscard s)
          ∧ ∀ bs, s.link.receiver = .frame bs →
            let frame := bs ++ [b]
            let length := ((frame[0]?).getD 0).toNat
            let body := frame.take (frame.length - 2)
            let whole := frame.length = length + 3
            let sound := frame = body ++ u16 (crc16 body).toNat;
            (good = false ∨ (bs = [] ∧ (b.toNat < 3 ∨ 64 < b.toNat)) →
                exec (.linkByteReceived b good) s = exec .frameDiscard s)
              ∧ (good = true → bs ≠ [] ∨ (3 ≤ b.toNat ∧ b.toNat ≤ 64) → ¬whole →
                  exec (.linkByteReceived b good) s = .next { s with link := { s.link with receiver := .frame frame } })
              ∧ (good = true → bs ≠ [] → whole → ¬sound →
                  exec (.linkByteReceived b good) s = exec .frameDiscard s)
              ∧ (good = true → bs ≠ [] → whole → sound → 3 ≤ length → length ≤ 64 →
                  exec (.linkByteReceived b good) s =
                    exec
                      (.frameReceived ((frame[1]?).getD 0) ((frame[2]?).getD 0) ((frame[3]?).getD 0)
                        ((frame.drop 4).take (length - 3))) s)

/-- R187, R192, R193, R200: when the transmitter becomes free it serves the held request, or sends the waiting trace, or
goes IDLE, and after the reply to RESTART the port closes; a trace that falls due is sent at once or waits, also while a
request waits at the filter monitor (log 8). A held request is served as a frame is. -/
def Obligations.TransmitterTakesTheNextFrame : Prop :=
  ∀ s : State, s.powered = true →
    let freed : State := { s with link := { s.link with tx := .idle } }
    let sending := (∃ f, s.link.tx = .reply f false) ∨ ∃ f, s.link.tx = .trace f
    let trace (n : Nat) (k : Link) : Transmitter :=
      .trace
        (frameBytes 0xFE (BitVec.ofNat 8 n) (linkFlags k)
          (u8 (runStateCode s.demand.runState) ++ u16 s.demand.d ++ u16 s.governor.tS ++ u16 s.governor.tE
            ++ u16 s.loops.supply.flow ++ u16 s.loops.extract.flow ++ u8 (frostModeCode s.frost.mode)
            ++ u16 s.frost.heaterOutput ++ u16 s.governor.allowance ++ optI16 (channelValue s .tOut)
            ++ optI16 (channelValue s .tSup) ++ optI16 (channelValue s .tExt) ++ optI16 (channelValue s .tExh)))
    (s.link.tx = .idle → exec .transmitEnd s = .next s)
      ∧ (∀ f, s.link.tx = .reply f true →
          exec .transmitEnd s = .next { freed with link := { freed.link with closed := true } })
      ∧ (sending → s.link.closed = true → exec .transmitEnd s = .next freed)
      ∧ (sending → s.link.closed = false → s.link.holder = none → s.link.traceWait = none →
          exec .transmitEnd s = .next freed)
      ∧ (∀ n, sending → s.link.closed = false → s.link.holder = none → s.link.traceWait = some n →
          exec .transmitEnd s = .next
            { s with link := { s.link with tx := trace n s.link, traceWait := none } })
      ∧ (∀ r, sending → s.link.closed = false → s.link.holder = some r →
          let taken : State := { freed with link := { freed.link with holder := none } }
          let judged := if r.flags.getLsbD 0 then taken else releaseHold .mark taken;
          (r.kind.toNat = 0 ∨ 0x1A < r.kind.toNat →
              exec .transmitEnd s = .next (replySent r.kind r.tag (refusal .unknown) false judged))
            ∧ (∀ n, requestLength r.kind.toNat = some n → r.payload.length ≠ n →
                exec .transmitEnd s = .next (replySent r.kind r.tag (refusal .length) false judged))
            ∧ (r.kind.toNat = 0x1A → r.payload = [] →
                exec .transmitEnd s = .next (replySent r.kind r.tag (doneWith []) true judged))
            ∧ (r.kind.toNat = 0x15 → r.payload.length = 2 → requestRow r.kind r.payload = none →
                exec .transmitEnd s = .next (replySent r.kind r.tag (refusal .range) false judged))
            ∧ (∀ c, requestRow r.kind r.payload = some c → filterAsk c = none ∨ s.filter.rewriting = false →
                ∃ a u, exec c judged = .next u ∧ u.link.answer = some a
                  ∧ exec .transmitEnd s = .next (replySent r.kind r.tag a false u))
            ∧ (∀ c ask, requestRow r.kind r.payload = some c → filterAsk c = some ask → s.filter.rewriting = true →
                exec .transmitEnd s = .next
                  { judged with
                    filter := { judged.filter with
                                held := s.filter.held ++ [.request (some { kind := r.kind, tag := r.tag }) ask] }
                    link := { judged.link with awaiting := true } }))
      ∧ (s.link.tracePeriod = 0 → exec .traceDue s = .next s)
      ∧ (0 < s.link.tracePeriod →
          let n := (s.link.traceNumber + 1) % 256
          exec .traceDue s = .next
            { s with
              link :=
                if s.link.tx = .idle ∧ s.link.closed = false ∧ s.link.awaiting = false ∧ s.link.holder = none then
                  { s.link with traceNumber := n, tx := trace n s.link }
                else { s.link with traceNumber := n, traceWait := some n } })

/-- R18, R72, R97, R157, R190, R192, R200: STATE READ answers the page asked; TRACE SET sets the trace period and with 0
drops a waiting trace; RESTART that comes by no frame is answered and closes the port (log 7), before which the RESTART
reset is not taken (log 12), and after which no request is served. The last fault and the injection count are shown as the
latest second end left them (log 49); the seconds of the defrost and stop timers are rounded down (log 43). -/
def Obligations.LinkPortServesItsOwnRequests : Prop :=
  (∀ (c : Instr) (s : State), isRequest c = true → s.link.closed = true → exec c s = .next s)
    ∧ ∀ s : State, s.powered = true → s.link.closed = false →
    (∀ page : Byte,
      exec (.stateRead page) s = .next
        (replied
          (match page.toNat with
            | 0 =>
              let d := s.demand
              doneWith
                (u8 (runStateCode d.runState) ++ u8 (levelCode d.level) ++ u16 d.d
                  ++ (match d.boost with
                      | some b => u16 b.flow ++ u16 b.seconds
                      | none => [0xFF, 0xFF, 0x00, 0x00])
                  ++ u16 d.pullTimer ++ u16 d.h ++ mark d.captureInForce ++ u16 (d.hold.getD 0) ++ u16 s.governor.tS
                  ++ u16 s.governor.tE ++ u16 s.governor.allowance ++ u16 s.governor.carry
                  ++ u8 ((d.smokeSource.map lineNumber).getD 0))
            | 1 =>
              doneWith
                ([Channel.tOut, .tSup, .tExt, .tExh, .dpS, .dpE].flatMap
                    (fun ch =>
                      let r := s.measurement.channels.get ch
                      u8 (channelStateCode r.state) ++ optI16 r.value ++ u8 (faultCauseCode r.shownFault)
                        ++ u8 r.shownInjection)
                  ++ optU16 0x8000 s.measurement.effectiveness ++ mark s.measurement.fresh)
            | 2 =>
              let f := s.frost
              doneWith
                (u8 (frostModeCode f.mode) ++ u16 f.requested ++ u16 f.heaterOutput ++ u16 f.r ++ u8 f.cold ++ u8 f.warm
                  ++ u16 (f.defrostTimer / 1000) ++ u16 (f.stopTimer / 1000) ++ u8 f.history.length
                  ++ u32 ((f.history[0]?).getD 0) ++ u32 ((f.history[1]?).getD 0) ++ u32 ((f.history[2]?).getD 0)
                  ++ u16 s.humidity.rhLim)
            | _ => refusal .range) s))
      ∧ (∀ period : Byte,
          exec (.traceSet period) s = .next
            (if 60 < period.toNat then replied (refusal .range) s
              else
                replied (doneWith [])
                  { s with
                    link :=
                      { s.link with
                        tracePeriod := period.toNat
                        traceWait := if period.toNat = 0 then none else s.link.traceWait } }))
      ∧ exec .restart s =
          .next { s with link := { s.link with answer := some (doneWith []), closed := true } }
      ∧ exec .restartReset s = .next s

/-! ### The settings store -/

/-- R195, R60, R71, R93, R96: SETTING READ answers the working-set value; SETTING WRITE refuses an unknown id, a value out
of range and a clamp that would cross, and a setting it never changes; an accepted write stores just that value, and a
new A_max or H_max acts at once. -/
def Obligations.SettingWriteStoresTheValue : Prop :=
  ∀ (id : Half) (s : State), s.powered = true → s.link.closed = false →
    exec (.settingRead id) s = .next (
        match settingOfId id.toNat with
        | none => replied (refusal .range) s
        | some i => replied (doneWith (i32 (settingGet s.settings i))) s)
      ∧ ∀ value : Word,
        (settingOfId id.toNat = none → exec (.settingWrite id value) s = .next (replied (refusal .range) s))
          ∧ ∀ i, settingOfId id.toNat = some i →
            let v := value.toInt
            let refused :=
              settingInRange i v = false ∨ (i = .fMin ∧ (s.settings.fMax : Int) < v)
                ∨ (i = .fMax ∧ v < (s.settings.fMin : Int))
            let fixed := (∃ k, i = .slotEntry k) ∨ ∃ l, i = .lineConfig l;
            (refused → exec (.settingWrite id value) s = .next (replied (refusal .range) s))
              ∧ (¬refused → fixed → exec (.settingWrite id value) s = .next (replied (refusal .state) s))
              ∧ (¬refused → ¬fixed →
                  ∃ t, exec (.settingWrite id value) s = .next t
                    ∧ t.link.answer = some (doneWith []) ∧ settingGet t.settings i = v
                    ∧ (∀ j, j ≠ i → settingGet t.settings j = settingGet s.settings j)
                    ∧ t.powered = true ∧ t.store = s.store ∧ t.bus = s.bus ∧ t.pending = s.pending
                    ∧ t.loops = s.loops ∧ t.measurement.channels = s.measurement.channels ∧ t.filter = s.filter
                    ∧ t.demand.runState = s.demand.runState ∧ t.demand.level = s.demand.level
                    ∧ t.demand.hold = s.demand.hold ∧ t.frost.mode = s.frost.mode
                    ∧ t.governor.tS = s.governor.tS ∧ t.governor.tE = s.governor.tE
                    ∧ t.governor.allowance =
                        (if i = .aMax then min s.governor.allowance t.settings.aMax else s.governor.allowance)
                    ∧ (i = .aMax → 0 < s.governor.allowance → t.governor.allowance = 0 →
                        flagRaised t .allowanceExhausted = true ∧ t.frost.exhaustion = true)
                    ∧ t.frost.requested =
                        (if i = .hMax then
                          (if s.frost.mode = .blind then t.settings.hMax / 2
                            else min s.frost.requested t.settings.hMax)
                        else s.frost.requested))

/-- R196: SETTINGS SAVE takes a snapshot, or is BUSY while one is being written; the completion of a save makes the other
bank valid and current with the next generation number and reports SAVE DONE. A bank is valid when its CRC is that of its
settings and its generation number, in the model's layout of them (log 27). -/
def Obligations.SavesGoToTheOtherBank : Prop :=
  (∀ b : Bank,
    bankValid b =
      (b.crc == crc16 (SettingId.all.flatMap (fun i => i32 (settingGet b.image i)) ++ u16 b.generation)))
    ∧ (∀ i : SettingId, i ∈ SettingId.all)
    ∧ ∀ s : State, s.powered = true →
    (s.link.closed = false → s.store.saving.isSome = true → exec .settingsSave s = .next (replied (refusal .busy) s))
      ∧ (s.link.closed = false → s.store.saving = none →
          exec .settingsSave s =
            .next (replied (doneWith []) { s with store := { s.store with saving := some s.settings } }))
      ∧ (s.store.saving = none → exec .saveComplete s = .next s)
      ∧ (∀ image, s.store.saving = some image →
          let generation :=
            match s.store.current with
            | none => 0
            | some .bank0 => (s.store.bank0.generation + 1) % 65536
            | some .bank1 => (s.store.bank1.generation + 1) % 65536
          ∃ t written, exec .saveComplete s = .next t
            ∧ t = { s with store := t.store, events := t.events, lines := t.lines, link := t.link }
            ∧ ReportsOnly s t ∧ flagRaised t .saveDone = true
            ∧ written.image = image ∧ written.generation = generation ∧ bankValid written = true
            ∧ t.store =
                (if s.store.current = some .bank0 then
                  { s.store with bank1 := written, current := some .bank1, saving := none }
                else { s.store with bank0 := written, current := some .bank0, saving := none }))
end

