-- ==== Sys2Proof/Laws/State.lean ====
section
/-! SUPPORT. The small lemmas of the state's tables and of the updates of one entry: what each reads back, and the
components it leaves alone. -/

namespace Sys2Proof

/-! ### Tables -/

@[simp] theorem PerStream.get_set_same {α : Type} (p : PerStream α) (i : Stream) (v : α) : (p.set i v).get i = v := by
  cases i <;> rfl

theorem PerStream.get_set_other {α : Type} (p : PerStream α) {i j : Stream} (v : α) (h : j ≠ i) : (p.set i v).get j = p.get j := by
  cases i <;> cases j <;> first | rfl | exact absurd rfl h

theorem PerStream.get_set {α : Type} (p : PerStream α) (i j : Stream) (v : α) :
    (p.set i v).get j = if j = i then v else p.get j := by
  cases i <;> cases j <;> rfl

theorem PerStream.ext_get {α : Type} {p q : PerStream α} (h : ∀ i, p.get i = q.get i) : p = q := by
  cases p; cases q
  simp only [PerStream.mk.injEq]
  exact ⟨h .supply, h .extract⟩

@[simp] theorem PerChannel.get_set_same {α : Type} (p : PerChannel α) (i : Channel) (v : α) : (p.set i v).get i = v := by
  cases i <;> rfl

theorem PerChannel.get_set_other {α : Type} (p : PerChannel α) {i j : Channel} (v : α) (h : j ≠ i) : (p.set i v).get j = p.get j := by
  cases i <;> cases j <;> first | rfl | exact absurd rfl h

theorem PerChannel.get_set {α : Type} (p : PerChannel α) (i j : Channel) (v : α) :
    (p.set i v).get j = if j = i then v else p.get j := by
  cases i <;> cases j <;> rfl

@[simp] theorem PerChannel.get_update {α β : Type} (p : PerChannel α) (f : Channel → α → β) (i : Channel) :
    (p.update f).get i = f i (p.get i) := by
  cases i <;> rfl

theorem PerChannel.ext_get {α : Type} {p q : PerChannel α} (h : ∀ i, p.get i = q.get i) : p = q := by
  cases p; cases q
  simp only [PerChannel.mk.injEq]
  exact ⟨h .tOut, h .tSup, h .tExt, h .tExh, h .dpS, h .dpE⟩

@[simp] theorem PerLine.get_set_same {α : Type} (p : PerLine α) (i : Line) (v : α) : (p.set i v).get i = v := by
  cases i <;> rfl

theorem PerLine.get_set_other {α : Type} (p : PerLine α) {i j : Line} (v : α) (h : j ≠ i) : (p.set i v).get j = p.get j := by
  cases i <;> cases j <;> first | rfl | exact absurd rfl h

theorem PerLine.get_set {α : Type} (p : PerLine α) (i j : Line) (v : α) :
    (p.set i v).get j = if j = i then v else p.get j := by
  cases i <;> cases j <;> rfl

@[simp] theorem PerLine.get_update {α β : Type} (p : PerLine α) (f : Line → α → β) (i : Line) :
    (p.update f).get i = f i (p.get i) := by
  cases i <;> rfl

theorem PerLine.ext_get {α : Type} {p q : PerLine α} (h : ∀ i, p.get i = q.get i) : p = q := by
  cases p; cases q
  simp only [PerLine.mk.injEq]
  exact ⟨h .aux1, h .aux2, h .aux3, h .aux4, h .aux5, h .aux6⟩

@[simp] theorem PerSlot.get_set_same {α : Type} (p : PerSlot α) (i : Slot) (v : α) : (p.set i v).get i = v := by
  cases i <;> rfl

theorem PerSlot.get_set_other {α : Type} (p : PerSlot α) {i j : Slot} (v : α) (h : j ≠ i) : (p.set i v).get j = p.get j := by
  cases i <;> cases j <;> first | rfl | exact absurd rfl h

theorem PerSlot.get_set {α : Type} (p : PerSlot α) (i j : Slot) (v : α) :
    (p.set i v).get j = if j = i then v else p.get j := by
  cases i <;> cases j <;> rfl

@[simp] theorem PerSlot.get_update {α β : Type} (p : PerSlot α) (f : Slot → α → β) (i : Slot) :
    (p.update f).get i = f i (p.get i) := by
  cases i <;> rfl

theorem PerSlot.ext_get {α : Type} {p q : PerSlot α} (h : ∀ i, p.get i = q.get i) : p = q := by
  cases p; cases q
  simp only [PerSlot.mk.injEq]
  exact ⟨h .s1, h .s2, h .s3, h .s4, h .s5, h .s6, h .s7, h .s8⟩

@[simp] theorem PerLine.get_const {α : Type} (v : α) (i : Line) : (PerLine.const v).get i = v := by
  cases i <;> rfl

@[simp] theorem PerSlot.get_const {α : Type} (v : α) (i : Slot) : (PerSlot.const v).get i = v := by
  cases i <;> rfl

namespace Machine

/-! ### Updates of one entry -/

@[simp] theorem setLoop_loops (x : Stream) (l : LoopRec) (s : State) : (setLoop x l s).loops = s.loops.set x l := rfl

@[simp] theorem setLoop_powered (x : Stream) (l : LoopRec) (s : State) : (setLoop x l s).powered = s.powered := rfl
@[simp] theorem setLoop_settings (x : Stream) (l : LoopRec) (s : State) : (setLoop x l s).settings = s.settings := rfl
@[simp] theorem setLoop_store (x : Stream) (l : LoopRec) (s : State) : (setLoop x l s).store = s.store := rfl
@[simp] theorem setLoop_measurement (x : Stream) (l : LoopRec) (s : State) : (setLoop x l s).measurement = s.measurement := rfl
@[simp] theorem setLoop_demand (x : Stream) (l : LoopRec) (s : State) : (setLoop x l s).demand = s.demand := rfl
@[simp] theorem setLoop_governor (x : Stream) (l : LoopRec) (s : State) : (setLoop x l s).governor = s.governor := rfl
@[simp] theorem setLoop_frost (x : Stream) (l : LoopRec) (s : State) : (setLoop x l s).frost = s.frost := rfl
@[simp] theorem setLoop_filter (x : Stream) (l : LoopRec) (s : State) : (setLoop x l s).filter = s.filter := rfl
@[simp] theorem setLoop_bus (x : Stream) (l : LoopRec) (s : State) : (setLoop x l s).bus = s.bus := rfl
@[simp] theorem setLoop_humidity (x : Stream) (l : LoopRec) (s : State) : (setLoop x l s).humidity = s.humidity := rfl
@[simp] theorem setLoop_lines (x : Stream) (l : LoopRec) (s : State) : (setLoop x l s).lines = s.lines := rfl
@[simp] theorem setLoop_events (x : Stream) (l : LoopRec) (s : State) : (setLoop x l s).events = s.events := rfl
@[simp] theorem setLoop_link (x : Stream) (l : LoopRec) (s : State) : (setLoop x l s).link = s.link := rfl
@[simp] theorem setLoop_pending (x : Stream) (l : LoopRec) (s : State) : (setLoop x l s).pending = s.pending := rfl

@[simp] theorem setChannel_measurement_channels (c : Channel) (r : ChannelRec) (s : State) : (setChannel c r s).measurement.channels = s.measurement.channels.set c r := rfl
@[simp] theorem setChannel_measurement_effectiveness (c : Channel) (r : ChannelRec) (s : State) : (setChannel c r s).measurement.effectiveness = s.measurement.effectiveness := rfl
@[simp] theorem setChannel_measurement_fresh (c : Channel) (r : ChannelRec) (s : State) : (setChannel c r s).measurement.fresh = s.measurement.fresh := rfl
@[simp] theorem setChannel_measurement_quiet (c : Channel) (r : ChannelRec) (s : State) : (setChannel c r s).measurement.quiet = s.measurement.quiet := rfl
@[simp] theorem setChannel_measurement_samples (c : Channel) (r : ChannelRec) (s : State) : (setChannel c r s).measurement.samples = s.measurement.samples := rfl

@[simp] theorem setChannel_powered (c : Channel) (r : ChannelRec) (s : State) : (setChannel c r s).powered = s.powered := rfl
@[simp] theorem setChannel_settings (c : Channel) (r : ChannelRec) (s : State) : (setChannel c r s).settings = s.settings := rfl
@[simp] theorem setChannel_store (c : Channel) (r : ChannelRec) (s : State) : (setChannel c r s).store = s.store := rfl
@[simp] theorem setChannel_loops (c : Channel) (r : ChannelRec) (s : State) : (setChannel c r s).loops = s.loops := rfl
@[simp] theorem setChannel_demand (c : Channel) (r : ChannelRec) (s : State) : (setChannel c r s).demand = s.demand := rfl
@[simp] theorem setChannel_governor (c : Channel) (r : ChannelRec) (s : State) : (setChannel c r s).governor = s.governor := rfl
@[simp] theorem setChannel_frost (c : Channel) (r : ChannelRec) (s : State) : (setChannel c r s).frost = s.frost := rfl
@[simp] theorem setChannel_filter (c : Channel) (r : ChannelRec) (s : State) : (setChannel c r s).filter = s.filter := rfl
@[simp] theorem setChannel_bus (c : Channel) (r : ChannelRec) (s : State) : (setChannel c r s).bus = s.bus := rfl
@[simp] theorem setChannel_humidity (c : Channel) (r : ChannelRec) (s : State) : (setChannel c r s).humidity = s.humidity := rfl
@[simp] theorem setChannel_lines (c : Channel) (r : ChannelRec) (s : State) : (setChannel c r s).lines = s.lines := rfl
@[simp] theorem setChannel_events (c : Channel) (r : ChannelRec) (s : State) : (setChannel c r s).events = s.events := rfl
@[simp] theorem setChannel_link (c : Channel) (r : ChannelRec) (s : State) : (setChannel c r s).link = s.link := rfl
@[simp] theorem setChannel_pending (c : Channel) (r : ChannelRec) (s : State) : (setChannel c r s).pending = s.pending := rfl

@[simp] theorem setSlot_bus_slots (k : Slot) (r : SlotRec) (s : State) : (setSlot k r s).bus.slots = s.bus.slots.set k r := rfl

@[simp] theorem setSlot_powered (k : Slot) (r : SlotRec) (s : State) : (setSlot k r s).powered = s.powered := rfl
@[simp] theorem setSlot_settings (k : Slot) (r : SlotRec) (s : State) : (setSlot k r s).settings = s.settings := rfl
@[simp] theorem setSlot_store (k : Slot) (r : SlotRec) (s : State) : (setSlot k r s).store = s.store := rfl
@[simp] theorem setSlot_measurement (k : Slot) (r : SlotRec) (s : State) : (setSlot k r s).measurement = s.measurement := rfl
@[simp] theorem setSlot_loops (k : Slot) (r : SlotRec) (s : State) : (setSlot k r s).loops = s.loops := rfl
@[simp] theorem setSlot_demand (k : Slot) (r : SlotRec) (s : State) : (setSlot k r s).demand = s.demand := rfl
@[simp] theorem setSlot_governor (k : Slot) (r : SlotRec) (s : State) : (setSlot k r s).governor = s.governor := rfl
@[simp] theorem setSlot_frost (k : Slot) (r : SlotRec) (s : State) : (setSlot k r s).frost = s.frost := rfl
@[simp] theorem setSlot_filter (k : Slot) (r : SlotRec) (s : State) : (setSlot k r s).filter = s.filter := rfl
@[simp] theorem setSlot_humidity (k : Slot) (r : SlotRec) (s : State) : (setSlot k r s).humidity = s.humidity := rfl
@[simp] theorem setSlot_lines (k : Slot) (r : SlotRec) (s : State) : (setSlot k r s).lines = s.lines := rfl
@[simp] theorem setSlot_events (k : Slot) (r : SlotRec) (s : State) : (setSlot k r s).events = s.events := rfl
@[simp] theorem setSlot_link (k : Slot) (r : SlotRec) (s : State) : (setSlot k r s).link = s.link := rfl
@[simp] theorem setSlot_pending (k : Slot) (r : SlotRec) (s : State) : (setSlot k r s).pending = s.pending := rfl

@[simp] theorem setSlotEntry_settings_slots (k : Slot) (e : Option SlotEntry) (s : State) : (setSlotEntry k e s).settings.slots = s.settings.slots.set k e := rfl

@[simp] theorem setSlotEntry_powered (k : Slot) (e : Option SlotEntry) (s : State) : (setSlotEntry k e s).powered = s.powered := rfl
@[simp] theorem setSlotEntry_store (k : Slot) (e : Option SlotEntry) (s : State) : (setSlotEntry k e s).store = s.store := rfl
@[simp] theorem setSlotEntry_measurement (k : Slot) (e : Option SlotEntry) (s : State) : (setSlotEntry k e s).measurement = s.measurement := rfl
@[simp] theorem setSlotEntry_loops (k : Slot) (e : Option SlotEntry) (s : State) : (setSlotEntry k e s).loops = s.loops := rfl
@[simp] theorem setSlotEntry_demand (k : Slot) (e : Option SlotEntry) (s : State) : (setSlotEntry k e s).demand = s.demand := rfl
@[simp] theorem setSlotEntry_governor (k : Slot) (e : Option SlotEntry) (s : State) : (setSlotEntry k e s).governor = s.governor := rfl
@[simp] theorem setSlotEntry_frost (k : Slot) (e : Option SlotEntry) (s : State) : (setSlotEntry k e s).frost = s.frost := rfl
@[simp] theorem setSlotEntry_filter (k : Slot) (e : Option SlotEntry) (s : State) : (setSlotEntry k e s).filter = s.filter := rfl
@[simp] theorem setSlotEntry_bus (k : Slot) (e : Option SlotEntry) (s : State) : (setSlotEntry k e s).bus = s.bus := rfl
@[simp] theorem setSlotEntry_humidity (k : Slot) (e : Option SlotEntry) (s : State) : (setSlotEntry k e s).humidity = s.humidity := rfl
@[simp] theorem setSlotEntry_lines (k : Slot) (e : Option SlotEntry) (s : State) : (setSlotEntry k e s).lines = s.lines := rfl
@[simp] theorem setSlotEntry_events (k : Slot) (e : Option SlotEntry) (s : State) : (setSlotEntry k e s).events = s.events := rfl
@[simp] theorem setSlotEntry_link (k : Slot) (e : Option SlotEntry) (s : State) : (setSlotEntry k e s).link = s.link := rfl
@[simp] theorem setSlotEntry_pending (k : Slot) (e : Option SlotEntry) (s : State) : (setSlotEntry k e s).pending = s.pending := rfl

@[simp] theorem setHumid_humidity_slots (k : Slot) (r : HumidRec) (s : State) : (setHumid k r s).humidity.slots = s.humidity.slots.set k r := rfl

@[simp] theorem setHumid_powered (k : Slot) (r : HumidRec) (s : State) : (setHumid k r s).powered = s.powered := rfl
@[simp] theorem setHumid_settings (k : Slot) (r : HumidRec) (s : State) : (setHumid k r s).settings = s.settings := rfl
@[simp] theorem setHumid_store (k : Slot) (r : HumidRec) (s : State) : (setHumid k r s).store = s.store := rfl
@[simp] theorem setHumid_measurement (k : Slot) (r : HumidRec) (s : State) : (setHumid k r s).measurement = s.measurement := rfl
@[simp] theorem setHumid_loops (k : Slot) (r : HumidRec) (s : State) : (setHumid k r s).loops = s.loops := rfl
@[simp] theorem setHumid_demand (k : Slot) (r : HumidRec) (s : State) : (setHumid k r s).demand = s.demand := rfl
@[simp] theorem setHumid_governor (k : Slot) (r : HumidRec) (s : State) : (setHumid k r s).governor = s.governor := rfl
@[simp] theorem setHumid_frost (k : Slot) (r : HumidRec) (s : State) : (setHumid k r s).frost = s.frost := rfl
@[simp] theorem setHumid_filter (k : Slot) (r : HumidRec) (s : State) : (setHumid k r s).filter = s.filter := rfl
@[simp] theorem setHumid_bus (k : Slot) (r : HumidRec) (s : State) : (setHumid k r s).bus = s.bus := rfl
@[simp] theorem setHumid_lines (k : Slot) (r : HumidRec) (s : State) : (setHumid k r s).lines = s.lines := rfl
@[simp] theorem setHumid_events (k : Slot) (r : HumidRec) (s : State) : (setHumid k r s).events = s.events := rfl
@[simp] theorem setHumid_link (k : Slot) (r : HumidRec) (s : State) : (setHumid k r s).link = s.link := rfl
@[simp] theorem setHumid_pending (k : Slot) (r : HumidRec) (s : State) : (setHumid k r s).pending = s.pending := rfl

@[simp] theorem setLine_lines_table (l : Line) (r : LineRec) (s : State) : (setLine l r s).lines.table = s.lines.table.set l r := rfl

@[simp] theorem setLine_powered (l : Line) (r : LineRec) (s : State) : (setLine l r s).powered = s.powered := rfl
@[simp] theorem setLine_settings (l : Line) (r : LineRec) (s : State) : (setLine l r s).settings = s.settings := rfl
@[simp] theorem setLine_store (l : Line) (r : LineRec) (s : State) : (setLine l r s).store = s.store := rfl
@[simp] theorem setLine_measurement (l : Line) (r : LineRec) (s : State) : (setLine l r s).measurement = s.measurement := rfl
@[simp] theorem setLine_loops (l : Line) (r : LineRec) (s : State) : (setLine l r s).loops = s.loops := rfl
@[simp] theorem setLine_demand (l : Line) (r : LineRec) (s : State) : (setLine l r s).demand = s.demand := rfl
@[simp] theorem setLine_governor (l : Line) (r : LineRec) (s : State) : (setLine l r s).governor = s.governor := rfl
@[simp] theorem setLine_frost (l : Line) (r : LineRec) (s : State) : (setLine l r s).frost = s.frost := rfl
@[simp] theorem setLine_filter (l : Line) (r : LineRec) (s : State) : (setLine l r s).filter = s.filter := rfl
@[simp] theorem setLine_bus (l : Line) (r : LineRec) (s : State) : (setLine l r s).bus = s.bus := rfl
@[simp] theorem setLine_humidity (l : Line) (r : LineRec) (s : State) : (setLine l r s).humidity = s.humidity := rfl
@[simp] theorem setLine_events (l : Line) (r : LineRec) (s : State) : (setLine l r s).events = s.events := rfl
@[simp] theorem setLine_link (l : Line) (r : LineRec) (s : State) : (setLine l r s).link = s.link := rfl
@[simp] theorem setLine_pending (l : Line) (r : LineRec) (s : State) : (setLine l r s).pending = s.pending := rfl

@[simp] theorem setRecord_filter_records (x : Stream) (r : FilterRec) (s : State) : (setRecord x r s).filter.records = s.filter.records.set x r := rfl

@[simp] theorem setRecord_powered (x : Stream) (r : FilterRec) (s : State) : (setRecord x r s).powered = s.powered := rfl
@[simp] theorem setRecord_settings (x : Stream) (r : FilterRec) (s : State) : (setRecord x r s).settings = s.settings := rfl
@[simp] theorem setRecord_store (x : Stream) (r : FilterRec) (s : State) : (setRecord x r s).store = s.store := rfl
@[simp] theorem setRecord_measurement (x : Stream) (r : FilterRec) (s : State) : (setRecord x r s).measurement = s.measurement := rfl
@[simp] theorem setRecord_loops (x : Stream) (r : FilterRec) (s : State) : (setRecord x r s).loops = s.loops := rfl
@[simp] theorem setRecord_demand (x : Stream) (r : FilterRec) (s : State) : (setRecord x r s).demand = s.demand := rfl
@[simp] theorem setRecord_governor (x : Stream) (r : FilterRec) (s : State) : (setRecord x r s).governor = s.governor := rfl
@[simp] theorem setRecord_frost (x : Stream) (r : FilterRec) (s : State) : (setRecord x r s).frost = s.frost := rfl
@[simp] theorem setRecord_bus (x : Stream) (r : FilterRec) (s : State) : (setRecord x r s).bus = s.bus := rfl
@[simp] theorem setRecord_humidity (x : Stream) (r : FilterRec) (s : State) : (setRecord x r s).humidity = s.humidity := rfl
@[simp] theorem setRecord_lines (x : Stream) (r : FilterRec) (s : State) : (setRecord x r s).lines = s.lines := rfl
@[simp] theorem setRecord_events (x : Stream) (r : FilterRec) (s : State) : (setRecord x r s).events = s.events := rfl
@[simp] theorem setRecord_link (x : Stream) (r : FilterRec) (s : State) : (setRecord x r s).link = s.link := rfl
@[simp] theorem setRecord_pending (x : Stream) (r : FilterRec) (s : State) : (setRecord x r s).pending = s.pending := rfl

/-! ### Reads of one entry after its update -/

@[simp] theorem setLoop_get (x : Stream) (l : LoopRec) (s : State) : (setLoop x l s).loops.get x = l := by simp

@[simp] theorem setLoop_setLoop (x : Stream) (l m : LoopRec) (s : State) :
    setLoop x m (setLoop x l s) = setLoop x m s := by
  cases x <;> rfl

end Machine
end Sys2Proof
end

