-- ==== Sys2Proof/Laws/Frames.lean ====
section
/-! SUPPORT. The frames of the shared operations: which components of the state each of them leaves alone. -/

namespace Sys2Proof.Machine

@[simp] theorem driveLines_frame (s : State) :
    (driveLines s).powered = s.powered ∧ (driveLines s).settings = s.settings ∧ (driveLines s).store = s.store
      ∧ (driveLines s).measurement = s.measurement ∧ (driveLines s).loops = s.loops
      ∧ (driveLines s).demand = s.demand ∧ (driveLines s).governor = s.governor ∧ (driveLines s).frost = s.frost
      ∧ (driveLines s).filter = s.filter ∧ (driveLines s).bus = s.bus ∧ (driveLines s).humidity = s.humidity
      ∧ (driveLines s).events = s.events ∧ (driveLines s).link = s.link ∧ (driveLines s).pending = s.pending := by
  simp [driveLines]

@[simp] theorem setAlarm_frame (b : Bool) (s : State) :
    (setAlarm b s).powered = s.powered ∧ (setAlarm b s).settings = s.settings ∧ (setAlarm b s).store = s.store
      ∧ (setAlarm b s).measurement = s.measurement ∧ (setAlarm b s).loops = s.loops
      ∧ (setAlarm b s).demand = s.demand ∧ (setAlarm b s).governor = s.governor ∧ (setAlarm b s).frost = s.frost
      ∧ (setAlarm b s).filter = s.filter ∧ (setAlarm b s).bus = s.bus ∧ (setAlarm b s).humidity = s.humidity
      ∧ (setAlarm b s).events = s.events ∧ (setAlarm b s).link = s.link ∧ (setAlarm b s).pending = s.pending := by
  simp [setAlarm]

@[simp] theorem setLamp_frame (b : Bool) (s : State) :
    (setLamp b s).powered = s.powered ∧ (setLamp b s).settings = s.settings ∧ (setLamp b s).store = s.store
      ∧ (setLamp b s).measurement = s.measurement ∧ (setLamp b s).loops = s.loops ∧ (setLamp b s).demand = s.demand
      ∧ (setLamp b s).governor = s.governor ∧ (setLamp b s).frost = s.frost ∧ (setLamp b s).filter = s.filter
      ∧ (setLamp b s).bus = s.bus ∧ (setLamp b s).humidity = s.humidity ∧ (setLamp b s).events = s.events
      ∧ (setLamp b s).link = s.link ∧ (setLamp b s).pending = s.pending := by
  simp [setLamp]

@[simp] theorem setHeaterEnable_frame (b : Bool) (s : State) :
    (setHeaterEnable b s).powered = s.powered ∧ (setHeaterEnable b s).settings = s.settings
      ∧ (setHeaterEnable b s).store = s.store ∧ (setHeaterEnable b s).measurement = s.measurement
      ∧ (setHeaterEnable b s).loops = s.loops ∧ (setHeaterEnable b s).demand = s.demand
      ∧ (setHeaterEnable b s).governor = s.governor ∧ (setHeaterEnable b s).frost = s.frost
      ∧ (setHeaterEnable b s).filter = s.filter ∧ (setHeaterEnable b s).bus = s.bus
      ∧ (setHeaterEnable b s).humidity = s.humidity ∧ (setHeaterEnable b s).events = s.events
      ∧ (setHeaterEnable b s).link = s.link ∧ (setHeaterEnable b s).pending = s.pending := by
  simp [setHeaterEnable]

@[simp] theorem advanceTimers_frame (s : State) :
    (advanceTimers s).powered = s.powered ∧ (advanceTimers s).settings = s.settings
      ∧ (advanceTimers s).store = s.store ∧ (advanceTimers s).measurement = s.measurement
      ∧ (advanceTimers s).loops = s.loops ∧ (advanceTimers s).governor = s.governor ∧ (advanceTimers s).bus = s.bus
      ∧ (advanceTimers s).humidity = s.humidity ∧ (advanceTimers s).lines = s.lines
      ∧ (advanceTimers s).events = s.events ∧ (advanceTimers s).link = s.link
      ∧ (advanceTimers s).pending = s.pending := by
  simp [advanceTimers]

@[simp] theorem judgeSevere_frame (s : State) :
    (judgeSevere s).powered = s.powered ∧ (judgeSevere s).settings = s.settings ∧ (judgeSevere s).store = s.store
      ∧ (judgeSevere s).measurement = s.measurement ∧ (judgeSevere s).loops = s.loops
      ∧ (judgeSevere s).demand = s.demand ∧ (judgeSevere s).governor = s.governor ∧ (judgeSevere s).frost = s.frost
      ∧ (judgeSevere s).filter = s.filter ∧ (judgeSevere s).bus = s.bus ∧ (judgeSevere s).humidity = s.humidity
      ∧ (judgeSevere s).link = s.link ∧ (judgeSevere s).pending = s.pending := by
  dsimp only [judgeSevere]
  (repeat' split) <;> simp

@[simp] theorem raiseFlag_frame (k : EventKind) (s : State) :
    (raiseFlag k s).powered = s.powered ∧ (raiseFlag k s).settings = s.settings ∧ (raiseFlag k s).store = s.store
      ∧ (raiseFlag k s).measurement = s.measurement ∧ (raiseFlag k s).loops = s.loops
      ∧ (raiseFlag k s).demand = s.demand ∧ (raiseFlag k s).governor = s.governor ∧ (raiseFlag k s).frost = s.frost
      ∧ (raiseFlag k s).filter = s.filter ∧ (raiseFlag k s).bus = s.bus ∧ (raiseFlag k s).humidity = s.humidity
      ∧ (raiseFlag k s).link = s.link ∧ (raiseFlag k s).pending = s.pending := by
  dsimp only [raiseFlag]
  simp

@[simp] theorem judgeNtf_frame (s : State) :
    (judgeNtf s).powered = s.powered ∧ (judgeNtf s).settings = s.settings ∧ (judgeNtf s).store = s.store
      ∧ (judgeNtf s).measurement = s.measurement ∧ (judgeNtf s).loops = s.loops ∧ (judgeNtf s).demand = s.demand
      ∧ (judgeNtf s).governor = s.governor ∧ (judgeNtf s).frost = s.frost ∧ (judgeNtf s).filter = s.filter
      ∧ (judgeNtf s).bus = s.bus ∧ (judgeNtf s).humidity = s.humidity ∧ (judgeNtf s).lines = s.lines
      ∧ (judgeNtf s).link = s.link ∧ (judgeNtf s).pending = s.pending := by
  simp [judgeNtf]

@[simp] theorem placeOccurrence_frame (k : EventKind) (src : Source) (s : State) :
    (placeOccurrence k src s).powered = s.powered ∧ (placeOccurrence k src s).settings = s.settings
      ∧ (placeOccurrence k src s).store = s.store ∧ (placeOccurrence k src s).measurement = s.measurement
      ∧ (placeOccurrence k src s).loops = s.loops ∧ (placeOccurrence k src s).demand = s.demand
      ∧ (placeOccurrence k src s).governor = s.governor ∧ (placeOccurrence k src s).frost = s.frost
      ∧ (placeOccurrence k src s).filter = s.filter ∧ (placeOccurrence k src s).bus = s.bus
      ∧ (placeOccurrence k src s).humidity = s.humidity ∧ (placeOccurrence k src s).lines = s.lines
      ∧ (placeOccurrence k src s).pending = s.pending := by
  simp [placeOccurrence]

@[simp] theorem report_frame (k : EventKind) (src : Source) (s : State) :
    (report k src s).powered = s.powered ∧ (report k src s).settings = s.settings
      ∧ (report k src s).store = s.store ∧ (report k src s).measurement = s.measurement
      ∧ (report k src s).loops = s.loops ∧ (report k src s).demand = s.demand
      ∧ (report k src s).governor = s.governor ∧ (report k src s).frost = s.frost
      ∧ (report k src s).filter = s.filter ∧ (report k src s).bus = s.bus ∧ (report k src s).humidity = s.humidity
      ∧ (report k src s).pending = s.pending := by
  dsimp only [report]
  (repeat' split) <;> simp

@[simp] theorem reportAll_frame (os : List (EventKind × Source)) (s : State) :
    (reportAll os s).powered = s.powered ∧ (reportAll os s).settings = s.settings
      ∧ (reportAll os s).store = s.store ∧ (reportAll os s).measurement = s.measurement
      ∧ (reportAll os s).loops = s.loops ∧ (reportAll os s).demand = s.demand
      ∧ (reportAll os s).governor = s.governor ∧ (reportAll os s).frost = s.frost
      ∧ (reportAll os s).filter = s.filter ∧ (reportAll os s).bus = s.bus ∧ (reportAll os s).humidity = s.humidity
      ∧ (reportAll os s).pending = s.pending := by
  induction os generalizing s with
  | nil => simp [reportAll]
  | cons o os ih =>
    have h := ih (report o.1 o.2 s)
    simpa [reportAll] using h

@[simp] theorem answerTo_frame (to' : Option ReplyTo) (a : Answer) (restart : Bool) (s : State) :
    (answerTo to' a restart s).powered = s.powered ∧ (answerTo to' a restart s).settings = s.settings
      ∧ (answerTo to' a restart s).store = s.store ∧ (answerTo to' a restart s).measurement = s.measurement
      ∧ (answerTo to' a restart s).loops = s.loops ∧ (answerTo to' a restart s).demand = s.demand
      ∧ (answerTo to' a restart s).governor = s.governor ∧ (answerTo to' a restart s).frost = s.frost
      ∧ (answerTo to' a restart s).filter = s.filter ∧ (answerTo to' a restart s).bus = s.bus
      ∧ (answerTo to' a restart s).humidity = s.humidity ∧ (answerTo to' a restart s).lines = s.lines
      ∧ (answerTo to' a restart s).events = s.events ∧ (answerTo to' a restart s).pending = s.pending := by
  dsimp only [answerTo]
  (repeat' split) <;> simp

@[simp] theorem startTrace_frame (n : Nat) (s : State) :
    (startTrace n s).powered = s.powered ∧ (startTrace n s).settings = s.settings
      ∧ (startTrace n s).store = s.store ∧ (startTrace n s).measurement = s.measurement
      ∧ (startTrace n s).loops = s.loops ∧ (startTrace n s).demand = s.demand
      ∧ (startTrace n s).governor = s.governor ∧ (startTrace n s).frost = s.frost
      ∧ (startTrace n s).filter = s.filter ∧ (startTrace n s).bus = s.bus ∧ (startTrace n s).humidity = s.humidity
      ∧ (startTrace n s).lines = s.lines ∧ (startTrace n s).events = s.events
      ∧ (startTrace n s).pending = s.pending := by
  simp [startTrace]

@[simp] theorem setHeaterOutput_frame (p : Nat) (s : State) :
    (setHeaterOutput p s).powered = s.powered ∧ (setHeaterOutput p s).settings = s.settings
      ∧ (setHeaterOutput p s).store = s.store ∧ (setHeaterOutput p s).loops = s.loops
      ∧ (setHeaterOutput p s).demand = s.demand ∧ (setHeaterOutput p s).governor = s.governor
      ∧ (setHeaterOutput p s).filter = s.filter ∧ (setHeaterOutput p s).bus = s.bus
      ∧ (setHeaterOutput p s).humidity = s.humidity ∧ (setHeaterOutput p s).events = s.events
      ∧ (setHeaterOutput p s).link = s.link ∧ (setHeaterOutput p s).pending = s.pending := by
  dsimp only [setHeaterOutput]
  (repeat' split) <;> simp

@[simp] theorem reevaluate_frame (s : State) :
    (reevaluate s).powered = s.powered ∧ (reevaluate s).settings = s.settings ∧ (reevaluate s).store = s.store
      ∧ (reevaluate s).loops = s.loops ∧ (reevaluate s).demand = s.demand ∧ (reevaluate s).governor = s.governor
      ∧ (reevaluate s).filter = s.filter ∧ (reevaluate s).bus = s.bus ∧ (reevaluate s).humidity = s.humidity
      ∧ (reevaluate s).events = s.events ∧ (reevaluate s).link = s.link ∧ (reevaluate s).pending = s.pending := by
  dsimp only [reevaluate]
  (repeat' split) <;> simp

@[simp] theorem setRequested_frame (p : Nat) (s : State) :
    (setRequested p s).powered = s.powered ∧ (setRequested p s).settings = s.settings
      ∧ (setRequested p s).store = s.store ∧ (setRequested p s).loops = s.loops
      ∧ (setRequested p s).demand = s.demand ∧ (setRequested p s).governor = s.governor
      ∧ (setRequested p s).filter = s.filter ∧ (setRequested p s).bus = s.bus
      ∧ (setRequested p s).humidity = s.humidity ∧ (setRequested p s).events = s.events
      ∧ (setRequested p s).link = s.link ∧ (setRequested p s).pending = s.pending := by
  dsimp only [setRequested]
  simp

@[simp] theorem setReduction_frame (r : Nat) (s : State) :
    (setReduction r s).powered = s.powered ∧ (setReduction r s).settings = s.settings
      ∧ (setReduction r s).store = s.store ∧ (setReduction r s).measurement = s.measurement
      ∧ (setReduction r s).loops = s.loops ∧ (setReduction r s).demand = s.demand
      ∧ (setReduction r s).filter = s.filter ∧ (setReduction r s).bus = s.bus
      ∧ (setReduction r s).humidity = s.humidity ∧ (setReduction r s).lines = s.lines
      ∧ (setReduction r s).events = s.events ∧ (setReduction r s).link = s.link
      ∧ (setReduction r s).pending = s.pending := by
  simp [setReduction]

@[simp] theorem setFrostMode_frame (m : FrostMode) (s : State) :
    (setFrostMode m s).powered = s.powered ∧ (setFrostMode m s).settings = s.settings
      ∧ (setFrostMode m s).store = s.store ∧ (setFrostMode m s).measurement = s.measurement
      ∧ (setFrostMode m s).loops = s.loops ∧ (setFrostMode m s).demand = s.demand
      ∧ (setFrostMode m s).governor = s.governor ∧ (setFrostMode m s).filter = s.filter
      ∧ (setFrostMode m s).bus = s.bus ∧ (setFrostMode m s).humidity = s.humidity
      ∧ (setFrostMode m s).pending = s.pending := by
  dsimp only [setFrostMode]
  (repeat' split) <;> simp

@[simp] theorem clearRuns_frame (s : State) :
    (clearRuns s).powered = s.powered ∧ (clearRuns s).settings = s.settings ∧ (clearRuns s).store = s.store
      ∧ (clearRuns s).measurement = s.measurement ∧ (clearRuns s).loops = s.loops ∧ (clearRuns s).demand = s.demand
      ∧ (clearRuns s).governor = s.governor ∧ (clearRuns s).filter = s.filter ∧ (clearRuns s).bus = s.bus
      ∧ (clearRuns s).humidity = s.humidity ∧ (clearRuns s).lines = s.lines ∧ (clearRuns s).events = s.events
      ∧ (clearRuns s).link = s.link ∧ (clearRuns s).pending = s.pending := by
  simp [clearRuns]

@[simp] theorem handDemand_frame (d : Nat) (s : State) :
    (handDemand d s).powered = s.powered ∧ (handDemand d s).settings = s.settings
      ∧ (handDemand d s).store = s.store ∧ (handDemand d s).measurement = s.measurement
      ∧ (handDemand d s).loops = s.loops ∧ (handDemand d s).filter = s.filter ∧ (handDemand d s).bus = s.bus
      ∧ (handDemand d s).humidity = s.humidity ∧ (handDemand d s).lines = s.lines
      ∧ (handDemand d s).events = s.events ∧ (handDemand d s).link = s.link ∧ (handDemand d s).pending = s.pending := by
  dsimp only [handDemand]
  (repeat' split) <;> simp

@[simp] theorem recomputeDemand_frame (s : State) :
    (recomputeDemand s).powered = s.powered ∧ (recomputeDemand s).settings = s.settings
      ∧ (recomputeDemand s).store = s.store ∧ (recomputeDemand s).measurement = s.measurement
      ∧ (recomputeDemand s).loops = s.loops ∧ (recomputeDemand s).filter = s.filter
      ∧ (recomputeDemand s).bus = s.bus ∧ (recomputeDemand s).humidity = s.humidity
      ∧ (recomputeDemand s).lines = s.lines ∧ (recomputeDemand s).events = s.events
      ∧ (recomputeDemand s).link = s.link ∧ (recomputeDemand s).pending = s.pending := by
  dsimp only [recomputeDemand]
  (repeat' split) <;> simp

@[simp] theorem releaseHold_frame (c : HoldCause) (s : State) :
    (releaseHold c s).powered = s.powered ∧ (releaseHold c s).settings = s.settings
      ∧ (releaseHold c s).store = s.store ∧ (releaseHold c s).measurement = s.measurement
      ∧ (releaseHold c s).loops = s.loops ∧ (releaseHold c s).filter = s.filter ∧ (releaseHold c s).bus = s.bus
      ∧ (releaseHold c s).humidity = s.humidity ∧ (releaseHold c s).pending = s.pending := by
  dsimp only [releaseHold]
  (repeat' split) <;> simp

@[simp] theorem formHumidity_frame (s : State) :
    (formHumidity s).powered = s.powered ∧ (formHumidity s).settings = s.settings
      ∧ (formHumidity s).store = s.store ∧ (formHumidity s).measurement = s.measurement
      ∧ (formHumidity s).loops = s.loops ∧ (formHumidity s).filter = s.filter ∧ (formHumidity s).bus = s.bus
      ∧ (formHumidity s).lines = s.lines ∧ (formHumidity s).events = s.events ∧ (formHumidity s).link = s.link
      ∧ (formHumidity s).pending = s.pending := by
  dsimp only [formHumidity]
  (repeat' split) <;> simp

@[simp] theorem tellLevelFlow_frame (s : State) :
    (tellLevelFlow s).powered = s.powered ∧ (tellLevelFlow s).settings = s.settings
      ∧ (tellLevelFlow s).store = s.store ∧ (tellLevelFlow s).measurement = s.measurement
      ∧ (tellLevelFlow s).loops = s.loops ∧ (tellLevelFlow s).filter = s.filter ∧ (tellLevelFlow s).bus = s.bus
      ∧ (tellLevelFlow s).lines = s.lines ∧ (tellLevelFlow s).events = s.events ∧ (tellLevelFlow s).link = s.link
      ∧ (tellLevelFlow s).pending = s.pending := by
  dsimp only [tellLevelFlow]
  simp

@[simp] theorem captureReport_frame (b : Bool) (s : State) :
    (captureReport b s).powered = s.powered ∧ (captureReport b s).settings = s.settings
      ∧ (captureReport b s).store = s.store ∧ (captureReport b s).measurement = s.measurement
      ∧ (captureReport b s).loops = s.loops ∧ (captureReport b s).filter = s.filter
      ∧ (captureReport b s).bus = s.bus ∧ (captureReport b s).humidity = s.humidity
      ∧ (captureReport b s).lines = s.lines ∧ (captureReport b s).events = s.events
      ∧ (captureReport b s).link = s.link ∧ (captureReport b s).pending = s.pending := by
  dsimp only [captureReport]
  simp

@[simp] theorem orderRewrite_frame (s : State) :
    (orderRewrite s).powered = s.powered ∧ (orderRewrite s).settings = s.settings
      ∧ (orderRewrite s).store = s.store ∧ (orderRewrite s).measurement = s.measurement
      ∧ (orderRewrite s).loops = s.loops ∧ (orderRewrite s).demand = s.demand
      ∧ (orderRewrite s).governor = s.governor ∧ (orderRewrite s).frost = s.frost ∧ (orderRewrite s).bus = s.bus
      ∧ (orderRewrite s).humidity = s.humidity ∧ (orderRewrite s).lines = s.lines
      ∧ (orderRewrite s).events = s.events ∧ (orderRewrite s).link = s.link ∧ (orderRewrite s).pending = s.pending := by
  simp [orderRewrite]

@[simp] theorem reportLamp_frame (s : State) :
    (reportLamp s).powered = s.powered ∧ (reportLamp s).settings = s.settings ∧ (reportLamp s).store = s.store
      ∧ (reportLamp s).measurement = s.measurement ∧ (reportLamp s).loops = s.loops
      ∧ (reportLamp s).demand = s.demand ∧ (reportLamp s).governor = s.governor ∧ (reportLamp s).frost = s.frost
      ∧ (reportLamp s).filter = s.filter ∧ (reportLamp s).bus = s.bus ∧ (reportLamp s).humidity = s.humidity
      ∧ (reportLamp s).events = s.events ∧ (reportLamp s).link = s.link ∧ (reportLamp s).pending = s.pending := by
  dsimp only [reportLamp]
  (repeat' split) <;> simp

@[simp] theorem accrueVolume_frame (x : Stream) (air : Nat) (s : State) :
    (accrueVolume x air s).powered = s.powered ∧ (accrueVolume x air s).settings = s.settings
      ∧ (accrueVolume x air s).store = s.store ∧ (accrueVolume x air s).measurement = s.measurement
      ∧ (accrueVolume x air s).loops = s.loops ∧ (accrueVolume x air s).demand = s.demand
      ∧ (accrueVolume x air s).governor = s.governor ∧ (accrueVolume x air s).frost = s.frost
      ∧ (accrueVolume x air s).bus = s.bus ∧ (accrueVolume x air s).humidity = s.humidity
      ∧ (accrueVolume x air s).lines = s.lines ∧ (accrueVolume x air s).events = s.events
      ∧ (accrueVolume x air s).link = s.link ∧ (accrueVolume x air s).pending = s.pending := by
  dsimp only [accrueVolume]
  (repeat' split) <;> simp

@[simp] theorem accrueMinute_frame (x : Stream) (b : Bool) (s : State) :
    (accrueMinute x b s).powered = s.powered ∧ (accrueMinute x b s).settings = s.settings
      ∧ (accrueMinute x b s).store = s.store ∧ (accrueMinute x b s).measurement = s.measurement
      ∧ (accrueMinute x b s).loops = s.loops ∧ (accrueMinute x b s).demand = s.demand
      ∧ (accrueMinute x b s).governor = s.governor ∧ (accrueMinute x b s).frost = s.frost
      ∧ (accrueMinute x b s).bus = s.bus ∧ (accrueMinute x b s).humidity = s.humidity
      ∧ (accrueMinute x b s).lines = s.lines ∧ (accrueMinute x b s).events = s.events
      ∧ (accrueMinute x b s).link = s.link ∧ (accrueMinute x b s).pending = s.pending := by
  dsimp only [accrueMinute]
  (repeat' split) <;> simp

@[simp] theorem openGate_frame (s : State) :
    (openGate s).powered = s.powered ∧ (openGate s).settings = s.settings ∧ (openGate s).store = s.store
      ∧ (openGate s).measurement = s.measurement ∧ (openGate s).loops = s.loops ∧ (openGate s).demand = s.demand
      ∧ (openGate s).governor = s.governor ∧ (openGate s).frost = s.frost ∧ (openGate s).bus = s.bus
      ∧ (openGate s).humidity = s.humidity ∧ (openGate s).lines = s.lines ∧ (openGate s).events = s.events
      ∧ (openGate s).link = s.link ∧ (openGate s).pending = s.pending := by
  simp [openGate]

@[simp] theorem takeSample_frame (x : Stream) (v : Nat) (s : State) :
    (takeSample x v s).powered = s.powered ∧ (takeSample x v s).settings = s.settings
      ∧ (takeSample x v s).store = s.store ∧ (takeSample x v s).measurement = s.measurement
      ∧ (takeSample x v s).loops = s.loops ∧ (takeSample x v s).demand = s.demand
      ∧ (takeSample x v s).governor = s.governor ∧ (takeSample x v s).frost = s.frost
      ∧ (takeSample x v s).bus = s.bus ∧ (takeSample x v s).humidity = s.humidity
      ∧ (takeSample x v s).lines = s.lines ∧ (takeSample x v s).events = s.events
      ∧ (takeSample x v s).link = s.link ∧ (takeSample x v s).pending = s.pending := by
  simp [takeSample]

@[simp] theorem filterMinuteWork_frame (p : PerStream Bool) (s : State) :
    (filterMinuteWork p s).powered = s.powered ∧ (filterMinuteWork p s).settings = s.settings
      ∧ (filterMinuteWork p s).store = s.store ∧ (filterMinuteWork p s).measurement = s.measurement
      ∧ (filterMinuteWork p s).loops = s.loops ∧ (filterMinuteWork p s).demand = s.demand
      ∧ (filterMinuteWork p s).governor = s.governor ∧ (filterMinuteWork p s).frost = s.frost
      ∧ (filterMinuteWork p s).bus = s.bus ∧ (filterMinuteWork p s).humidity = s.humidity
      ∧ (filterMinuteWork p s).pending = s.pending := by
  dsimp only [filterMinuteWork]
  simp

@[simp] theorem abortCapture_frame (c : CaptureCause) (s : State) :
    (abortCapture c s).powered = s.powered ∧ (abortCapture c s).settings = s.settings
      ∧ (abortCapture c s).store = s.store ∧ (abortCapture c s).measurement = s.measurement
      ∧ (abortCapture c s).loops = s.loops ∧ (abortCapture c s).bus = s.bus
      ∧ (abortCapture c s).humidity = s.humidity ∧ (abortCapture c s).pending = s.pending := by
  dsimp only [abortCapture]
  (repeat' split) <;> simp

@[simp] theorem endCaptureRun_frame (s : State) :
    (endCaptureRun s).powered = s.powered ∧ (endCaptureRun s).settings = s.settings
      ∧ (endCaptureRun s).store = s.store ∧ (endCaptureRun s).measurement = s.measurement
      ∧ (endCaptureRun s).loops = s.loops ∧ (endCaptureRun s).bus = s.bus ∧ (endCaptureRun s).humidity = s.humidity
      ∧ (endCaptureRun s).pending = s.pending := by
  dsimp only [endCaptureRun]
  (repeat' split) <;> simp

@[simp] theorem passToRun_frame (b : Bool) (s : State) :
    (passToRun b s).powered = s.powered ∧ (passToRun b s).settings = s.settings ∧ (passToRun b s).store = s.store
      ∧ (passToRun b s).measurement = s.measurement ∧ (passToRun b s).loops = s.loops ∧ (passToRun b s).bus = s.bus
      ∧ (passToRun b s).humidity = s.humidity ∧ (passToRun b s).lines = s.lines ∧ (passToRun b s).events = s.events
      ∧ (passToRun b s).link = s.link ∧ (passToRun b s).pending = s.pending := by
  dsimp only [passToRun]
  (repeat' split) <;> simp

@[simp] theorem countWindow_frame (x : Stream) (s : State) :
    (countWindow x s).powered = s.powered ∧ (countWindow x s).settings = s.settings
      ∧ (countWindow x s).store = s.store ∧ (countWindow x s).measurement = s.measurement
      ∧ (countWindow x s).loops = s.loops ∧ (countWindow x s).demand = s.demand
      ∧ (countWindow x s).governor = s.governor ∧ (countWindow x s).frost = s.frost ∧ (countWindow x s).bus = s.bus
      ∧ (countWindow x s).humidity = s.humidity ∧ (countWindow x s).lines = s.lines
      ∧ (countWindow x s).events = s.events ∧ (countWindow x s).link = s.link
      ∧ (countWindow x s).pending = s.pending := by
  dsimp only [countWindow]
  (repeat' split) <;> simp

@[simp] theorem filterWindowEnd_frame (x : Stream) (w : WindowFigures) (s : State) :
    (filterWindowEnd x w s).powered = s.powered
      ∧ (filterWindowEnd x w s).settings = s.settings
      ∧ (filterWindowEnd x w s).store = s.store
      ∧ (filterWindowEnd x w s).measurement = s.measurement
      ∧ (filterWindowEnd x w s).loops = s.loops ∧ (filterWindowEnd x w s).bus = s.bus
      ∧ (filterWindowEnd x w s).humidity = s.humidity
      ∧ (filterWindowEnd x w s).lines = s.lines ∧ (filterWindowEnd x w s).events = s.events
      ∧ (filterWindowEnd x w s).link = s.link ∧ (filterWindowEnd x w s).pending = s.pending := by
  dsimp only [filterWindowEnd]
  (repeat' split) <;> simp

@[simp] theorem filterLoopChange_frame (x : Stream) (b a : LoopState) (s : State) :
    (filterLoopChange x b a s).powered = s.powered ∧ (filterLoopChange x b a s).settings = s.settings
      ∧ (filterLoopChange x b a s).store = s.store ∧ (filterLoopChange x b a s).measurement = s.measurement
      ∧ (filterLoopChange x b a s).loops = s.loops ∧ (filterLoopChange x b a s).demand = s.demand
      ∧ (filterLoopChange x b a s).governor = s.governor ∧ (filterLoopChange x b a s).frost = s.frost
      ∧ (filterLoopChange x b a s).bus = s.bus ∧ (filterLoopChange x b a s).humidity = s.humidity
      ∧ (filterLoopChange x b a s).lines = s.lines ∧ (filterLoopChange x b a s).events = s.events
      ∧ (filterLoopChange x b a s).link = s.link ∧ (filterLoopChange x b a s).pending = s.pending := by
  dsimp only [filterLoopChange]
  (repeat' split) <;> simp

@[simp] theorem lockOutExpired_frame (x : Stream) (s : State) :
    (lockOutExpired x s).powered = s.powered ∧ (lockOutExpired x s).settings = s.settings
      ∧ (lockOutExpired x s).store = s.store ∧ (lockOutExpired x s).measurement = s.measurement
      ∧ (lockOutExpired x s).loops = s.loops ∧ (lockOutExpired x s).bus = s.bus
      ∧ (lockOutExpired x s).humidity = s.humidity ∧ (lockOutExpired x s).pending = s.pending := by
  dsimp only [lockOutExpired]
  (repeat' split) <;> simp

@[simp] theorem filterChannelFailed_frame (x : Stream) (s : State) :
    (filterChannelFailed x s).powered = s.powered ∧ (filterChannelFailed x s).settings = s.settings
      ∧ (filterChannelFailed x s).store = s.store ∧ (filterChannelFailed x s).measurement = s.measurement
      ∧ (filterChannelFailed x s).loops = s.loops ∧ (filterChannelFailed x s).bus = s.bus
      ∧ (filterChannelFailed x s).humidity = s.humidity ∧ (filterChannelFailed x s).pending = s.pending := by
  dsimp only [filterChannelFailed]
  (repeat' split) <;> simp

@[simp] theorem startCapture_frame (n : PerStream Bool) (s : State) :
    (startCapture n s).powered = s.powered ∧ (startCapture n s).settings = s.settings
      ∧ (startCapture n s).store = s.store ∧ (startCapture n s).measurement = s.measurement
      ∧ (startCapture n s).loops = s.loops ∧ (startCapture n s).bus = s.bus
      ∧ (startCapture n s).humidity = s.humidity ∧ (startCapture n s).lines = s.lines
      ∧ (startCapture n s).events = s.events ∧ (startCapture n s).link = s.link
      ∧ (startCapture n s).pending = s.pending := by
  dsimp only [startCapture]
  simp

@[simp] theorem serveFilter_frame (req : FilterRequest) (s : State) :
    (serveFilter req s).2.powered = s.powered ∧ (serveFilter req s).2.settings = s.settings
      ∧ (serveFilter req s).2.store = s.store ∧ (serveFilter req s).2.measurement = s.measurement
      ∧ (serveFilter req s).2.loops = s.loops ∧ (serveFilter req s).2.bus = s.bus
      ∧ (serveFilter req s).2.humidity = s.humidity ∧ (serveFilter req s).2.lines = s.lines
      ∧ (serveFilter req s).2.events = s.events ∧ (serveFilter req s).2.link = s.link
      ∧ (serveFilter req s).2.pending = s.pending := by
  cases req <;> dsimp only [serveFilter, serveFilterRead, serveFilterChanged, serveStartReport] <;>
    (repeat' split) <;> simp

@[simp] theorem filterTake_frame (e : FilterEvent) (s : State) :
    (filterTake e s).powered = s.powered ∧ (filterTake e s).settings = s.settings
      ∧ (filterTake e s).store = s.store ∧ (filterTake e s).measurement = s.measurement
      ∧ (filterTake e s).loops = s.loops ∧ (filterTake e s).bus = s.bus ∧ (filterTake e s).humidity = s.humidity
      ∧ (filterTake e s).pending = s.pending := by
  dsimp only [filterTake]
  (repeat' split) <;> simp

@[simp] theorem filterPost_frame (e : FilterEvent) (s : State) :
    (filterPost e s).powered = s.powered ∧ (filterPost e s).settings = s.settings
      ∧ (filterPost e s).store = s.store ∧ (filterPost e s).measurement = s.measurement
      ∧ (filterPost e s).loops = s.loops ∧ (filterPost e s).bus = s.bus ∧ (filterPost e s).humidity = s.humidity
      ∧ (filterPost e s).pending = s.pending := by
  dsimp only [filterPost]
  (repeat' split) <;> simp

@[simp] theorem reportLoopChange_frame (x : Stream) (b a : LoopState) (s : State) :
    (reportLoopChange x b a s).powered = s.powered ∧ (reportLoopChange x b a s).settings = s.settings
      ∧ (reportLoopChange x b a s).store = s.store ∧ (reportLoopChange x b a s).loops = s.loops
      ∧ (reportLoopChange x b a s).bus = s.bus ∧ (reportLoopChange x b a s).humidity = s.humidity
      ∧ (reportLoopChange x b a s).pending = s.pending := by
  dsimp only [reportLoopChange]
  (repeat' split) <;> simp

@[simp] theorem offer_frame (x : Stream) (t : Nat) (s : State) :
    (offer x t s).powered = s.powered ∧ (offer x t s).settings = s.settings ∧ (offer x t s).store = s.store
      ∧ (offer x t s).bus = s.bus ∧ (offer x t s).humidity = s.humidity ∧ (offer x t s).pending = s.pending := by
  dsimp only [offer]
  (repeat' split) <;> simp

@[simp] theorem setTargets_frame (a b : Nat) (s : State) :
    (setTargets a b s).powered = s.powered ∧ (setTargets a b s).settings = s.settings
      ∧ (setTargets a b s).store = s.store ∧ (setTargets a b s).bus = s.bus
      ∧ (setTargets a b s).humidity = s.humidity ∧ (setTargets a b s).pending = s.pending := by
  dsimp only [setTargets]
  simp

@[simp] theorem restGuard_frame (s : State) :
    (restGuard s).powered = s.powered ∧ (restGuard s).settings = s.settings ∧ (restGuard s).store = s.store
      ∧ (restGuard s).loops = s.loops ∧ (restGuard s).demand = s.demand ∧ (restGuard s).filter = s.filter
      ∧ (restGuard s).bus = s.bus ∧ (restGuard s).humidity = s.humidity ∧ (restGuard s).pending = s.pending := by
  dsimp only [restGuard]
  (repeat' split) <;> simp

@[simp] theorem guardRunReport_frame (rs : RunState) (s : State) :
    (guardRunReport rs s).powered = s.powered ∧ (guardRunReport rs s).settings = s.settings
      ∧ (guardRunReport rs s).store = s.store ∧ (guardRunReport rs s).loops = s.loops
      ∧ (guardRunReport rs s).demand = s.demand ∧ (guardRunReport rs s).filter = s.filter
      ∧ (guardRunReport rs s).bus = s.bus ∧ (guardRunReport rs s).humidity = s.humidity
      ∧ (guardRunReport rs s).pending = s.pending := by
  cases rs <;> simp [guardRunReport]

@[simp] theorem changeRunStateWith_frame (rs : RunState) (os : List (EventKind × Source)) (s : State) :
    (changeRunStateWith rs os s).powered = s.powered ∧ (changeRunStateWith rs os s).settings = s.settings
      ∧ (changeRunStateWith rs os s).store = s.store ∧ (changeRunStateWith rs os s).bus = s.bus
      ∧ (changeRunStateWith rs os s).humidity = s.humidity ∧ (changeRunStateWith rs os s).pending = s.pending := by
  dsimp only [changeRunStateWith]
  (repeat' split) <;> simp

@[simp] theorem changeRunState_frame (rs : RunState) (s : State) :
    (changeRunState rs s).powered = s.powered ∧ (changeRunState rs s).settings = s.settings
      ∧ (changeRunState rs s).store = s.store ∧ (changeRunState rs s).bus = s.bus
      ∧ (changeRunState rs s).humidity = s.humidity ∧ (changeRunState rs s).pending = s.pending := by
  dsimp only [changeRunState]
  simp

@[simp] theorem smokeActiveReport_frame (l : Line) (s : State) :
    (smokeActiveReport l s).powered = s.powered ∧ (smokeActiveReport l s).settings = s.settings
      ∧ (smokeActiveReport l s).store = s.store ∧ (smokeActiveReport l s).bus = s.bus
      ∧ (smokeActiveReport l s).humidity = s.humidity ∧ (smokeActiveReport l s).pending = s.pending := by
  dsimp only [smokeActiveReport]
  (repeat' split) <;> simp

@[simp] theorem smokeInactiveReport_frame (l : Line) (s : State) :
    (smokeInactiveReport l s).powered = s.powered ∧ (smokeInactiveReport l s).settings = s.settings
      ∧ (smokeInactiveReport l s).store = s.store ∧ (smokeInactiveReport l s).measurement = s.measurement
      ∧ (smokeInactiveReport l s).loops = s.loops ∧ (smokeInactiveReport l s).governor = s.governor
      ∧ (smokeInactiveReport l s).frost = s.frost ∧ (smokeInactiveReport l s).filter = s.filter
      ∧ (smokeInactiveReport l s).bus = s.bus ∧ (smokeInactiveReport l s).humidity = s.humidity
      ∧ (smokeInactiveReport l s).lines = s.lines ∧ (smokeInactiveReport l s).events = s.events
      ∧ (smokeInactiveReport l s).link = s.link ∧ (smokeInactiveReport l s).pending = s.pending := by
  dsimp only [smokeInactiveReport]
  (repeat' split) <;> simp

@[simp] theorem loopFailedReport_frame (s : State) :
    (loopFailedReport s).powered = s.powered ∧ (loopFailedReport s).settings = s.settings
      ∧ (loopFailedReport s).store = s.store ∧ (loopFailedReport s).bus = s.bus
      ∧ (loopFailedReport s).humidity = s.humidity ∧ (loopFailedReport s).pending = s.pending := by
  dsimp only [loopFailedReport]
  (repeat' split) <;> simp

@[simp] theorem enterDefrost_frame (s : State) :
    (enterDefrost s).powered = s.powered ∧ (enterDefrost s).settings = s.settings
      ∧ (enterDefrost s).store = s.store ∧ (enterDefrost s).loops = s.loops ∧ (enterDefrost s).bus = s.bus
      ∧ (enterDefrost s).humidity = s.humidity ∧ (enterDefrost s).pending = s.pending := by
  dsimp only [enterDefrost]
  simp

@[simp] theorem enterFrostStop_frame (s : State) :
    (enterFrostStop s).powered = s.powered ∧ (enterFrostStop s).settings = s.settings
      ∧ (enterFrostStop s).store = s.store ∧ (enterFrostStop s).bus = s.bus
      ∧ (enterFrostStop s).humidity = s.humidity ∧ (enterFrostStop s).pending = s.pending := by
  dsimp only [enterFrostStop]
  (repeat' split) <;> simp

@[simp] theorem enterBlind_frame (s : State) :
    (enterBlind s).powered = s.powered ∧ (enterBlind s).settings = s.settings ∧ (enterBlind s).store = s.store
      ∧ (enterBlind s).loops = s.loops ∧ (enterBlind s).demand = s.demand ∧ (enterBlind s).filter = s.filter
      ∧ (enterBlind s).bus = s.bus ∧ (enterBlind s).humidity = s.humidity ∧ (enterBlind s).pending = s.pending := by
  dsimp only [enterBlind]
  simp

@[simp] theorem leaveDefrost_frame (s : State) :
    (leaveDefrost s).powered = s.powered ∧ (leaveDefrost s).settings = s.settings
      ∧ (leaveDefrost s).store = s.store ∧ (leaveDefrost s).loops = s.loops ∧ (leaveDefrost s).demand = s.demand
      ∧ (leaveDefrost s).filter = s.filter ∧ (leaveDefrost s).bus = s.bus ∧ (leaveDefrost s).humidity = s.humidity
      ∧ (leaveDefrost s).pending = s.pending := by
  dsimp only [leaveDefrost]
  simp

@[simp] theorem endDefrost_frame (s : State) :
    (endDefrost s).powered = s.powered ∧ (endDefrost s).settings = s.settings ∧ (endDefrost s).store = s.store
      ∧ (endDefrost s).bus = s.bus ∧ (endDefrost s).humidity = s.humidity ∧ (endDefrost s).pending = s.pending := by
  dsimp only [endDefrost]
  (repeat' split) <;> simp

@[simp] theorem leaveBlind_frame (s : State) :
    (leaveBlind s).powered = s.powered ∧ (leaveBlind s).settings = s.settings ∧ (leaveBlind s).store = s.store
      ∧ (leaveBlind s).loops = s.loops ∧ (leaveBlind s).demand = s.demand ∧ (leaveBlind s).governor = s.governor
      ∧ (leaveBlind s).filter = s.filter ∧ (leaveBlind s).bus = s.bus ∧ (leaveBlind s).humidity = s.humidity
      ∧ (leaveBlind s).pending = s.pending := by
  dsimp only [leaveBlind]
  simp

@[simp] theorem exhausted_frame (s : State) :
    (exhausted s).powered = s.powered ∧ (exhausted s).settings = s.settings ∧ (exhausted s).store = s.store
      ∧ (exhausted s).measurement = s.measurement ∧ (exhausted s).loops = s.loops ∧ (exhausted s).demand = s.demand
      ∧ (exhausted s).governor = s.governor ∧ (exhausted s).filter = s.filter ∧ (exhausted s).bus = s.bus
      ∧ (exhausted s).humidity = s.humidity ∧ (exhausted s).pending = s.pending := by
  dsimp only [exhausted]
  simp

@[simp] theorem chargeAllowance_frame (s : State) :
    (chargeAllowance s).powered = s.powered ∧ (chargeAllowance s).settings = s.settings
      ∧ (chargeAllowance s).store = s.store ∧ (chargeAllowance s).measurement = s.measurement
      ∧ (chargeAllowance s).loops = s.loops ∧ (chargeAllowance s).demand = s.demand
      ∧ (chargeAllowance s).filter = s.filter ∧ (chargeAllowance s).bus = s.bus
      ∧ (chargeAllowance s).humidity = s.humidity ∧ (chargeAllowance s).pending = s.pending := by
  dsimp only [chargeAllowance]
  (repeat' split) <;> simp

@[simp] theorem recoverAllowance_frame (s : State) :
    (recoverAllowance s).powered = s.powered ∧ (recoverAllowance s).settings = s.settings
      ∧ (recoverAllowance s).store = s.store ∧ (recoverAllowance s).measurement = s.measurement
      ∧ (recoverAllowance s).loops = s.loops ∧ (recoverAllowance s).demand = s.demand
      ∧ (recoverAllowance s).frost = s.frost ∧ (recoverAllowance s).filter = s.filter
      ∧ (recoverAllowance s).bus = s.bus ∧ (recoverAllowance s).humidity = s.humidity
      ∧ (recoverAllowance s).lines = s.lines ∧ (recoverAllowance s).events = s.events
      ∧ (recoverAllowance s).link = s.link ∧ (recoverAllowance s).pending = s.pending := by
  simp [recoverAllowance]

@[simp] theorem judgeAllowance_frame (s : State) :
    (judgeAllowance s).powered = s.powered ∧ (judgeAllowance s).settings = s.settings
      ∧ (judgeAllowance s).store = s.store ∧ (judgeAllowance s).measurement = s.measurement
      ∧ (judgeAllowance s).loops = s.loops ∧ (judgeAllowance s).demand = s.demand
      ∧ (judgeAllowance s).filter = s.filter ∧ (judgeAllowance s).bus = s.bus
      ∧ (judgeAllowance s).humidity = s.humidity ∧ (judgeAllowance s).pending = s.pending := by
  dsimp only [judgeAllowance]
  (repeat' split) <;> simp

@[simp] theorem stepSetTargets_frame (s : State) :
    (stepSetTargets s).powered = s.powered ∧ (stepSetTargets s).settings = s.settings
      ∧ (stepSetTargets s).store = s.store ∧ (stepSetTargets s).bus = s.bus
      ∧ (stepSetTargets s).humidity = s.humidity ∧ (stepSetTargets s).pending = s.pending := by
  dsimp only [stepSetTargets]
  (repeat' split) <;> simp

@[simp] theorem governorStep_frame (s : State) :
    (governorStep s).powered = s.powered ∧ (governorStep s).settings = s.settings
      ∧ (governorStep s).store = s.store ∧ (governorStep s).bus = s.bus ∧ (governorStep s).humidity = s.humidity
      ∧ (governorStep s).pending = s.pending := by
  dsimp only [governorStep]
  simp

@[simp] theorem reportTransition_frame (x : Stream) (b a : LoopRec) (s : State) :
    (reportTransition x b a s).powered = s.powered ∧ (reportTransition x b a s).settings = s.settings
      ∧ (reportTransition x b a s).store = s.store ∧ (reportTransition x b a s).bus = s.bus
      ∧ (reportTransition x b a s).humidity = s.humidity ∧ (reportTransition x b a s).pending = s.pending := by
  dsimp only [reportTransition]
  (repeat' split) <;> simp

@[simp] theorem handWindowEnd_frame (x : Stream) (s : State) :
    (handWindowEnd x s).powered = s.powered ∧ (handWindowEnd x s).settings = s.settings
      ∧ (handWindowEnd x s).store = s.store ∧ (handWindowEnd x s).bus = s.bus
      ∧ (handWindowEnd x s).humidity = s.humidity ∧ (handWindowEnd x s).pending = s.pending := by
  dsimp only [handWindowEnd]
  (repeat' split) <;> simp

@[simp] theorem windowEnd_frame (x : Stream) (s : State) :
    (windowEnd x s).powered = s.powered ∧ (windowEnd x s).settings = s.settings ∧ (windowEnd x s).store = s.store
      ∧ (windowEnd x s).bus = s.bus ∧ (windowEnd x s).humidity = s.humidity ∧ (windowEnd x s).pending = s.pending := by
  dsimp only [windowEnd]
  simp

@[simp] theorem enterPreheat_frame (p : Nat) (s : State) :
    (enterPreheat p s).powered = s.powered ∧ (enterPreheat p s).settings = s.settings
      ∧ (enterPreheat p s).store = s.store ∧ (enterPreheat p s).loops = s.loops
      ∧ (enterPreheat p s).demand = s.demand ∧ (enterPreheat p s).governor = s.governor
      ∧ (enterPreheat p s).filter = s.filter ∧ (enterPreheat p s).bus = s.bus
      ∧ (enterPreheat p s).humidity = s.humidity ∧ (enterPreheat p s).pending = s.pending := by
  dsimp only [enterPreheat]
  simp

@[simp] theorem idleRule_frame (s : State) :
    (idleRule s).powered = s.powered ∧ (idleRule s).settings = s.settings ∧ (idleRule s).store = s.store
      ∧ (idleRule s).measurement = s.measurement ∧ (idleRule s).loops = s.loops ∧ (idleRule s).demand = s.demand
      ∧ (idleRule s).governor = s.governor ∧ (idleRule s).filter = s.filter ∧ (idleRule s).bus = s.bus
      ∧ (idleRule s).humidity = s.humidity ∧ (idleRule s).pending = s.pending := by
  dsimp only [idleRule]
  (repeat' split) <;> simp

@[simp] theorem watchRunRule_frame (s : State) :
    (watchRunRule s).powered = s.powered ∧ (watchRunRule s).settings = s.settings
      ∧ (watchRunRule s).store = s.store ∧ (watchRunRule s).loops = s.loops ∧ (watchRunRule s).demand = s.demand
      ∧ (watchRunRule s).governor = s.governor ∧ (watchRunRule s).filter = s.filter ∧ (watchRunRule s).bus = s.bus
      ∧ (watchRunRule s).humidity = s.humidity ∧ (watchRunRule s).pending = s.pending := by
  dsimp only [watchRunRule]
  (repeat' split) <;> simp

@[simp] theorem watchRule_frame (s : State) :
    (watchRule s).powered = s.powered ∧ (watchRule s).settings = s.settings ∧ (watchRule s).store = s.store
      ∧ (watchRule s).loops = s.loops ∧ (watchRule s).demand = s.demand ∧ (watchRule s).governor = s.governor
      ∧ (watchRule s).filter = s.filter ∧ (watchRule s).bus = s.bus ∧ (watchRule s).humidity = s.humidity
      ∧ (watchRule s).pending = s.pending := by
  dsimp only [watchRule]
  (repeat' split) <;> simp

@[simp] theorem escalate_frame (s : State) :
    (escalate s).powered = s.powered ∧ (escalate s).settings = s.settings ∧ (escalate s).store = s.store
      ∧ (escalate s).bus = s.bus ∧ (escalate s).humidity = s.humidity ∧ (escalate s).pending = s.pending := by
  dsimp only [escalate]
  (repeat' split) <;> simp

@[simp] theorem judgeEscalation_frame (t : Int) (s : State) :
    (judgeEscalation t s).powered = s.powered ∧ (judgeEscalation t s).settings = s.settings
      ∧ (judgeEscalation t s).store = s.store ∧ (judgeEscalation t s).bus = s.bus
      ∧ (judgeEscalation t s).humidity = s.humidity ∧ (judgeEscalation t s).pending = s.pending := by
  dsimp only [judgeEscalation]
  (repeat' split) <;> simp

@[simp] theorem preheatNormal_frame (t : Int) (s : State) :
    (preheatNormal t s).powered = s.powered ∧ (preheatNormal t s).settings = s.settings
      ∧ (preheatNormal t s).store = s.store ∧ (preheatNormal t s).bus = s.bus
      ∧ (preheatNormal t s).humidity = s.humidity ∧ (preheatNormal t s).pending = s.pending := by
  dsimp only [preheatNormal]
  (repeat' split) <;> simp

@[simp] theorem preheatDegraded_frame (t : Int) (s : State) :
    (preheatDegraded t s).powered = s.powered ∧ (preheatDegraded t s).settings = s.settings
      ∧ (preheatDegraded t s).store = s.store ∧ (preheatDegraded t s).loops = s.loops
      ∧ (preheatDegraded t s).demand = s.demand ∧ (preheatDegraded t s).governor = s.governor
      ∧ (preheatDegraded t s).filter = s.filter ∧ (preheatDegraded t s).bus = s.bus
      ∧ (preheatDegraded t s).humidity = s.humidity ∧ (preheatDegraded t s).pending = s.pending := by
  dsimp only [preheatDegraded]
  (repeat' split) <;> simp

@[simp] theorem preheatRule_frame (s : State) :
    (preheatRule s).powered = s.powered ∧ (preheatRule s).settings = s.settings ∧ (preheatRule s).store = s.store
      ∧ (preheatRule s).bus = s.bus ∧ (preheatRule s).humidity = s.humidity ∧ (preheatRule s).pending = s.pending := by
  dsimp only [preheatRule]
  (repeat' split) <;> simp

@[simp] theorem defrostRule_frame (s : State) :
    (defrostRule s).powered = s.powered ∧ (defrostRule s).settings = s.settings ∧ (defrostRule s).store = s.store
      ∧ (defrostRule s).loops = s.loops ∧ (defrostRule s).demand = s.demand ∧ (defrostRule s).filter = s.filter
      ∧ (defrostRule s).bus = s.bus ∧ (defrostRule s).humidity = s.humidity ∧ (defrostRule s).pending = s.pending := by
  dsimp only [defrostRule]
  (repeat' split) <;> simp

@[simp] theorem blindRule_frame (b : Bool) (s : State) :
    (blindRule b s).powered = s.powered ∧ (blindRule b s).settings = s.settings ∧ (blindRule b s).store = s.store
      ∧ (blindRule b s).loops = s.loops ∧ (blindRule b s).demand = s.demand ∧ (blindRule b s).governor = s.governor
      ∧ (blindRule b s).filter = s.filter ∧ (blindRule b s).bus = s.bus ∧ (blindRule b s).humidity = s.humidity
      ∧ (blindRule b s).pending = s.pending := by
  dsimp only [blindRule]
  (repeat' split) <;> simp

@[simp] theorem stateRule_frame (b : Bool) (s : State) :
    (stateRule b s).powered = s.powered ∧ (stateRule b s).settings = s.settings ∧ (stateRule b s).store = s.store
      ∧ (stateRule b s).bus = s.bus ∧ (stateRule b s).humidity = s.humidity ∧ (stateRule b s).pending = s.pending := by
  dsimp only [stateRule]
  (repeat' split) <;> simp

@[simp] theorem judgePeriod_frame (s : State) :
    (judgePeriod s).powered = s.powered ∧ (judgePeriod s).settings = s.settings ∧ (judgePeriod s).store = s.store
      ∧ (judgePeriod s).bus = s.bus ∧ (judgePeriod s).humidity = s.humidity ∧ (judgePeriod s).pending = s.pending := by
  dsimp only [judgePeriod]
  (repeat' split) <;> simp

@[simp] theorem startCycle_frame (s : State) :
    (startCycle s).powered = s.powered ∧ (startCycle s).settings = s.settings ∧ (startCycle s).store = s.store
      ∧ (startCycle s).measurement = s.measurement ∧ (startCycle s).loops = s.loops
      ∧ (startCycle s).demand = s.demand ∧ (startCycle s).governor = s.governor ∧ (startCycle s).filter = s.filter
      ∧ (startCycle s).bus = s.bus ∧ (startCycle s).humidity = s.humidity ∧ (startCycle s).lines = s.lines
      ∧ (startCycle s).events = s.events ∧ (startCycle s).link = s.link ∧ (startCycle s).pending = s.pending := by
  simp [startCycle]

@[simp] theorem frostPeriod_frame (s : State) :
    (frostPeriod s).powered = s.powered ∧ (frostPeriod s).settings = s.settings ∧ (frostPeriod s).store = s.store
      ∧ (frostPeriod s).bus = s.bus ∧ (frostPeriod s).humidity = s.humidity ∧ (frostPeriod s).pending = s.pending := by
  dsimp only [frostPeriod]
  simp

@[simp] theorem endOnTime_frame (s : State) :
    (endOnTime s).powered = s.powered ∧ (endOnTime s).settings = s.settings ∧ (endOnTime s).store = s.store
      ∧ (endOnTime s).measurement = s.measurement ∧ (endOnTime s).loops = s.loops ∧ (endOnTime s).demand = s.demand
      ∧ (endOnTime s).governor = s.governor ∧ (endOnTime s).filter = s.filter ∧ (endOnTime s).bus = s.bus
      ∧ (endOnTime s).humidity = s.humidity ∧ (endOnTime s).lines = s.lines ∧ (endOnTime s).events = s.events
      ∧ (endOnTime s).link = s.link ∧ (endOnTime s).pending = s.pending := by
  dsimp only [endOnTime]
  (repeat' split) <;> simp

@[simp] theorem takeExhaustion_frame (s : State) :
    (takeExhaustion s).powered = s.powered ∧ (takeExhaustion s).settings = s.settings
      ∧ (takeExhaustion s).store = s.store ∧ (takeExhaustion s).bus = s.bus
      ∧ (takeExhaustion s).humidity = s.humidity ∧ (takeExhaustion s).pending = s.pending := by
  dsimp only [takeExhaustion]
  simp

@[simp] theorem frostExitReport_frame (s : State) :
    (frostExitReport s).powered = s.powered ∧ (frostExitReport s).settings = s.settings
      ∧ (frostExitReport s).store = s.store ∧ (frostExitReport s).bus = s.bus
      ∧ (frostExitReport s).humidity = s.humidity ∧ (frostExitReport s).pending = s.pending := by
  dsimp only [frostExitReport]
  (repeat' split) <;> simp

@[simp] theorem endFrostStop_frame (s : State) :
    (endFrostStop s).powered = s.powered ∧ (endFrostStop s).settings = s.settings
      ∧ (endFrostStop s).store = s.store ∧ (endFrostStop s).bus = s.bus ∧ (endFrostStop s).humidity = s.humidity
      ∧ (endFrostStop s).pending = s.pending := by
  dsimp only [endFrostStop]
  (repeat' split) <;> simp

@[simp] theorem guardAbsentReport_frame (c : Channel) (s : State) :
    (guardAbsentReport c s).powered = s.powered ∧ (guardAbsentReport c s).settings = s.settings
      ∧ (guardAbsentReport c s).store = s.store ∧ (guardAbsentReport c s).loops = s.loops
      ∧ (guardAbsentReport c s).demand = s.demand ∧ (guardAbsentReport c s).filter = s.filter
      ∧ (guardAbsentReport c s).bus = s.bus ∧ (guardAbsentReport c s).humidity = s.humidity
      ∧ (guardAbsentReport c s).pending = s.pending := by
  dsimp only [guardAbsentReport]
  (repeat' split) <;> simp

@[simp] theorem guardPresentReport_frame (c : Channel) (s : State) :
    (guardPresentReport c s).powered = s.powered ∧ (guardPresentReport c s).settings = s.settings
      ∧ (guardPresentReport c s).store = s.store ∧ (guardPresentReport c s).loops = s.loops
      ∧ (guardPresentReport c s).demand = s.demand ∧ (guardPresentReport c s).governor = s.governor
      ∧ (guardPresentReport c s).filter = s.filter ∧ (guardPresentReport c s).bus = s.bus
      ∧ (guardPresentReport c s).humidity = s.humidity ∧ (guardPresentReport c s).pending = s.pending := by
  dsimp only [guardPresentReport]
  (repeat' split) <;> simp

@[simp] theorem guardChannelReport_frame (c : Channel) (b a : ChannelRec) (s : State) :
    (guardChannelReport c b a s).powered = s.powered ∧ (guardChannelReport c b a s).settings = s.settings
      ∧ (guardChannelReport c b a s).store = s.store ∧ (guardChannelReport c b a s).loops = s.loops
      ∧ (guardChannelReport c b a s).demand = s.demand ∧ (guardChannelReport c b a s).filter = s.filter
      ∧ (guardChannelReport c b a s).bus = s.bus ∧ (guardChannelReport c b a s).humidity = s.humidity
      ∧ (guardChannelReport c b a s).pending = s.pending := by
  dsimp only [guardChannelReport]
  (repeat' split) <;> simp

@[simp] theorem addSamples_frame (codes : PerChannel Code) (s : State) :
    (addSamples codes s).powered = s.powered ∧ (addSamples codes s).settings = s.settings
      ∧ (addSamples codes s).store = s.store ∧ (addSamples codes s).loops = s.loops
      ∧ (addSamples codes s).demand = s.demand ∧ (addSamples codes s).governor = s.governor
      ∧ (addSamples codes s).frost = s.frost ∧ (addSamples codes s).filter = s.filter
      ∧ (addSamples codes s).bus = s.bus ∧ (addSamples codes s).humidity = s.humidity
      ∧ (addSamples codes s).lines = s.lines ∧ (addSamples codes s).events = s.events
      ∧ (addSamples codes s).link = s.link ∧ (addSamples codes s).pending = s.pending := by
  simp [addSamples]

@[simp] theorem judgeEffectiveness_frame (s : State) :
    (judgeEffectiveness s).powered = s.powered ∧ (judgeEffectiveness s).settings = s.settings
      ∧ (judgeEffectiveness s).store = s.store ∧ (judgeEffectiveness s).loops = s.loops
      ∧ (judgeEffectiveness s).demand = s.demand ∧ (judgeEffectiveness s).governor = s.governor
      ∧ (judgeEffectiveness s).frost = s.frost ∧ (judgeEffectiveness s).filter = s.filter
      ∧ (judgeEffectiveness s).bus = s.bus ∧ (judgeEffectiveness s).humidity = s.humidity
      ∧ (judgeEffectiveness s).lines = s.lines ∧ (judgeEffectiveness s).events = s.events
      ∧ (judgeEffectiveness s).link = s.link ∧ (judgeEffectiveness s).pending = s.pending := by
  dsimp only [judgeEffectiveness]
  (repeat' split) <;> simp

@[simp] theorem judgeSeconds_frame (s : State) :
    (judgeSeconds s).powered = s.powered ∧ (judgeSeconds s).settings = s.settings ∧ (judgeSeconds s).store = s.store
      ∧ (judgeSeconds s).loops = s.loops ∧ (judgeSeconds s).demand = s.demand
      ∧ (judgeSeconds s).governor = s.governor ∧ (judgeSeconds s).frost = s.frost
      ∧ (judgeSeconds s).filter = s.filter ∧ (judgeSeconds s).bus = s.bus ∧ (judgeSeconds s).humidity = s.humidity
      ∧ (judgeSeconds s).lines = s.lines ∧ (judgeSeconds s).events = s.events ∧ (judgeSeconds s).link = s.link
      ∧ (judgeSeconds s).pending = s.pending := by
  simp [judgeSeconds]

@[simp] theorem countQuiet_frame (s : State) :
    (countQuiet s).powered = s.powered ∧ (countQuiet s).settings = s.settings ∧ (countQuiet s).store = s.store
      ∧ (countQuiet s).loops = s.loops ∧ (countQuiet s).demand = s.demand ∧ (countQuiet s).governor = s.governor
      ∧ (countQuiet s).frost = s.frost ∧ (countQuiet s).filter = s.filter ∧ (countQuiet s).bus = s.bus
      ∧ (countQuiet s).humidity = s.humidity ∧ (countQuiet s).lines = s.lines ∧ (countQuiet s).events = s.events
      ∧ (countQuiet s).link = s.link ∧ (countQuiet s).pending = s.pending := by
  simp [countQuiet]

@[simp] theorem judgeAll_frame (s : State) :
    (judgeAll s).powered = s.powered ∧ (judgeAll s).settings = s.settings ∧ (judgeAll s).store = s.store
      ∧ (judgeAll s).loops = s.loops ∧ (judgeAll s).demand = s.demand ∧ (judgeAll s).governor = s.governor
      ∧ (judgeAll s).frost = s.frost ∧ (judgeAll s).filter = s.filter ∧ (judgeAll s).bus = s.bus
      ∧ (judgeAll s).humidity = s.humidity ∧ (judgeAll s).lines = s.lines ∧ (judgeAll s).events = s.events
      ∧ (judgeAll s).link = s.link ∧ (judgeAll s).pending = s.pending := by
  dsimp only [judgeAll]
  simp

@[simp] theorem pressureReport_frame (x : Stream) (b a : ChannelRec) (s : State) :
    (pressureReport x b a s).powered = s.powered ∧ (pressureReport x b a s).settings = s.settings
      ∧ (pressureReport x b a s).store = s.store ∧ (pressureReport x b a s).measurement = s.measurement
      ∧ (pressureReport x b a s).loops = s.loops ∧ (pressureReport x b a s).bus = s.bus
      ∧ (pressureReport x b a s).humidity = s.humidity ∧ (pressureReport x b a s).pending = s.pending := by
  dsimp only [pressureReport]
  (repeat' split) <;> simp

@[simp] theorem reportChanges_frame (b a : PerChannel ChannelRec) (s : State) :
    (reportChanges b a s).powered = s.powered ∧ (reportChanges b a s).settings = s.settings
      ∧ (reportChanges b a s).store = s.store ∧ (reportChanges b a s).loops = s.loops
      ∧ (reportChanges b a s).bus = s.bus ∧ (reportChanges b a s).humidity = s.humidity
      ∧ (reportChanges b a s).pending = s.pending := by
  dsimp only [reportChanges]
  simp

@[simp] theorem leaveStartup_frame (s : State) :
    (leaveStartup s).powered = s.powered ∧ (leaveStartup s).settings = s.settings
      ∧ (leaveStartup s).store = s.store ∧ (leaveStartup s).bus = s.bus ∧ (leaveStartup s).humidity = s.humidity
      ∧ (leaveStartup s).pending = s.pending := by
  dsimp only [leaveStartup]
  (repeat' split) <;> simp

@[simp] theorem judgeClosed_frame (s : State) :
    (judgeClosed s).powered = s.powered ∧ (judgeClosed s).settings = s.settings ∧ (judgeClosed s).store = s.store
      ∧ (judgeClosed s).bus = s.bus ∧ (judgeClosed s).humidity = s.humidity ∧ (judgeClosed s).pending = s.pending := by
  dsimp only [judgeClosed]
  simp

@[simp] theorem secondEnd_frame (s : State) :
    (secondEnd s).powered = s.powered ∧ (secondEnd s).settings = s.settings ∧ (secondEnd s).store = s.store
      ∧ (secondEnd s).bus = s.bus ∧ (secondEnd s).humidity = s.humidity ∧ (secondEnd s).pending = s.pending := by
  dsimp only [secondEnd]
  (repeat' split) <;> simp

@[simp] theorem sampleAll_frame (codes : PerChannel Code) (s : State) :
    (sampleAll codes s).powered = s.powered ∧ (sampleAll codes s).settings = s.settings
      ∧ (sampleAll codes s).store = s.store ∧ (sampleAll codes s).bus = s.bus
      ∧ (sampleAll codes s).humidity = s.humidity ∧ (sampleAll codes s).pending = s.pending := by
  simp [sampleAll]

@[simp] theorem setLevel_frame (l : Level) (s : State) :
    (setLevel l s).powered = s.powered ∧ (setLevel l s).settings = s.settings ∧ (setLevel l s).store = s.store
      ∧ (setLevel l s).bus = s.bus ∧ (setLevel l s).pending = s.pending := by
  dsimp only [setLevel]
  (repeat' split) <;> simp

@[simp] theorem demandSecond_frame (s : State) :
    (demandSecond s).powered = s.powered ∧ (demandSecond s).settings = s.settings
      ∧ (demandSecond s).store = s.store ∧ (demandSecond s).measurement = s.measurement
      ∧ (demandSecond s).loops = s.loops ∧ (demandSecond s).filter = s.filter ∧ (demandSecond s).bus = s.bus
      ∧ (demandSecond s).humidity = s.humidity ∧ (demandSecond s).pending = s.pending := by
  dsimp only [demandSecond]
  (repeat' split) <;> simp

@[simp] theorem setPullTimer_frame (t : Nat) (s : State) :
    (setPullTimer t s).powered = s.powered ∧ (setPullTimer t s).settings = s.settings
      ∧ (setPullTimer t s).store = s.store ∧ (setPullTimer t s).measurement = s.measurement
      ∧ (setPullTimer t s).loops = s.loops ∧ (setPullTimer t s).filter = s.filter ∧ (setPullTimer t s).bus = s.bus
      ∧ (setPullTimer t s).humidity = s.humidity ∧ (setPullTimer t s).lines = s.lines
      ∧ (setPullTimer t s).events = s.events ∧ (setPullTimer t s).link = s.link
      ∧ (setPullTimer t s).pending = s.pending := by
  dsimp only [setPullTimer]
  simp

@[simp] theorem humidityEmptied_frame (k : Slot) (s : State) :
    (humidityEmptied k s).powered = s.powered ∧ (humidityEmptied k s).settings = s.settings
      ∧ (humidityEmptied k s).store = s.store ∧ (humidityEmptied k s).measurement = s.measurement
      ∧ (humidityEmptied k s).loops = s.loops ∧ (humidityEmptied k s).filter = s.filter
      ∧ (humidityEmptied k s).bus = s.bus ∧ (humidityEmptied k s).lines = s.lines
      ∧ (humidityEmptied k s).events = s.events ∧ (humidityEmptied k s).link = s.link
      ∧ (humidityEmptied k s).pending = s.pending := by
  dsimp only [humidityEmptied]
  (repeat' split) <;> simp

@[simp] theorem emptySlot_frame (k : Slot) (s : State) :
    (emptySlot k s).powered = s.powered ∧ (emptySlot k s).store = s.store
      ∧ (emptySlot k s).measurement = s.measurement ∧ (emptySlot k s).loops = s.loops
      ∧ (emptySlot k s).filter = s.filter ∧ (emptySlot k s).lines = s.lines ∧ (emptySlot k s).events = s.events
      ∧ (emptySlot k s).link = s.link ∧ (emptySlot k s).pending = s.pending := by
  dsimp only [emptySlot]
  simp

@[simp] theorem missSlot_frame (k : Slot) (r : SlotRec) (s : State) :
    (missSlot k r s).powered = s.powered ∧ (missSlot k r s).store = s.store
      ∧ (missSlot k r s).measurement = s.measurement ∧ (missSlot k r s).loops = s.loops
      ∧ (missSlot k r s).filter = s.filter ∧ (missSlot k r s).pending = s.pending := by
  dsimp only [missSlot]
  (repeat' split) <;> simp

@[simp] theorem goodSlot_frame (k : Slot) (a : List BusByte) (r : SlotRec) (s : State) :
    (goodSlot k a r s).powered = s.powered ∧ (goodSlot k a r s).settings = s.settings
      ∧ (goodSlot k a r s).store = s.store ∧ (goodSlot k a r s).measurement = s.measurement
      ∧ (goodSlot k a r s).loops = s.loops ∧ (goodSlot k a r s).demand = s.demand
      ∧ (goodSlot k a r s).governor = s.governor ∧ (goodSlot k a r s).frost = s.frost
      ∧ (goodSlot k a r s).filter = s.filter ∧ (goodSlot k a r s).humidity = s.humidity
      ∧ (goodSlot k a r s).pending = s.pending := by
  dsimp only [goodSlot]
  (repeat' split) <;> simp

@[simp] theorem applyOutcome_frame (p : Poll) (s : State) :
    (applyOutcome p s).powered = s.powered ∧ (applyOutcome p s).store = s.store
      ∧ (applyOutcome p s).measurement = s.measurement ∧ (applyOutcome p s).loops = s.loops
      ∧ (applyOutcome p s).filter = s.filter ∧ (applyOutcome p s).pending = s.pending := by
  dsimp only [applyOutcome]
  (repeat' split) <;> simp

@[simp] theorem nextPoll_frame (p : Poll) (s : State) :
    (nextPoll p s).powered = s.powered ∧ (nextPoll p s).settings = s.settings ∧ (nextPoll p s).store = s.store
      ∧ (nextPoll p s).measurement = s.measurement ∧ (nextPoll p s).loops = s.loops
      ∧ (nextPoll p s).demand = s.demand ∧ (nextPoll p s).governor = s.governor ∧ (nextPoll p s).frost = s.frost
      ∧ (nextPoll p s).filter = s.filter ∧ (nextPoll p s).humidity = s.humidity ∧ (nextPoll p s).lines = s.lines
      ∧ (nextPoll p s).events = s.events ∧ (nextPoll p s).link = s.link ∧ (nextPoll p s).pending = s.pending := by
  simp [nextPoll]

@[simp] theorem endPoll_frame (p : Poll) (s : State) :
    (endPoll p s).powered = s.powered ∧ (endPoll p s).store = s.store ∧ (endPoll p s).measurement = s.measurement
      ∧ (endPoll p s).loops = s.loops ∧ (endPoll p s).filter = s.filter ∧ (endPoll p s).pending = s.pending := by
  unfold endPoll
  split <;> simp

@[simp] theorem receiveBusByte_frame (y : BusByte) (s : State) :
    (receiveBusByte s y).powered = s.powered ∧ (receiveBusByte s y).store = s.store
      ∧ (receiveBusByte s y).measurement = s.measurement ∧ (receiveBusByte s y).loops = s.loops
      ∧ (receiveBusByte s y).filter = s.filter ∧ (receiveBusByte s y).pending = s.pending := by
  dsimp only [receiveBusByte]
  (repeat' split) <;> simp

@[simp] theorem closeWindow_frame (s : State) :
    (closeWindow s).powered = s.powered ∧ (closeWindow s).store = s.store
      ∧ (closeWindow s).measurement = s.measurement ∧ (closeWindow s).loops = s.loops
      ∧ (closeWindow s).filter = s.filter ∧ (closeWindow s).pending = s.pending := by
  dsimp only [closeWindow]
  (repeat' split) <;> simp

@[simp] theorem humidityMinute_frame (s : State) :
    (humidityMinute s).powered = s.powered ∧ (humidityMinute s).settings = s.settings
      ∧ (humidityMinute s).store = s.store ∧ (humidityMinute s).measurement = s.measurement
      ∧ (humidityMinute s).loops = s.loops ∧ (humidityMinute s).filter = s.filter ∧ (humidityMinute s).bus = s.bus
      ∧ (humidityMinute s).pending = s.pending := by
  dsimp only [humidityMinute]
  simp

@[simp] theorem pullEdge_frame (s : State) :
    (pullEdge s).powered = s.powered ∧ (pullEdge s).settings = s.settings ∧ (pullEdge s).store = s.store
      ∧ (pullEdge s).measurement = s.measurement ∧ (pullEdge s).loops = s.loops ∧ (pullEdge s).filter = s.filter
      ∧ (pullEdge s).bus = s.bus ∧ (pullEdge s).humidity = s.humidity ∧ (pullEdge s).lines = s.lines
      ∧ (pullEdge s).events = s.events ∧ (pullEdge s).link = s.link ∧ (pullEdge s).pending = s.pending := by
  dsimp only [pullEdge]
  simp

@[simp] theorem pullSwitchReport_frame (c : LineConfig) (b a : LineRec) (s : State) :
    (pullSwitchReport c b a s).powered = s.powered ∧ (pullSwitchReport c b a s).settings = s.settings
      ∧ (pullSwitchReport c b a s).store = s.store ∧ (pullSwitchReport c b a s).measurement = s.measurement
      ∧ (pullSwitchReport c b a s).loops = s.loops ∧ (pullSwitchReport c b a s).filter = s.filter
      ∧ (pullSwitchReport c b a s).bus = s.bus ∧ (pullSwitchReport c b a s).humidity = s.humidity
      ∧ (pullSwitchReport c b a s).lines = s.lines ∧ (pullSwitchReport c b a s).events = s.events
      ∧ (pullSwitchReport c b a s).link = s.link ∧ (pullSwitchReport c b a s).pending = s.pending := by
  dsimp only [pullSwitchReport]
  (repeat' split) <;> simp

@[simp] theorem smokeReport_frame (c : LineConfig) (l : Line) (b a : LineRec) (s : State) :
    (smokeReport c l b a s).powered = s.powered ∧ (smokeReport c l b a s).settings = s.settings
      ∧ (smokeReport c l b a s).store = s.store ∧ (smokeReport c l b a s).bus = s.bus
      ∧ (smokeReport c l b a s).humidity = s.humidity ∧ (smokeReport c l b a s).pending = s.pending := by
  dsimp only [smokeReport]
  (repeat' split) <;> simp

end Sys2Proof.Machine
end

