-- ==== Sys2Proof/Laws/Ops.lean ====
section
/-! SUPPORT. The effects of the shared operations: what each of them leaves in the components its frame lets it change. -/

namespace Sys2Proof.Machine

/-! ### Lines -/

@[simp] theorem driveRec_fields (u : Lines) (c : LineConfig) (r : LineRec) :
    (driveRec u c r).latch = r.latch ∧ (driveRec u c r).sample = r.sample ∧ (driveRec u c r).sampleRun = r.sampleRun
      ∧ (driveRec u c r).settled = r.settled ∧ (driveRec u c r).driven = drivenLevel u c r.latch := by
  dsimp only [driveRec]
  split <;> simp_all

@[simp] theorem driveLines_levels (s : State) :
    (driveLines s).lines.alarm = s.lines.alarm ∧ (driveLines s).lines.lamp = s.lines.lamp
      ∧ (driveLines s).lines.heater = s.lines.heater := ⟨rfl, rfl, rfl⟩

/-- Every line drives what its configuration says (R164). -/
@[simp] theorem driveLines_line (l : Line) (s : State) :
    (driveLines s).lines.table.get l = driveRec s.lines (s.settings.lines.get l) (s.lines.table.get l) := by
  simp [driveLines]

@[simp] theorem setAlarm_levels (b : Bool) (s : State) :
    (setAlarm b s).lines.alarm = b ∧ (setAlarm b s).lines.lamp = s.lines.lamp
      ∧ (setAlarm b s).lines.heater = s.lines.heater := ⟨rfl, rfl, rfl⟩

@[simp] theorem setLamp_levels (b : Bool) (s : State) :
    (setLamp b s).lines.alarm = s.lines.alarm ∧ (setLamp b s).lines.lamp = b
      ∧ (setLamp b s).lines.heater = s.lines.heater := ⟨rfl, rfl, rfl⟩

@[simp] theorem setHeaterEnable_levels (b : Bool) (s : State) :
    (setHeaterEnable b s).lines.alarm = s.lines.alarm ∧ (setHeaterEnable b s).lines.lamp = s.lines.lamp
      ∧ (setHeaterEnable b s).lines.heater = b := ⟨rfl, rfl, rfl⟩

/-! ### Occurrences -/

@[simp] theorem judgeSevere_events (s : State) :
    (judgeSevere s).events = { s.events with severe := s.events.flags &&& severeMask != 0 } := by
  dsimp only [judgeSevere]
  split
  · rename_i h
    simp only [h]
  · simp

/-- ALARM OUT follows the severe summary (R173, R165). -/
theorem judgeSevere_alarm (s : State) (h : s.lines.alarm = s.events.severe) :
    (judgeSevere s).lines.alarm = (s.events.flags &&& severeMask != 0) := by
  dsimp only [judgeSevere]
  split
  · rename_i h'
    rw [h, h']
  · rfl

@[simp] theorem raiseFlag_events (k : EventKind) (s : State) :
    (raiseFlag k s).events =
      { s.events with
        flags := s.events.flags ||| kindBit k, severe := (s.events.flags ||| kindBit k) &&& severeMask != 0 } := by
  simp [raiseFlag]

/-- An occurrence changes the flags, the severe summary, the queue and NTF, and nothing else of the event unit. -/
@[simp] theorem report_events (k : EventKind) (src : Source) (s : State) :
    (report k src s).events.flags = s.events.flags ||| kindBit k
      ∧ (report k src s).events.severe = ((s.events.flags ||| kindBit k) &&& severeMask != 0)
      ∧ (report k src s).events.seconds = s.events.seconds := by
  dsimp only [report]
  split <;> simp [placeOccurrence, judgeNtf]

/-- The queue after an occurrence: placed by R177 when its kind is enabled. -/
theorem report_queue (k : EventKind) (src : Source) (s : State) :
    (report k src s).events.queue =
      if kindEnabled s.settings k then placeNotice s.settings k src s.events.seconds s.events.queue
      else s.events.queue := by
  dsimp only [report]
  split <;> simp [placeOccurrence, judgeNtf]

/-- An occurrence tells the link port at most that the queue holds a record (R177). -/
theorem report_link (k : EventKind) (src : Source) (s : State) :
    (report k src s).link = { s.link with queueNotEmpty := (report k src s).link.queueNotEmpty } := by
  dsimp only [report]
  split <;> simp [placeOccurrence, judgeNtf]

theorem getLsb_kindBit (k : EventKind) : (kindBit k).getLsb (kindIndex k) = true := by
  cases k <;> rfl

/-- The flag of a reported kind is raised (R172). -/
@[simp] theorem report_flagRaised (k : EventKind) (src : Source) (s : State) : flagRaised (report k src s) k = true := by
  have h := getLsb_kindBit k
  simp only [BitVec.getLsb] at h
  simp [flagRaised, BitVec.getLsb, h]

/-- A raised flag stays raised through an occurrence. -/
theorem report_keeps_flag (k j : EventKind) (src : Source) (s : State) (h : flagRaised s j = true) :
    flagRaised (report k src s) j = true := by
  simp only [flagRaised, BitVec.getLsb] at *
  simp [h]

theorem reportAll_keeps_flag (os : List (EventKind × Source)) (j : EventKind) (s : State)
    (h : flagRaised s j = true) : flagRaised (reportAll os s) j = true := by
  induction os generalizing s with
  | nil => exact h
  | cons o os ih => exact ih (report o.1 o.2 s) (report_keeps_flag o.1 j o.2 s h)

/-- Every kind of a reported list is raised. -/
theorem reportAll_flagRaised (os : List (EventKind × Source)) (k : EventKind) (src : Source) (s : State)
    (h : (k, src) ∈ os) : flagRaised (reportAll os s) k = true := by
  induction os generalizing s with
  | nil => cases h
  | cons o os ih =>
    cases h with
    | head => exact reportAll_keeps_flag os k _ (report_flagRaised k src s)
    | tail _ h => exact ih (report o.1 o.2 s) h

@[simp] theorem reportAll_seconds (os : List (EventKind × Source)) (s : State) :
    (reportAll os s).events.seconds = s.events.seconds := by
  induction os generalizing s with
  | nil => rfl
  | cons o os ih => exact (ih (report o.1 o.2 s)).trans (report_events o.1 o.2 s).2.2

theorem reportAll_link (os : List (EventKind × Source)) (s : State) :
    (reportAll os s).link = { s.link with queueNotEmpty := (reportAll os s).link.queueNotEmpty } := by
  induction os generalizing s with
  | nil => rfl
  | cons o os ih =>
    have h := ih (report o.1 o.2 s)
    have h' := report_link o.1 o.2 s
    rw [h'] at h
    exact h

/-! ### The heater -/

/-- The heater output after it is set, with HEATER ENABLE (R76, R165). -/
@[simp] theorem setHeaterOutput_output (p : Nat) (s : State) :
    (setHeaterOutput p s).frost =
      { s.frost with heaterOutput := p, hto := if p = 0 ∧ p ≠ s.frost.heaterOutput then false else s.frost.hto } := by
  dsimp only [setHeaterOutput]
  split
  · rename_i h
    subst h
    simp
  · simp_all

theorem setHeaterOutput_heater (p : Nat) (s : State) (h : s.lines.heater = decide (0 < s.frost.heaterOutput)) :
    (setHeaterOutput p s).lines.heater = decide (0 < p) := by
  dsimp only [setHeaterOutput]
  split
  · rename_i h'
    rw [h, h']
  · rfl

/-- The interlock reads the run state last reported, loop S and its setting alone (R75). -/
theorem interlock_congr {s t : State} (h₁ : t.frost.runSeen = s.frost.runSeen) (h₂ : t.loops = s.loops)
    (h₃ : t.settings = s.settings) : interlock t = interlock s := by
  simp only [interlock, h₁, h₂, h₃]

@[simp] theorem reevaluate_frost (s : State) :
    (reevaluate s).frost.heaterOutput = (if interlock s then s.frost.requested else 0)
      ∧ (reevaluate s).frost.mode = s.frost.mode ∧ (reevaluate s).frost.requested = s.frost.requested
      ∧ (reevaluate s).frost.r = s.frost.r ∧ (reevaluate s).frost.cold = s.frost.cold
      ∧ (reevaluate s).frost.warm = s.frost.warm ∧ (reevaluate s).frost.dHanded = s.frost.dHanded
      ∧ (reevaluate s).frost.runSeen = s.frost.runSeen ∧ (reevaluate s).frost.history = s.frost.history
      ∧ (reevaluate s).frost.exhaustion = s.frost.exhaustion
      ∧ (reevaluate s).frost.defrostTimer = s.frost.defrostTimer
      ∧ (reevaluate s).frost.stopTimer = s.frost.stopTimer := by
  simp [reevaluate]

@[simp] theorem setRequested_frost (p : Nat) (s : State) :
    (setRequested p s).frost.heaterOutput = (if interlock s then p else 0)
      ∧ (setRequested p s).frost.mode = s.frost.mode ∧ (setRequested p s).frost.requested = p
      ∧ (setRequested p s).frost.r = s.frost.r ∧ (setRequested p s).frost.cold = s.frost.cold
      ∧ (setRequested p s).frost.warm = s.frost.warm ∧ (setRequested p s).frost.dHanded = s.frost.dHanded
      ∧ (setRequested p s).frost.runSeen = s.frost.runSeen ∧ (setRequested p s).frost.history = s.frost.history
      ∧ (setRequested p s).frost.exhaustion = s.frost.exhaustion
      ∧ (setRequested p s).frost.defrostTimer = s.frost.defrostTimer
      ∧ (setRequested p s).frost.stopTimer = s.frost.stopTimer := by
  simp [setRequested, interlock]

@[simp] theorem setFrostMode_mode (m : FrostMode) (s : State) : (setFrostMode m s).frost = { s.frost with mode := m } := by
  dsimp only [setFrostMode]
  split
  · rename_i h
    subst h
    rfl
  · simp

/-- A change of the frost state is reported (R95). -/
theorem setFrostMode_reports (m : FrostMode) (s : State) (h : m ≠ s.frost.mode) :
    flagRaised (setFrostMode m s) .frostState = true := by
  simp [setFrostMode, h]

/-! ### The demand -/

/-- D is formed from the settings and the controller's own inputs (R59). -/
theorem demandOf_congr {s t : State} (h₁ : t.settings = s.settings) (h₂ : { t.demand with d := s.demand.d } = s.demand) :
    demandOf t = demandOf s := by
  have h : demandInput t = demandInput s := by
    have c := congrArg Demand.captureInForce h₂
    have d := congrArg Demand.hold h₂
    have e := congrArg Demand.level h₂
    have f := congrArg Demand.boost h₂
    have g := congrArg Demand.h h₂
    have k := congrArg Demand.pullTimer h₂
    simp only at c d e f g k
    simp only [demandInput, levelFlowNow, boostFlow, pullDemand, h₁, c, d, e, f, g, k]
  simp only [demandOf, h, h₁]

@[simp] theorem handDemand_demand (d : Nat) (s : State) :
    (handDemand d s).demand = { s.demand with d := d } ∧ (handDemand d s).frost.dHanded = d
      ∧ (handDemand d s).frost.mode = s.frost.mode := by
  dsimp only [handDemand]
  split <;> simp [setReduction]

/-- After a recomputation D is what R59 gives, and nothing else of the controller has changed. -/
@[simp] theorem recomputeDemand_demand (s : State) :
    (recomputeDemand s).demand = { s.demand with d := demandOf s } := by
  dsimp only [recomputeDemand]
  split
  · rename_i h
    rw [h]
  · simp

/-- The frost guard keeps its state through a recomputation. -/
@[simp] theorem recomputeDemand_mode (s : State) : (recomputeDemand s).frost.mode = s.frost.mode := by
  dsimp only [recomputeDemand]
  split <;> simp

@[simp] theorem demandOf_recomputeDemand (s : State) : demandOf (recomputeDemand s) = demandOf s :=
  demandOf_congr (recomputeDemand_frame s).2.1 (by simp)

/-- D after a recomputation lies within its clamp, when the clamp is in order (R59, R60). -/
theorem demandOf_bounds (s : State) (h : s.settings.fMin ≤ s.settings.fMax) :
    s.settings.fMin ≤ demandOf s ∧ demandOf s ≤ s.settings.fMax := by
  simp only [demandOf, clampNat]
  constructor <;> (repeat' split) <;> omega

/-- A hold in force is released, and its release reported (R64). -/
theorem releaseHold_demand (c : HoldCause) (s : State) : (releaseHold c s).demand.hold = none := by
  dsimp only [releaseHold]
  split
  · simp
  · assumption

theorem releaseHold_reports (c : HoldCause) (s : State) (h : s.demand.hold.isSome = true) :
    flagRaised (releaseHold c s) .holdReleased = true := by
  dsimp only [releaseHold]
  split
  · simp
  · simp_all

/-- H after it is formed is what R154 gives. -/
theorem formHumidity_h (s : State) : (formHumidity s).humidity.h = humidityDemand s := by
  dsimp only [formHumidity]
  split
  · rename_i h
    exact h.symm
  · simp

/-! ### The filter monitor -/

/-- An event that reaches the monitor during a rewrite is held, and changes nothing else (R100). -/
theorem filterPost_held (e : FilterEvent) (s : State) (h : s.filter.rewriting = true) :
    filterPost e s = { s with filter := { s.filter with held := s.filter.held ++ [e] } } := by
  simp [filterPost, h]

/-- With no rewrite in progress an event is taken at once (R100). -/
theorem filterPost_taken (e : FilterEvent) (s : State) (h : s.filter.rewriting = false) :
    filterPost e s = filterTake e s := by
  simp [filterPost, h]

/-! ### The queue of commands -/

/-- A powered part runs the command; one without its supply ignores it (log 15). -/
theorem whilePowered_on (f : State → State) (s : State) (h : s.powered = true) : whilePowered f s = .next (f s) := by
  simp [whilePowered, h]

theorem whilePowered_off (f : State → State) (s : State) (h : s.powered = false) : whilePowered f s = .next s := by
  simp [whilePowered, h]

/-- A request that came by no frame is served while the port is open (R200). -/
theorem whileOpen_on (f : State → State) (s : State) (h : s.powered = true) (hc : s.link.closed = false) :
    whileOpen f s = .next (f s) := by
  simp [whileOpen, whilePowered, h, hc]

/-- The closed port serves no request (R200). -/
theorem whileOpen_closed (f : State → State) (s : State) (hc : s.link.closed = true) : whileOpen f s = .next s := by
  simp [whileOpen, whilePowered, hc]

/-- A request row of a powered part with its port open answers what its serving answers (log 7). -/
theorem serveRow_on (serve : State → Answer × State) (s : State) (h : s.powered = true) (hc : s.link.closed = false) :
    serveRow serve s =
      .next { (serve s).2 with link := { (serve s).2.link with answer := some (serve s).1 } } := by
  rw [serveRow, whileOpen_on _ _ h hc]
  rfl

/-! ### The measurement second -/

@[simp] theorem addSamples_samples (codes : PerChannel Code) (s : State) :
    (addSamples codes s).measurement.samples = s.measurement.samples + 1 := rfl

@[simp] theorem judgeSeconds_measurement (s : State) :
    (judgeSeconds s).measurement.samples = 0 ∧ (judgeSeconds s).measurement.quiet = s.measurement.quiet
      ∧ (judgeSeconds s).measurement.effectiveness = s.measurement.effectiveness := ⟨rfl, rfl, rfl⟩

@[simp] theorem countQuiet_measurement (s : State) :
    (countQuiet s).measurement.samples = s.measurement.samples
      ∧ (countQuiet s).measurement.channels = s.measurement.channels
      ∧ (countQuiet s).measurement.effectiveness = s.measurement.effectiveness
      ∧ (countQuiet s).measurement.fresh = s.measurement.fresh
      ∧ (countQuiet s).measurement.quiet = quietAfter s.frost.heaterOutput s.measurement.quiet :=
  ⟨rfl, rfl, rfl, rfl, rfl⟩

@[simp] theorem judgeEffectiveness_keeps (s : State) :
    (judgeEffectiveness s).measurement.samples = s.measurement.samples
      ∧ (judgeEffectiveness s).measurement.channels = s.measurement.channels
      ∧ (judgeEffectiveness s).measurement.quiet = s.measurement.quiet := by
  dsimp only [judgeEffectiveness]
  split <;> exact ⟨rfl, rfl, rfl⟩

/-- A second that is not closed is not judged (R1). -/
theorem secondEnd_open (s : State) (h : s.measurement.samples < 4) : secondEnd s = s := by
  simp only [secondEnd, secondClosed, decide_eq_true_eq, ite_eq_right_iff]
  omega

/-! ### The CRC-16 on numbers, which the kernel evaluates on long lists -/

/-- One bit of the CRC-16 on numbers. -/
def crcBitNat (c : Nat) : Nat := if 32768 ≤ c then Nat.xor (c * 2 % 65536) 0x1021 else c * 2 % 65536

/-- A function applied to a number once the kernel has reduced it to a literal. -/
def onLiteral (n : Nat) (f : Nat → Nat) : Nat := Nat.rec (f 0) (fun m _ => f (m + 1)) n

/-- The CRC-16 on numbers, each intermediate figure reduced before the next step. -/
def crcNat : List Byte → Nat → Nat
  | [], c => c
  | b :: bs, c => onLiteral (iterate8 crcBitNat (Nat.xor c (b.toNat * 256))) (crcNat bs)

theorem onLiteral_eq (n : Nat) (f : Nat → Nat) : onLiteral n f = f n := by
  cases n <;> rfl

theorem crc16Bit_toNat (c : BitVec 16) : (crc16Bit c).toNat = crcBitNat c.toNat := by
  have h : c.msb = decide (32768 ≤ c.toNat) := by simp [BitVec.msb_eq_decide]
  have e : (c <<< 1).toNat = c.toNat * 2 % 65536 := by
    rw [BitVec.toNat_shiftLeft, Nat.shiftLeft_eq, Nat.pow_one]
  unfold crc16Bit crcBitNat
  rw [h]
  by_cases g : 32768 ≤ c.toNat
  · simp only [g, decide_true, if_true, BitVec.toNat_xor, e]
    rfl
  · simp [g, e]

theorem crc16Byte_toNat (c : BitVec 16) (b : Byte) :
    (crc16Byte c b).toNat = iterate8 crcBitNat (Nat.xor c.toNat (b.toNat * 256)) := by
  have e : (c ^^^ (b.setWidth 16 <<< 8)).toNat = Nat.xor c.toNat (b.toNat * 256) := by
    have : b.toNat < 256 := b.isLt
    rw [BitVec.toNat_xor, BitVec.toNat_shiftLeft, BitVec.toNat_setWidth, Nat.shiftLeft_eq,
      Nat.mod_eq_of_lt (show b.toNat < 2 ^ 16 by omega), Nat.mod_eq_of_lt (by omega)]
    rfl
  simp only [crc16Byte, iterate8, crc16Bit_toNat, e]

theorem foldl_crc16Byte_toNat (bs : List Byte) (c : BitVec 16) : (bs.foldl crc16Byte c).toNat = crcNat bs c.toNat := by
  induction bs generalizing c with
  | nil => rfl
  | cons b bs ih => rw [List.foldl_cons, ih, crc16Byte_toNat, crcNat, onLiteral_eq]

/-! ### The persistent stores -/

@[simp] theorem wholeBank_valid (image : Settings) (g : Nat) : bankValid (wholeBank image g) = true := by
  simp [bankValid, wholeBank]

@[simp] theorem cutBank_valid (image : Settings) (g : Nat) : bankValid (cutBank image g) = false := by
  have h : ∀ c : Half, (~~~c == c) = false := fun c => by
    rw [beq_eq_false_iff_ne]
    intro e
    have := congrArg BitVec.msb e
    simp at this
  exact h _

/-- A bank that no save has written is not valid. -/
theorem blank_bank_valid : bankValid Bank.blank = false := by
  have h : crcNat (bankBytes Settings.defaults 0) 0xFFFF = 46508 := by decide +kernel
  have e : (bankCrc Settings.defaults 0).toNat = 46508 := by
    unfold bankCrc
    exact (foldl_crc16Byte_toNat _ _).trans h
  rw [bankValid, beq_eq_false_iff_ne]
  exact fun g => absurd ((congrArg BitVec.toNat g).trans e) (by decide)

/-- What a load takes, by the validity of the two banks (R197). -/
theorem loadBank_of_valid (st : SettingsStore) (v₀ v₁ : Bool) (h₀ : bankValid st.bank0 = v₀)
    (h₁ : bankValid st.bank1 = v₁) :
    loadBank st = chosenBank v₀ v₁ (laterBank st.bank0.generation st.bank1.generation) := by
  rw [loadBank, h₀, h₁]

/-- With no valid bank the defaults are loaded (R197). -/
theorem load_defaults (st : SettingsStore) (h₀ : bankValid st.bank0 = false) (h₁ : bankValid st.bank1 = false) :
    loadBank st = none ∧ loadedSettings st = Settings.defaults
      ∧ ∀ kind, storeLoaded kind st = { st with current := none, saving := none, verdict := .defaulted, resetKind := kind } := by
  have h : loadBank st = none := (loadBank_of_valid st false false h₀ h₁).trans rfl
  simp [h, loadedSettings, loadedImage, storeLoaded]

/-- The reset values of every block but the lines, the event unit and the link port (R198). -/
theorem resetTo_blocks (kind : ResetKind) (s : State) :
    let set := loadedSettings s.store
    let t := resetTo kind s
    t.powered = true ∧ t.settings = set ∧ t.store = storeLoaded kind s.store ∧ t.measurement = measurementAtReset
      ∧ t.loops = ⟨LoopRec.atReset set.loops.supply.window, LoopRec.atReset set.loops.extract.window⟩
      ∧ t.demand = demandAtReset set ∧ t.governor = governorAtReset set ∧ t.frost = frostAtReset set
      ∧ t.filter = filterAtReset s.filter.store ∧ t.bus = busAtReset set ∧ t.humidity = humidityAtReset set
      ∧ t.pending = s.pending := by
  simp [resetTo, blocksReset]

@[simp] theorem bankOf_putBank_same (i : BankId) (b : Bank) (st : SettingsStore) : bankOf (putBank i b st) i = b := by
  cases i <;> rfl

theorem bankOf_putBank_other (i j : BankId) (b : Bank) (st : SettingsStore) (h : j ≠ i) :
    bankOf (putBank i b st) j = bankOf st j := by
  cases i <;> cases j <;> first | rfl | exact absurd rfl h

/-- A save never writes the current bank (R196). -/
theorem targetBank_not_current (st : SettingsStore) : st.current ≠ some (targetBank st) := by
  unfold targetBank
  split <;> simp_all

/-- The contents of a store without supply do not meet the check (R101). -/
theorem blankStore_check : blankStore.length = 50 ∧ storeGood blankStore = false := by decide

@[simp] theorem storeImage_length (p : PerStream FilterRec) : (storeImage p).length = 50 := by
  have h : ∀ r : FilterRec, (recordBytes r).length = 20 := fun r => by
    cases hb : r.baseline <;> simp [recordBytes, u8, u16, u32, mark, optU16, hb]
  simp [storeImage, recordsBytes, h, u16]
  decide

/-- A cut rewrite leaves as many bytes as the store holds (R102). -/
@[simp] theorem cutImage_length (n : Nat) (p : PerStream FilterRec) (old : List Byte) (h : old.length = 50) :
    (cutImage n p old).length = 50 := by
  simp only [cutImage, List.length_append, List.length_take, List.length_drop, storeImage_length, h]
  omega

/-! ### The silence timer -/

/-- The expiry is taken only at a timer that has reached its time (R63). -/
theorem silenceExpired_early (s : State) (h : s.demand.silence < 30000) : silenceExpired s = s := by
  simp [silenceExpired, Config.silenceTime, Nat.not_le.mpr h]

end Sys2Proof.Machine
end

