-- ==== Sys2Proof/Laws/PerInstr.lean ====
section
/-! SUPPORT. A family of statements made per command: which commands the spec can give rise to. -/

namespace Sys2Proof.Laws.Sendable

/-- A command is well formed just when its lists and counts keep the bounds of R183 (a payload of at most 61 bytes), R126
(an answer of 1 to 9 bytes) and R100 (a rewrite cut short has written at most its check words and records). -/
def Statement (i : Instr) : Prop :=
  i.wellFormed = true ↔
    (∀ kind tag flags payload, i = .frameReceived kind tag flags payload → payload.length ≤ 61)
      ∧ (∀ bytes, i = .answerComplete bytes → 1 ≤ bytes.length ∧ bytes.length ≤ 9)
      ∧ ∀ vbkHolds written touched, i = .coreSupplyLoss vbkHolds written touched → written ≤ 48

theorem powerUp : Statement (.powerUp) := by
  simp [Statement, Instr.wellFormed]

theorem resetLine (saveTouched : Bool) : Statement (.resetLine saveTouched) := by
  simp [Statement, Instr.wellFormed]

theorem sampleEvent (codes : PerChannel Code) : Statement (.sampleEvent codes) := by
  simp [Statement, Instr.wellFormed]

theorem secondEnd : Statement (.secondEnd) := by
  simp [Statement, Instr.wellFormed]

theorem tachEdge (fan : Stream) (time : Nat) : Statement (.tachEdge fan time) := by
  simp [Statement, Instr.wellFormed]

theorem windowEnd (fan : Stream) : Statement (.windowEnd fan) := by
  simp [Statement, Instr.wellFormed]

theorem exhaustionSignal : Statement (.exhaustionSignal) := by
  simp [Statement, Instr.wellFormed]

theorem frostPeriod : Statement (.frostPeriod) := by
  simp [Statement, Instr.wellFormed]

theorem htoOnTimeEnd : Statement (.htoOnTimeEnd) := by
  simp [Statement, Instr.wellFormed]

theorem defrostMaximumExpiry : Statement (.defrostMaximumExpiry) := by
  simp [Statement, Instr.wellFormed]

theorem stopTimerExpiry : Statement (.stopTimerExpiry) := by
  simp [Statement, Instr.wellFormed]

theorem demandSecond : Statement (.demandSecond) := by
  simp [Statement, Instr.wellFormed]

theorem hostBoostExpiry : Statement (.hostBoostExpiry) := by
  simp [Statement, Instr.wellFormed]

theorem pullSwitchTimerExpiry : Statement (.pullSwitchTimerExpiry) := by
  simp [Statement, Instr.wellFormed]

theorem silenceExpiry : Statement (.silenceExpiry) := by
  simp [Statement, Instr.wellFormed]

theorem filterMinute : Statement (.filterMinute) := by
  simp [Statement, Instr.wellFormed]

theorem rewriteEnd : Statement (.rewriteEnd) := by
  simp [Statement, Instr.wellFormed]

theorem captureWaitTimeout : Statement (.captureWaitTimeout) := by
  simp [Statement, Instr.wellFormed]

theorem captureRunEnd : Statement (.captureRunEnd) := by
  simp [Statement, Instr.wellFormed]

theorem lockOutExpiry (fan : Stream) : Statement (.lockOutExpiry fan) := by
  simp [Statement, Instr.wellFormed]

theorem pollPeriodStart : Statement (.pollPeriodStart) := by
  simp [Statement, Instr.wellFormed]

theorem poll : Statement (.poll) := by
  simp [Statement, Instr.wellFormed]

theorem answerComplete (bytes : List BusByte) : Statement (.answerComplete bytes) := by
  refine ⟨fun h => ⟨nofun, ?_, nofun⟩, fun h => ?_⟩
  · rintro _ ⟨⟩
    obtain ⟨h₁, h₂⟩ := Bool.and_eq_true_iff.mp h
    exact ⟨of_decide_eq_true h₁, of_decide_eq_true h₂⟩
  · obtain ⟨h₁, h₂⟩ := h.2.1 _ rfl
    exact Bool.and_eq_true_iff.mpr ⟨decide_eq_true h₁, decide_eq_true h₂⟩

theorem answerWindowClose : Statement (.answerWindowClose) := by
  simp [Statement, Instr.wellFormed]

theorem holdExpiry (slot : Slot) : Statement (.holdExpiry slot) := by
  simp [Statement, Instr.wellFormed]

theorem humidityMinute : Statement (.humidityMinute) := by
  simp [Statement, Instr.wellFormed]

theorem auxSampleEvent (pins : PerLine PinLevel) : Statement (.auxSampleEvent pins) := by
  simp [Statement, Instr.wellFormed]

theorem resetSecondTick : Statement (.resetSecondTick) := by
  simp [Statement, Instr.wellFormed]

theorem frameReceived (kind tag flags : Byte) (payload : List Byte) : Statement (.frameReceived kind tag flags payload) := by
  refine ⟨fun h => ⟨?_, nofun, nofun⟩, fun h => decide_eq_true (h.1 _ _ _ _ rfl)⟩
  rintro _ _ _ _ ⟨⟩
  exact of_decide_eq_true h

theorem frameDiscard : Statement (.frameDiscard) := by
  simp [Statement, Instr.wellFormed]

theorem frameGapTimeout : Statement (.frameGapTimeout) := by
  simp [Statement, Instr.wellFormed]

theorem huntTimeout : Statement (.huntTimeout) := by
  simp [Statement, Instr.wellFormed]

theorem transmitEnd : Statement (.transmitEnd) := by
  simp [Statement, Instr.wellFormed]

theorem traceDue : Statement (.traceDue) := by
  simp [Statement, Instr.wellFormed]

theorem stateRead (page : Byte) : Statement (.stateRead page) := by
  simp [Statement, Instr.wellFormed]

theorem fanRead (fan : Byte) : Statement (.fanRead fan) := by
  simp [Statement, Instr.wellFormed]

theorem levelSet (level : Byte) : Statement (.levelSet level) := by
  simp [Statement, Instr.wellFormed]

theorem boost (flow : Half) (minutes : Byte) : Statement (.boost flow minutes) := by
  simp [Statement, Instr.wellFormed]

theorem holdTake (flow : Half) : Statement (.holdTake flow) := by
  simp [Statement, Instr.wellFormed]

theorem resume : Statement (.resume) := by
  simp [Statement, Instr.wellFormed]

theorem filterRead (filter : Byte) : Statement (.filterRead filter) := by
  simp [Statement, Instr.wellFormed]

theorem filterChanged (filter : Byte) : Statement (.filterChanged filter) := by
  simp [Statement, Instr.wellFormed]

theorem nodeEnrol (address kind : Byte) : Statement (.nodeEnrol address kind) := by
  simp [Statement, Instr.wellFormed]

theorem nodeDrop (slot : Byte) : Statement (.nodeDrop slot) := by
  simp [Statement, Instr.wellFormed]

theorem nodeRead (slot : Byte) : Statement (.nodeRead slot) := by
  simp [Statement, Instr.wellFormed]

theorem lineSet (line function polarity edge : Byte) : Statement (.lineSet line function polarity edge) := by
  simp [Statement, Instr.wellFormed]

theorem lineWrite (line value : Byte) : Statement (.lineWrite line value) := by
  simp [Statement, Instr.wellFormed]

theorem lineRead (line : Byte) : Statement (.lineRead line) := by
  simp [Statement, Instr.wellFormed]

theorem noticesTake : Statement (.noticesTake) := by
  simp [Statement, Instr.wellFormed]

theorem flagsRead : Statement (.flagsRead) := by
  simp [Statement, Instr.wellFormed]

theorem flagsClear (kinds : Word) : Statement (.flagsClear kinds) := by
  simp [Statement, Instr.wellFormed]

theorem eventSet (code enable level : Byte) : Statement (.eventSet code enable level) := by
  simp [Statement, Instr.wellFormed]

theorem thresholdSet (threshold : Byte) : Statement (.thresholdSet threshold) := by
  simp [Statement, Instr.wellFormed]

theorem traceSet (period : Byte) : Statement (.traceSet period) := by
  simp [Statement, Instr.wellFormed]

theorem injectChannel (channel count : Byte) : Statement (.injectChannel channel count) := by
  simp [Statement, Instr.wellFormed]

theorem injectSlot (slot count : Byte) : Statement (.injectSlot slot count) := by
  simp [Statement, Instr.wellFormed]

theorem settingWrite (id : Half) (value : Word) : Statement (.settingWrite id value) := by
  simp [Statement, Instr.wellFormed]

theorem settingRead (id : Half) : Statement (.settingRead id) := by
  simp [Statement, Instr.wellFormed]

theorem settingsSave : Statement (.settingsSave) := by
  simp [Statement, Instr.wellFormed]

theorem saveComplete : Statement (.saveComplete) := by
  simp [Statement, Instr.wellFormed]

theorem startReport : Statement (.startReport) := by
  simp [Statement, Instr.wellFormed]

theorem restart : Statement (.restart) := by
  simp [Statement, Instr.wellFormed]

theorem restartReset : Statement (.restartReset) := by
  simp [Statement, Instr.wellFormed]

theorem linkByteReceived (byte : Byte) (stopGood : Bool) : Statement (.linkByteReceived byte stopGood) := by
  simp [Statement, Instr.wellFormed]

theorem sensorBusByteReceived (byte : Byte) (stopGood : Bool) : Statement (.sensorBusByteReceived byte stopGood) := by
  simp [Statement, Instr.wellFormed]

theorem coreSupplyLoss (vbkHolds : Bool) (written : Nat) (saveTouched : Bool) : Statement (.coreSupplyLoss vbkHolds written saveTouched) := by
  refine ⟨fun h => ⟨nofun, nofun, ?_⟩, fun h => decide_eq_true (h.2.2 _ _ _ rfl)⟩
  rintro _ _ _ ⟨⟩
  exact of_decide_eq_true h

end Sys2Proof.Laws.Sendable
end

