-- ==== Sys2Proof/Tests/Slice0.lean ====
section
/-! SUPPORT. Tests: the checks of WellFormed, the worked figures of the manual, one or two steps of each command, and for
each statement with hypotheses a state and operands that meet them. -/

namespace Sys2Proof.Machine.Tests

/-- The state after one command. -/
def after (c : Instr) (s : State) : State :=
  match exec c s with
  | .next t => t
  | .fault _ => s
  | .refused _ => s

/-- The latest answer to a request row. -/
def answered (c : Instr) (s : State) : Option Answer := (after c s).link.answer

/-- A part whose first rewrite has ended and whose start-report gate is open. -/
def ready : State := { State.reset with filter := { State.reset.filter with rewriting := false, gateOpen := true } }

/-- A part in a run state that the frost guard has seen. -/
def inState (rs : RunState) : State :=
  { ready with demand := { ready.demand with runState := rs }, frost := { ready.frost with runSeen := rs } }

/-- A part in RUN. -/
def run : State := inState .run

/-- A part in RUN with the frost guard in a state. -/
def guarded (m : FrostMode) : State := { run with frost := { run.frost with mode := m } }

/-- A channel VALID at a value. -/
def valid (v : Int) : ChannelRec :=
  { ChannelRec.atReset with state := .valid, value := some v, last := some v, first := true }

/-- A channel that the next second end takes to FAILED. -/
def failing (v : Int) : ChannelRec := { valid v with state := .suspect, badSeconds := 4, bad := 1 }

/-- A part whose measurement second has closed. -/
def closing (s : State) : State := { s with measurement := { s.measurement with samples := 4 } }

/-- A part with T_OUT and T_EXH at two values. -/
def weather (tOut tExh : Int) (s : State) : State := setChannel .tOut (valid tOut) (setChannel .tExh (valid tExh) s)

/-- A part without its core supply. -/
def dark : State := { State.reset with powered := false }

/-! ### WellFormed -/

theorem test_ill_payload : (Instr.frameReceived 2 0 0 (List.replicate 62 0)).wellFormed = false := by decide
theorem test_well_payload : (Instr.frameReceived 2 0 0 (List.replicate 61 0)).wellFormed = true := by decide
theorem test_ill_answer_empty : (Instr.answerComplete []).wellFormed = false := by decide
theorem test_ill_answer_long : (Instr.answerComplete (List.replicate 10 ⟨0, true⟩)).wellFormed = false := by decide
theorem test_ill_cut : (Instr.coreSupplyLoss true 49 false).wellFormed = false := by decide
theorem test_well_cut : (Instr.coreSupplyLoss true 48 false).wellFormed = true := by decide

/-! ### The worked figures of the manual -/

/-- The worked conversions after R4. -/
theorem test_temperatures :
    [3750, 3255, 3253, 3258, 2656, 2458, 2000].map convertTemperature =
      [.good (-300), .good (-62), .good (-62), .good (-64), .good 148, .good 214, .good 366] := by decide

/-- The codes after R5. -/
theorem test_pressures :
    [804, 810, 3686, 300, 150].map convertPressure = [.good 60, .good 61, .good 500, .good 0, .bad .under] := by decide

/-- The edges of R3 and R5. -/
theorem test_conversion_edges :
    [40, 41, 999, 1000, 3899, 3900, 4055, 4056].map convertTemperature =
        [.bad .short, .good 800, .good 800, .good 800, .good (-400), .good (-400), .good (-400), .bad .open_]
      ∧ [204, 205, 409, 410, 3687, 3890, 3891].map convertPressure =
        [.bad .under, .good 0, .good 0, .good 0, .good 500, .good 500, .bad .over] := by decide

/-- The worked speed figures after R22. -/
theorem test_speeds :
    [speedOf 25 480000 2, speedOf 2 19000 2, speedOf 1 0 2, speedOf 100 240000 1] = [1500, 1578, 0, 6000] := by decide

/-- The worked speed targets after R24. -/
theorem test_speed_targets :
    speedTargetOf LoopSettings.defaults 600 60 = 2150
      ∧ speedTargetOf { LoopSettings.defaults with kp := 255 } 2500 500 = 3600 := by decide

/-- The worked flow estimates after R27. -/
theorem test_flows :
    flowOf LoopSettings.defaults 2160 60 = 602 ∧ flowOf { LoopSettings.defaults with kp := 255 } 300 400 = 0 := by
  decide

/-- The worked figures after R17. -/
def effSample (tOut tSup tExt : Int) : State :=
  let s := setChannel .tOut (valid tOut) (setChannel .tSup (valid tSup) (setChannel .tExt (valid tExt) run))
  setLoop .supply { s.loops.supply with state := .locked }
    (setLoop .extract { s.loops.extract with state := .locked }
      { s with measurement := { s.measurement with quiet := 120 } })

theorem test_effectiveness :
    [effSample (-62) 148 214, effSample (-62) 95 214, effSample (-62) (-70) 214, effSample 170 200 214].map
      effectivenessNow = [some 760, some 568, some 0, none] := by decide

/-- The thresholds worked after R146. -/
theorem test_thresholds :
    [thresholdOf Settings.defaults (some 0), thresholdOf Settings.defaults (some (-50)),
        thresholdOf { Settings.defaults with coldSlope := 7 } (some (-62)),
        thresholdOf Settings.defaults (some (-250)), thresholdOf { Settings.defaults with coldSlope := 25 } (some (-50))]
      = [600, 550, 587, 400, 400] := by decide

/-- The service judgements worked after R112, month by month, on a baseline of 47 Pa. -/
theorem test_services :
    let judge (volume dpAvg minutes : Nat) :=
      serviceTarget Settings.defaults
        { FilterRec.reinitialised with
          service := .good, baseline := some 47, volume := volume, dpAvg := dpAvg, minutes := minutes }
    [judge 30400 70 180000, judge 36120 78 200000, judge 37800 94 212000, judge 38200 92 214000]
      = [.good, .dueSoon, .due, .dueSoon] := by decide

/-- The accrual worked after R105: 49 windows of 204,500 make one cubic metre and leave 20,500. -/
theorem test_accrual :
    let r := accrueRecord 204500 { FilterRec.reinitialised with carry := 9816000 }
    r.volume = 1 ∧ r.carry = 20500 := by decide

/-- Charging in DEFROST, worked after R70. -/
theorem test_charging :
    let s :=
      setLoop .supply { run.loops.supply with flow := 418 }
        (setLoop .extract { run.loops.extract with flow := 597 }
          { run with governor := { run.governor with tS := 420, tE := 600 } })
    let t := judgeAllowance s
    let u := judgeAllowance t
    (t.governor.allowance, t.governor.carry, u.governor.allowance, u.governor.carry) = (19926, 500, 19851, 0) := by
  decide

/-- The check values of the two CRCs' parameters on the bytes of "123456789" (general knowledge, not the manual's). -/
theorem test_crcs :
    crc16 [0x31, 0x32, 0x33, 0x34, 0x35, 0x36, 0x37, 0x38, 0x39] = 0x29B1
      ∧ crc8 [0x31, 0x32, 0x33, 0x34, 0x35, 0x36, 0x37, 0x38, 0x39] = 0x20 := by decide +kernel

/-- A STATE READ request is 8 bytes long on the link, a FAN READ reply 30 and a trace frame 31 (A BUSY LINK). -/
theorem test_frame_lengths :
    (frameBytes 0x01 1 1 [0]).length = 8
      ∧ (frameBytes 0x82 1 0 (0 :: fanReadPayload run.loops.supply)).length = 30
      ∧ (frameBytes 0xFE 41 0 (tracePayload run)).length = 31 := by decide +kernel

/-- The start to LOCKED worked after R44: the window end at 2500 ms. -/
theorem test_start_to_locked :
    let l := { run.loops.supply with
      state := .settling, offered := 600, taken := 600, drive := 350, edges := 25, span := 480000 }
    let l' := windowLoop Settings.defaults LoopSettings.defaults 60 l
    (l'.speed, l'.speedTarget, l'.drive, l'.flow, l'.settling, l'.inBand, l'.band) = (1500, 2150, 512, 409, 1, 0, 86) := by
  decide

/-! ### Reset and the supply -/

/-- A part with nothing stored powers up into `State.reset` (log 1). -/
theorem test_power_up : exec .powerUp dark = .next State.reset := by
  have h := load_defaults dark.store blank_bank_valid blank_bank_valid
  have c : storeGood dark.filter.store = false := blankStore_check.2
  have r : retainedRecords dark.filter.store = State.reset.filter.records := by unfold retainedRecords; rw [c]; rfl
  have f : filterAtReset dark.filter.store = State.reset.filter := by unfold filterAtReset; rw [c, r]; rfl
  show Host.Outcome.next (resetTo .powerUp dark) = _
  unfold resetTo blocksReset
  rw [h.2.1, h.2.2, r, f]
  rfl

/-- A reset by the RESET_N line leaves the part in STARTUP (R73). -/
theorem test_reset_line (s : State) (h : s.powered = true) :
    ∃ t, exec (.resetLine false) s = .next t ∧ t.demand.runState = .startup :=
  ⟨_, whilePowered_on (fun s => resetTo .resetLine (cutSave false (finishRewrite s))) s h,
    congrArg Demand.runState (resetTo_blocks _ _).2.2.2.2.2.1⟩

theorem test_restart_waits : after .restartReset run = run := by decide
theorem test_supply_loss : (after (.coreSupplyLoss false 0 false) ready).filter.store = List.replicate 50 0 := by decide

/-! ### Measurement -/

theorem test_sample_event :
    (after (.sampleEvent ⟨3750, 2458, 2458, 2458, 804, 150⟩) ready).measurement.channels.tOut.sum = -300
      ∧ (after (.sampleEvent ⟨3750, 2458, 2458, 2458, 804, 150⟩) ready).measurement.channels.dpE.bad = 1 := by decide

/-- The fourth sample event closes the second, and before it there is no second end (R1, log 28). -/
theorem test_second_closes :
    (after (.sampleEvent ⟨3750, 2458, 2458, 2458, 804, 804⟩) { ready with measurement := { ready.measurement with samples := 3 } }).measurement.samples = 4
      ∧ (after .secondEnd { ready with measurement := { ready.measurement with samples := 3 } }).demand.runState = .startup := by
  decide

/-- The effectiveness at second end 120 after a reset, whose own increase brings the count to 120, is absent (R17). -/
theorem test_effectiveness_at_120 :
    let s := closing { effSample 100 120 150 with measurement := { (effSample 100 120 150).measurement with quiet := 119 } };
    (after .secondEnd s).measurement.quiet = 120 ∧ (after .secondEnd s).measurement.fresh = false := by decide

theorem test_second_end_leaves_startup : (after .secondEnd (closing ready)).demand.runState = .run := by decide

theorem test_second_end_fails :
    let s := closing (setChannel .dpS (failing 60) run)
    (after .secondEnd s).measurement.channels.dpS.state = .failed ∧ flagRaised (after .secondEnd s) .sensorFailed = true := by
  decide

/-- The figures shown are those of the latest second end (R18, log 49): a bad sample and an INJECT show at the next. -/
theorem test_shown_figures :
    let s := after (.injectChannel 5 3) (after (.sampleEvent ⟨3750, 2458, 2458, 2458, 804, 120⟩) run);
    let page (s : State) := channelBytes s.measurement.channels.dpE;
    (s.measurement.channels.dpE.lastFault, s.measurement.channels.dpE.injection) = (.under, 3) ∧ page s = page run
      ∧ page (after .secondEnd (closing s)) = u8 (channelStateCode .failed) ++ optI16 none ++ u8 (faultCauseCode .under) ++ u8 3 := by
  decide

theorem test_inject_channel : (after (.injectChannel 4 15) run).measurement.channels.dpS.injection = 15 := by decide

/-! ### Fans and balance -/

theorem test_tach_edges :
    (after (.tachEdge .supply 1199) (after (.tachEdge .supply 1000) run)).loops.supply.edges = 1
      ∧ (after (.tachEdge .supply 1200) (after (.tachEdge .supply 1000) run)).loops.supply.span = 200 := by decide

theorem test_window_end_offers :
    (after (.windowEnd .supply) run).governor.tS = 450 ∧ (after (.windowEnd .supply) run).loops.extract.offered = 450 := by
  decide

/-- A window of a loop that stays LOCKED at 409 m3/h with its loop pressure at 60 Pa. -/
def steady : LoopRec :=
  { run.loops.supply with
    state := .locked, offered := 600, taken := 600, speedTarget := 2150, drive := 350, edges := 25, span := 480000 }

/-- After a target-0 event FAN READ shows the S_t of the latest window end (R41, log 42). -/
theorem test_shown_target :
    let s := after (.levelSet 0) (after (.windowEnd .extract) (setLoop .extract steady run));
    (s.loops.extract.state, s.loops.extract.speedTarget, s.loops.extract.shownTarget) = (.stopped, 0, 2048)
      ∧ ((answered (.fanRead 1) s).map (fun a => (a.payload.drop 11).take 2)) = some (u16 2048) := by decide

theorem test_fan_read : answered (.fanRead 2) run = some (refusal .range) ∧ (after (.fanRead 1) run).loops.extract.latch = false := by
  decide

/-! ### Demand and run state -/

theorem test_level_set : (after (.levelSet 0) run).demand.runState = .rest ∧ (after (.levelSet 4) run).demand.d = 700 := by
  decide
theorem test_boost : (after (.boost 900 30) run).demand.boost = some ⟨900, 1800⟩ ∧ (after (.boost 900 30) run).demand.d = 900 := by
  decide
theorem test_hold_take : (after (.holdTake 600) run).demand.d = 600 ∧ answered (.holdTake 600) ready = some (refusal .state) := by
  decide
theorem test_resume : (after .resume (inState .faultStop)).demand.runState = .run := by decide
theorem test_demand_second :
    (after .demandSecond { run with demand := { run.demand with boost := some ⟨900, 1⟩ } }).demand.boost = none := by decide
theorem test_boost_expiry :
    (after .hostBoostExpiry { run with demand := { run.demand with boost := some ⟨900, 1⟩ } }).demand.boost = none := by
  decide
theorem test_pull_expiry :
    (after .pullSwitchTimerExpiry { run with demand := { run.demand with pullTimer := 1, d := 700 } }).demand.d = 450 := by
  decide
theorem test_silence_expiry :
    (after .silenceExpiry { run with demand := { run.demand with hold := some 600, silence := 30000 } }).demand.hold = none
      ∧ (after .silenceExpiry { run with demand := { run.demand with hold := some 600, silence := 0 } }).demand.hold = some 600 := by
  decide

/-! ### The frost guard -/

theorem test_frost_period_watch :
    (after .frostPeriod (weather 20 100 run)).frost.mode = .watch
      ∧ (after .frostPeriod (weather 30 100 run)).frost.mode = .idle := by decide
theorem test_frost_period_preheat :
    (after .frostPeriod (weather 0 9 (guarded .watch))).frost.requested = 500 := by decide
theorem test_exhaustion :
    (after .exhaustionSignal (weather 0 9 (guarded .defrost))).demand.runState = .frostStop
      ∧ (after .exhaustionSignal (weather 0 10 (guarded .defrost))).frost.mode = .preheat := by decide
theorem test_defrost_maximum :
    (after .defrostMaximumExpiry (weather 0 10 (guarded .defrost))).frost.mode = .preheat := by decide
theorem test_stop_timer :
    let s := inState .frostStop
    (after .stopTimerExpiry { s with frost := { s.frost with mode := .frostStop } }).demand.runState = .run := by decide
theorem test_on_time :
    (after .htoOnTimeEnd { run with frost := { run.frost with applied := 999, hto := true } }).frost.hto = false := by decide

/-! ### The filter monitor -/

theorem test_filter_minute :
    (after .filterMinute (setLoop .supply { run.loops.supply with state := .locked } run)).filter.records.supply.minutes = 1
      ∧ (after .filterMinute run).filter.rewriting = true := by decide
/-- A window end held by a rewrite is sampled with F_ref and the pressure of that window end (R108, log 50). -/
theorem test_held_window_end :
    let w : WindowFigures := ⟨.locked, 409, 500, some 48, 500, true⟩;
    let s := after (.settingWrite 0x0500 1000)
      { run with filter := { run.filter with rewriting := true, held := [.windowEnd .supply w] } };
    s.settings.fRef = 1000 ∧ (after .rewriteEnd s).filter.latest.supply = some 71 := by decide +kernel

theorem test_rewrite_end :
    (after .rewriteEnd State.reset).filter.store = storeImage State.reset.filter.records := by decide +kernel

theorem test_filter_changed :
    (after (.filterChanged 2) run).demand.d = 500 ∧ answered (.filterChanged 2) ready = some (refusal .state) := by decide

/-- A part with a baseline capture in a state, both filters named. -/
def capturing (st : CaptureState) (counts : Nat) : State :=
  { run with
    demand := { run.demand with captureInForce := true }
    filter :=
      { run.filter with
        capture :=
          { Capture.empty with
            state := st, named := ⟨true, true⟩, sum := ⟨5690, 5690⟩, count := ⟨counts, counts⟩,
            lockOut := ⟨some 0, none⟩ } } }

/-- The captured baseline worked after R117: 5690 over 120 samples is 47. -/
theorem test_capture_run_end :
    (after .captureRunEnd (capturing .run 120)).filter.records.supply.baseline = some 47
      ∧ flagRaised (after .captureRunEnd (capturing .run 0)) .captureAborted = true := by decide
theorem test_capture_wait_timeout : (after .captureWaitTimeout (capturing .wait 0)).filter.capture.state = .none := by decide
theorem test_lock_out :
    (after (.lockOutExpiry .supply) (capturing .run 1)).filter.capture.state = .none
      ∧ (after (.lockOutExpiry .extract) (capturing .run 1)).filter.capture.state = .run := by decide
theorem test_start_report :
    answered .startReport { ready with filter := { ready.filter with gateOpen := false } }
      = some (doneWith [0, 1, 1, 0x21, 0x40, 1, 1]) := by decide
theorem test_filter_read : answered (.filterRead 2) run = some (refusal .range) := by decide

/-! ### The sensor bus and the humidity response -/

/-- A part with one BATH node enrolled at address 3 and being polled. -/
def polling : State := after .poll (after .pollPeriodStart (after (.nodeEnrol 3 1) run))

/-- A READING of 512 per mille and 21.5 degrees, with its CRC-8. -/
def reading : List BusByte :=
  ([0x96] ++ ([3, 0x81, 0x02, 0x00, 0x00, 0xD7, 0] ++ [crc8 [3, 0x81, 0x02, 0x00, 0x00, 0xD7, 0]])).map (fun b => ⟨b, true⟩)

theorem test_enrol :
    answered (.nodeEnrol 3 1) run = some (doneWith [1]) ∧ answered (.nodeEnrol 16 1) run = some (refusal .range) := by
  decide
theorem test_poll : polling.bus.sent.take 3 = [0x96, 3, 1] := by decide
theorem test_answer : (after (.answerComplete reading) polling).bus.slots.s1.reading = some ⟨512, 215⟩ := by decide +kernel
theorem test_answer_byte :
    ((after (.sensorBusByteReceived 0x96 true) polling).bus.round.map Poll.answer) = some [⟨0x96, true⟩] := by decide

theorem test_no_answer : (after .answerWindowClose polling).bus.slots.s1.outcome = .noAnswer := by decide
theorem test_node_drop : (after (.nodeDrop 1) polling).bus.slots.s1.state = .empty ∧ answered (.nodeDrop 2) polling = some (refusal .state) := by
  decide
theorem test_node_read : answered (.nodeRead 9) run = some (refusal .range) := by decide
theorem test_inject_slot : (after (.injectSlot 1 3) polling).bus.slots.s1.injection = 3 := by decide
theorem test_hold_expiry :
    let s := setSlot .s1 { polling.bus.slots.s1 with state := .silent, reading := some ⟨500, 200⟩, held := true, expiry := some 600 } polling
    (after (.holdExpiry .s1) s).bus.slots.s1.reading = none := by decide

/-- A slot whose room reads 720 per mille, above the threshold. -/
def humid : State :=
  setSlot .s1 { polling.bus.slots.s1 with state := .active, reading := some ⟨720, 215⟩ } polling

theorem test_humidity_minute :
    (after .humidityMinute humid).humidity.slots.s1.boost = .boost ∧ (after .humidityMinute humid).humidity.h = 530 := by decide

/-! ### Lines, events, settings and the link -/

theorem test_line_set : (after (.lineSet 1 3 1 0) run).lines.table.aux1.driven = some .high := by decide
theorem test_line_write : (after (.lineWrite 1 0) (after (.lineSet 1 3 1 0) run)).lines.table.aux1.driven = some .low := by decide
theorem test_line_read : answered (.lineRead 1) run = some (doneWith [0, 0, 0, 2, 0xFF, 2, 0xFF, 1, 0, 0]) := by decide

/-- The pins with AUX1 high. -/
def pins : PerLine PinLevel := { PerLine.const .low with aux1 := .high }

/-- AUX1 a SMOKE INPUT one sample short of settling. -/
def smoking : State :=
  let s := after (.lineSet 1 2 0 0) run
  setLine .aux1 { s.lines.table.aux1 with sample := some .high, sampleRun := 9 } s

theorem test_aux_smoke : (after (.auxSampleEvent pins) smoking).demand.runState = .smokeStop := by decide
theorem test_aux_settles :
    (after (.auxSampleEvent pins) (setLine .aux1 { run.lines.table.aux1 with sample := some .high, sampleRun := 2 } run)).lines.table.aux1.settled
      = some .high := by decide
theorem test_tick_wraps :
    (after .resetSecondTick { run with events := { run.events with seconds := 4294967295 } }).events.seconds = 0 := by decide
theorem test_notices : ((after .noticesTake run).events.queue, (after .noticesTake run).events.ntf) = ([], false) := by decide
theorem test_flags_read : answered .flagsRead run = some (doneWith [0, 0, 0x80, 0x40]) := by decide
theorem test_flags_clear : (after (.flagsClear 0x40) run).lines.alarm = false := by decide
theorem test_event_set : kindEnabled (after (.eventSet 1 1 7) run).settings .fanFail = false := by decide
theorem test_threshold_set : (after (.thresholdSet 7) run).events.ntf = false := by decide
theorem test_frame_served :
    (after (.frameReceived 0x02 5 1 [0]) run).link.tx =
      .reply (frameBytes 0x82 5 4 (0 :: fanReadPayload run.loops.supply)) false := by decide +kernel
theorem test_frame_discard : (after .frameDiscard run).link.checkErrorSeen = true := by decide
theorem test_gap : (after .frameGapTimeout { run with link := { run.link with receiver := .frame [3] } }).link.receiver = .idle := by
  decide
theorem test_hunt : (after .huntTimeout { run with link := { run.link with receiver := .hunt } }).link.receiver = .idle := by decide
theorem test_transmit_end :
    (after .transmitEnd { run with link := { run.link with tx := .reply [] true } }).link.closed = true := by decide
theorem test_trace_due :
    (after .traceDue { run with link := { run.link with tracePeriod := 1, traceNumber := 255 } }).link.tx =
      .trace (frameBytes 0xFE 0 4 (tracePayload run)) := by decide +kernel
theorem test_trace_set : answered (.traceSet 61) run = some (refusal .range) ∧ (after (.traceSet 60) run).link.tracePeriod = 60 := by
  decide
theorem test_link_byte : (after (.linkByteReceived 0xC5 true) run).link.receiver = .frame [] := by decide
theorem test_state_read : answered (.stateRead 3) run = some (refusal .range) := by decide
theorem test_restart : (after .restart run).link.closed = true := by decide
theorem test_setting_write :
    (after (.settingWrite 0x0204 1) run).settings.startLevel = .away
      ∧ answered (.settingWrite 0x0611 0) run = some (refusal .state) := by decide
theorem test_setting_read : answered (.settingRead 0x0203) run = some (doneWith [0, 0, 0x02, 0xBC]) := by decide
theorem test_settings_save : answered .settingsSave (after .settingsSave run) = some (refusal .busy) := by decide
theorem test_save_complete : (after .saveComplete (after .settingsSave run)).store.current = some .bank0 := by decide

/-- The closed port serves no request (R200). -/
theorem test_closed_port :
    (after .settingsSave (after .restart run)).store.saving = none ∧ (after (.levelSet 0) (after .restart run)).demand.runState = .run := by
  decide

/-- The settings of a bank stand in the order of their ids (THE SETTINGS TABLE). -/
theorem test_setting_ids : (List.range 0x0B00).filterMap settingOfId = SettingId.all ∧ SettingId.all.length = 120 := by
  decide +kernel

/-! ### States and operands that meet the hypotheses of the statements

Each theorem is named after the statement; its parts are the hypotheses of the statement's clauses, at a boundary value
where they have one. -/

/-- A part in RUN with one command waiting. -/
def busy : State := { run with pending := [.resetSecondTick] }

/-- A part in RUN with a channel's record, a loop's record or a slot's record replaced. -/
def channelAt (r : ChannelRec) : State := setChannel .tOut r run
def loopAt (st : LoopState) : State := setLoop .extract { run.loops.extract with state := st } run
def slotAt (r : SlotRec) : State := setSlot .s1 r polling

/-- A part in RUN whose link port is in a state. -/
def linkAt (k : Link) : State := { run with link := k }

/-- A valid bank of the default settings. -/
def bank (generation : Nat) : Bank := wholeBank Settings.defaults generation

/-- A part with two banks, a snapshot being saved and a current bank. -/
def banked (b0 b1 : Bank) (saving : Option Settings) (current : Option BankId) : State :=
  { run with store := { run.store with bank0 := b0, bank1 := b1, saving := saving, current := current } }

/-- A part with bank 0 saved and one command waiting. -/
def saved : State := { banked (bank 7) Bank.blank none (some .bank0) with pending := [.resetSecondTick] }

theorem saved_images : storedImages saved.store = [Settings.defaults] := by
  simp [storedImages, validImage, saved, banked, bank, run, inState, ready, State.reset, blank_bank_valid]
  rfl

theorem witness_StepTakesFront : run.pending = [] := rfl

theorem witness_DemandStaysBounded : DemandBounded saved ∧ ∃ t, step saved = .next t :=
  ⟨⟨by rw [allSettings, saved_images]; decide, by decide, by decide⟩, _, rfl⟩

theorem witness_DemandStaysCurrent :
    ((DemandCurrent busy ∧ UnjudgedSlotsQuiet busy) ∧ ∃ t, step busy = .next t)
      ∧ UnjudgedSlotsQuiet polling ∧ polling.bus.slots.s1.state = .enrolling ∧ polling.bus.slots.s2.state = .empty :=
  ⟨⟨by decide, _, rfl⟩, by decide⟩

theorem witness_HeatStaysInterlocked : HeatInterlocked busy ∧ ∃ t, step busy = .next t := ⟨by decide, _, rfl⟩
theorem witness_StoppedFansStayStill : (TargetsStopped busy ∧ FansUndriven busy) ∧ ∃ t, step busy = .next t :=
  ⟨by decide, _, rfl⟩
theorem witness_AllowanceStaysBounded : AllowanceBounded busy ∧ ∃ t, step busy = .next t := ⟨by decide, _, rfl⟩
theorem witness_FrostStaysConsistent : FrostConsistent busy ∧ ∃ t, step busy = .next t := ⟨by decide, _, rfl⟩
theorem witness_HoldStaysExclusive : HoldExclusive busy ∧ ∃ t, step busy = .next t := ⟨by decide, _, rfl⟩
theorem witness_EventsStayConsistent : (QueueBounded busy ∧ AlarmFollows busy) ∧ ∃ t, step busy = .next t :=
  ⟨by decide, _, rfl⟩
theorem witness_SlotsAndBanksStayConsistent :
    (SlotsConsistent saved ∧ BanksConsistent saved ∧ StoreWhole saved) ∧ ∃ t, step saved = .next t :=
  ⟨⟨⟨by rw [allSettings, saved_images]; decide, by decide⟩, fun h => absurd h (by decide), by decide⟩, _, rfl⟩

theorem witness_LinkFrameRoundTrip :
    run.powered = true ∧ run.link.receiver = .idle ∧ (List.replicate 61 (0 : Byte)).length ≤ maxPayload := by decide

/-- A record with every figure at the top of its range. -/
def fullRecord : FilterRec :=
  { volume := 1000000, carry := 9999999, minutes := 1051200, baseline := some 500, dpAvg := 1000, service := .overdue,
    blocked := true, changes := 65535 }

theorem witness_RetainedStoreRoundTrip :
    let s := { State.reset with filter := { State.reset.filter with records := ⟨fullRecord, fullRecord⟩ } };
    s.powered = true ∧ s.filter.rewriting = true ∧ s.filter.held = [] ∧ recordInRange s.filter.records.supply
      ∧ recordInRange s.filter.records.extract := by
  refine ⟨rfl, rfl, rfl, ?_, ?_⟩ <;>
    exact ⟨by decide, by decide, by decide, fun b h => by cases h; decide, by decide, by decide⟩

theorem witness_SavedSettingsAreLoaded :
    run.powered = true ∧ run.link.closed = false ∧ run.store.saving = none ∧ BanksConsistent run :=
  ⟨rfl, rfl, rfl, fun _ => ⟨blank_bank_valid, blank_bank_valid⟩⟩

theorem witness_Resets :
    TakesReset dark .powerUp .powerUp ∧ TakesReset run (.resetLine true) .resetLine
      ∧ TakesReset (linkAt { run.link with closed := true }) .restartReset .restart :=
  ⟨.powerUp, .resetLine true rfl, .restart rfl rfl⟩

theorem witness_PowerUpLoadsAndReports :
    (TakesReset dark .powerUp .powerUp ∧ TakesReset run (.resetLine true) .resetLine
        ∧ TakesReset { banked (bank 65535) Bank.blank (some Settings.defaults) (some .bank0) with
                        link := { run.link with closed := true } } .restartReset .restart)
      ∧ (bankValid (bank 0) = true ∧ bankValid (bank 65535) = true ∧ bankValid Bank.blank = false)
      ∧ (banked (bank 0) (bank 65535) none none).store.saving = none ∧ 0 = (65535 + 1) % 65536
      ∧ (banked (bank 65535) Bank.blank (some Settings.defaults) (some .bank0)).store.saving = some Settings.defaults
      ∧ (banked (bank 65535) Bank.blank (some Settings.defaults) (some .bank0)).store.current = some .bank0
      ∧ (banked Bank.blank Bank.blank (some Settings.defaults) none).store.current = none
      ∧ (State.reset.filter.rewriting = true ∧ Instr.resetLine true ≠ .powerUp)
      ∧ storeGood blankStore = false :=
  ⟨⟨.powerUp, .resetLine true rfl, .restart rfl rfl⟩,
    ⟨wholeBank_valid .., wholeBank_valid .., blank_bank_valid⟩, rfl, rfl, rfl, rfl, rfl, ⟨rfl, by decide⟩,
    blankStore_check.2⟩

/-- A store that a rewrite has written whole is judged RETAINED at the next reset (R101). -/
theorem witness_GoodStore : storeGood (storeImage ⟨fullRecord, fullRecord⟩) = true := by decide +kernel

/-- A RESTART taken with a save in progress and no valid bank loads the saved image (R200). -/
theorem witness_RestartCompletesTheSave (image : Settings) :
    let s := { banked Bank.blank Bank.blank (some image) none with link := { run.link with closed := true } };
    (after .restartReset s).settings = image ∧ (after .restartReset s).store.current = some .bank0 := by
  intro s
  have hb := resetTo_blocks .restart (finishSave (finishRewrite s))
  have hl : loadBank (finishSave (finishRewrite s)).store = some .bank0 :=
    (loadBank_of_valid _ true false (wholeBank_valid image 0) blank_bank_valid).trans rfl
  refine ⟨hb.2.1.trans ?_, (congrArg SettingsStore.current hb.2.2.1).trans hl⟩
  rw [loadedSettings, loadedImage, hl]
  rfl

theorem witness_SupplyLossStopsThePart :
    run.powered = true ∧ 48 ≤ rewriteCutLimit ∧ run.store.saving = none
      ∧ (banked (bank 0) Bank.blank (some Settings.defaults) (some .bank0)).store.saving.isSome = true
      ∧ (banked (bank 0) Bank.blank (some Settings.defaults) (some .bank0)).store.current = some .bank0
      ∧ (banked Bank.blank Bank.blank (some Settings.defaults) none).store.current ≠ some .bank0
      ∧ run.filter.rewriting = false ∧ State.reset.filter.rewriting = true
      ∧ dark.powered = false ∧ Instr.secondEnd ≠ .powerUp := by decide

theorem witness_ConversionsFollowTheTables :
    40 ≤ 40 ∧ 4056 ≤ 4056 ∧ (41 ≤ 41 ∧ 999 < 1000) ∧ (3900 ≤ 3900 ∧ 4055 < 4056)
      ∧ (∃ g ∈ segments, g.cb ≤ 3600 ∧ 3600 < g.ca) ∧ (∃ g ∈ segments, g.cb ≤ 3899 ∧ 3899 < g.ca)
      ∧ convertTemperature 41 = .good 800 ∧ convertPressure 205 = .good 0 := by decide

theorem witness_SampleEventFillsAccounts :
    run.powered = true ∧ ({ run.measurement with samples := 3 }).samples < 4 ∧ 4 ≤ (closing run).measurement.samples
      ∧ (let s := closing (setChannel .tOut { valid 100 with sum := 400 } run);
          channelValue (after (.sampleEvent ⟨3750, 2458, 2458, 2458, 804, 804⟩) s) .tOut = some 100
            ∧ (after (.sampleEvent ⟨3750, 2458, 2458, 2458, 804, 804⟩) s).measurement.channels.tOut.sum = -300) := by decide

theorem witness_SecondEndJudgesChannels :
    run.powered = true ∧ ({ run.measurement with samples := 3 }).samples < 4 ∧ 4 ≤ (closing run).measurement.samples
      ∧ (let r := valid 100; r.bad = 0 ∧ r.state ≠ .failed)
      ∧ (let r := ChannelRec.atReset; r.bad = 0 ∧ r.state = .failed ∧ r.first = false)
      ∧ (let r := { ChannelRec.atReset with first := true, recovery := 9 }; r.bad = 0 ∧ r.state = .failed ∧ 10 ≤ r.recovery + 1)
      ∧ (let r := { ChannelRec.atReset with first := true, recovery := 8 };
          r.bad = 0 ∧ r.state = .failed ∧ r.first = true ∧ r.recovery + 1 < 10)
      ∧ (let r := { valid 100 with bad := 1 }; 0 < r.bad ∧ r.state = .valid)
      ∧ (let r := { failing 100 with badSeconds := 3 }; 0 < r.bad ∧ r.state = .suspect ∧ r.badSeconds + 1 < 5)
      ∧ (let r := failing 100; 0 < r.bad ∧ r.state = .suspect ∧ 5 ≤ r.badSeconds + 1)
      ∧ (let r := { ChannelRec.atReset with bad := 4 }; 0 < r.bad ∧ r.state = .failed)
      ∧ (let t := after .secondEnd
            (closing (setChannel .tOut { valid 100 with sum := 400 } (setChannel .tSup { valid 120 with sum := 480 }
              (setChannel .tExt { valid 150 with sum := 600 } (effSample 100 120 150)))));
          channelValue t .tOut = some 100 ∧ channelValue t .tSup = some 120 ∧ channelValue t .tExt = some 150
            ∧ (50 : Int) ≤ 150 - 100 ∧ t.measurement.fresh = true)
      ∧ ({ run.measurement with quiet := 119 }).quiet ≠ 120
      ∧ run.frost.runSeen = run.demand.runState ∧ run.demand.runState ≠ .startup := by decide

/-- What a second end makes of a channel that becomes absent or present, case by case. -/
theorem witness_SecondEndReactions :
    (let s := closing (setChannel .tOut (failing 20) (setChannel .tExh { ChannelRec.atReset with bad := 4 } run));
        (channelValue s .tOut).isSome = true ∧ channelValue (after .secondEnd s) .tOut = none
          ∧ channelValue (after .secondEnd s) .tExh = none ∧ s.frost.mode ≠ .frostStop ∧ s.frost.mode ≠ .blind
          ∧ (after .secondEnd s).frost.mode = .blind)
      ∧ (let s := closing (guarded .blind);
          s.frost.mode = .blind ∧ channelValue s .tOut = none ∧ (channelValue (after .secondEnd s) .tOut).isSome = true
            ∧ (after .secondEnd s).frost.mode = .watch)
      ∧ (let s := closing (setChannel .tExh (failing 20) (setChannel .tOut (valid 0) (guarded .defrost)));
          s.frost.mode = .defrost ∧ (channelValue s .tExh).isSome = true
            ∧ channelValue (after .secondEnd s) .tExh = none ∧ (after .secondEnd s).frost.mode = .preheat)
      ∧ (let s := closing (setChannel .tOut (valid 0) (guarded .preheat));
          s.frost.mode = .preheat ∧ channelValue s .tExh = none ∧ (channelValue (after .secondEnd s) .tExh).isSome = true)
      ∧ (let s := closing (weather 0 20 run);
          (channelValue s .tOut).isSome = (channelValue (after .secondEnd s) .tOut).isSome
            ∧ (channelValue s .tExh).isSome = (channelValue (after .secondEnd s) .tExh).isSome)
      ∧ (let s := closing (setChannel .dpS (failing 60) (capturing .run 1));
          s.filter.rewriting = false ∧ s.filter.capture.state ≠ .none ∧ s.filter.capture.named.get .supply = true
            ∧ (after .secondEnd s).measurement.channels.dpS.state = .failed
            ∧ (after .secondEnd s).filter.capture = Capture.empty)
      ∧ (let s := closing (setChannel .dpE (failing 60) { run with filter := { run.filter with rewriting := true } });
          s.filter.rewriting = true ∧ (after .secondEnd s).filter.held = [.channelFailed .extract]) := by decide

/-- A part with both loops steady and both loop pressures known. -/
def steadily (s : State) : State :=
  setLoop .supply steady (setLoop .extract steady (setChannel .dpS (valid 60) (setChannel .dpE (valid 60) s)))

theorem witness_InjectSetsTheCount : run.powered = true ∧ run.link.closed = false := by decide

theorem witness_TachEdgeCounts :
    run.powered = true
      ∧ (let l := { run.loops.supply with lastEdge := some 1000 }; ∃ p, l.lastEdge = some p ∧ 1199 < p + 200)
      ∧ run.loops.supply.lastEdge = none
      ∧ (let l := { run.loops.supply with lastEdge := some 1000 }; ∃ p, l.lastEdge = some p ∧ p + 200 ≤ 1200) :=
  ⟨rfl, ⟨1000, rfl, by decide⟩, rfl, 1000, rfl, by decide⟩

theorem witness_WindowEndMeasures :
    run.powered = true ∧ Stream.extract ≠ .supply
      ∧ (let s := steadily { run with filter := { run.filter with rewriting := true } };
          s.filter.rewriting = true ∧ (after (.windowEnd .extract) s).filter.held = [.windowEnd .extract ⟨.locked, 409, 500, some 60, 500, true⟩])
      ∧ run.filter.rewriting = false ∧ run.filter.gateOpen = true ∧ ({ run.filter with gateOpen := false }).gateOpen = false
      ∧ (let t := after (.windowEnd .extract) (steadily run);
          (windowLoop run.settings (run.settings.loops.get .extract) (loopPressure (steadily run) .extract) steady).state = .locked
            ∧ run.settings.fRef / 2 ≤ (t.loops.get .extract).flow
            ∧ channelValue (steadily run) .dpE = some 60 ∧ t.filter.latest.get .extract = some 89
            ∧ t.filter.sampled.get .extract = true)
      ∧ ((windowLoop run.settings (run.settings.loops.get .extract) 0 run.loops.extract).state ≠ .locked
          ∧ channelValue run .dpE = none)
      ∧ run.filter.capture.state = .none := by decide

/-- What a window end does to a capture, case by case. -/
theorem witness_WindowEndCaptures :
    (let s := setLoop .supply { run.loops.supply with state := .starting, stallCount := 2, startTime := 1500 } (capturing .run 1);
        s.filter.capture.state ≠ .none ∧ s.demand.runState = .run
          ∧ (after (.windowEnd .supply) s).demand.runState = .faultStop
          ∧ (after (.windowEnd .supply) s).filter.capture = Capture.empty)
      ∧ (let c := steadily (capturing .wait 0);
          let s := { c with filter := { c.filter with capture := { c.filter.capture with windows := 2 } } };
          let t := after (.windowEnd .extract) s;
          s.filter.capture.state = .wait ∧ 2 ≤ s.filter.capture.windows
            ∧ (∀ y ∈ [Stream.supply, .extract], (t.loops.get y).state = .locked ∧ (t.loops.get y).taken = (t.loops.get y).offered)
            ∧ t.filter.capture.state = .run ∧ t.demand.runState = s.demand.runState)
      ∧ (let s := steadily (capturing .wait 0);
          s.filter.capture.state = .wait ∧ s.filter.capture.windows + 1 < 2
            ∧ (after (.windowEnd .supply) s).filter.capture.windows = 1)
      ∧ (let s := steadily (capturing .run 1);
          let t := after (.windowEnd .extract) s;
          s.filter.capture.state = .run ∧ s.filter.capture.named.get .extract = true
            ∧ t.filter.capture.sum.get .extract = 5690 + 89 ∧ t.filter.capture.count.get .extract = 2
            ∧ s.filter.capture.named.get .supply = true ∧ t.filter.capture.sum.get .supply = 5690)
      ∧ (let s := setLoop .extract { steady with state := .unlocked, inBand := 2, offered := 409, taken := 409, speedTarget := 1500 } (steadily (capturing .run 1));
          (after (.windowEnd .extract) s).filter.capture.lockOut.get .extract = none)
      ∧ (let s := setLoop .extract { steady with outBand := 1 } (steadily (capturing .run 1));
          (after (.windowEnd .extract) s).loops.extract.state = .unlocked
            ∧ (after (.windowEnd .extract) s).filter.capture.lockOut.get .extract = some 0) := by decide

theorem witness_ExtractLoopChangesState :
    (∀ st ∈ [LoopState.stopped, .starting, .settling, .locked, .unlocked, .stalled, .failed],
        (loopAt st).powered = true ∧ (loopAt st).loops.extract.state = st)
      ∧ (loopAt .locked).settings.lockBand ≠ .off
      ∧ ({ Settings.defaults with lockBand := .off }).lockBand = .off
      ∧ (running .settling = true ∧ running (after (.windowEnd .extract) (loopAt .settling)).loops.extract.state = true)
      ∧ (let s := setLoop .extract { run.loops.extract with offered := 450 } run;
          (after (.windowEnd .extract) s).loops.extract.state = .starting ∧ s.loops.extract.state ≠ .starting)
      ∧ (let s := setLoop .extract { (loopAt .locked).loops.extract with taken := 450, offered := 450, drive := 300, noEdge := 2 } run;
          (after (.windowEnd .extract) s).loops.extract.state = .stalled ∧ s.loops.extract.state ≠ .stalled)
      ∧ (let s := setLoop .extract { steady with outBand := 1 } (steadily run);
          (after (.windowEnd .extract) s).loops.extract.state = .unlocked ∧ s.loops.extract.state = .locked)
      ∧ (let s := steadily { run with governor := { run.governor with r := 2500 } };
          (after (.windowEnd .supply) s).demand.runState = .run ∧ (after (.windowEnd .supply) s).governor.tS = 0
            ∧ (windowLoop s.settings (s.settings.loops.get .supply) 60 s.loops.supply).state ≠ .failed
            ∧ (after (.windowEnd .supply) s).loops.supply.state = .stopped)
      ∧ (let s := setLoop .supply { run.loops.supply with state := .starting, stallCount := 2, startTime := 1500 } run;
          (after (.windowEnd .supply) s).loops.supply.state = .failed ∧ s.loops.supply.state ≠ .failed)
      ∧ (let s := setLoop .supply { run.loops.supply with state := .failed, failReport := false } (inState .faultStop);
          s.loops.supply.state = .failed ∧ s.loops.supply.failReport = false
            ∧ flagRaised (after (.windowEnd .supply) s) .fanFail = true)
      ∧ ({ run.loops.supply with state := .failed, failReport := true }).failReport = true := by decide

/-- What a window end leaves in the counts, the times and the AT CEILING mark, at their limits. -/
theorem witness_WindowEndCounts :
    (let s := setLoop .extract { steady with state := .settling, inBand := 1, settling := 18, speedTarget := 2150, offered := 409, taken := 409 } (steadily run);
        let l := (after (.windowEnd .extract) s).loops.extract;
        (l.state, l.inBand, l.settling, l.stallCount) = (.settling, 2, 19, 0))
      ∧ (let s := setLoop .extract { steady with state := .unlocked, inBand := 2, outBand := 2, stallCount := 2, offered := 409, taken := 409 } (steadily run);
          let l := (after (.windowEnd .extract) s).loops.extract;
          (l.state, l.inBand, l.outBand, l.stallCount) = (.locked, 3, 0, 0))
      ∧ (let s := setLoop .extract { steady with edges := 0, span := 0, noEdge := 2, stallCount := 1 } (steadily run);
          let l := (after (.windowEnd .extract) s).loops.extract;
          (l.state, l.noEdge, l.stallCount, l.pauseTime, l.drive) = (.stalled, 0, 2, 0, 0))
      ∧ (let s := setLoop .extract { run.loops.extract with state := .starting, startTime := 1000 } run;
          let l := (after (.windowEnd .extract) s).loops.extract;
          (l.state, l.startTime) = (.starting, 1500))
      ∧ (let s := setLoop .extract { run.loops.extract with state := .stalled, pauseTime := 9000 } run;
          let l := (after (.windowEnd .extract) s).loops.extract;
          (l.state, l.pauseTime) = (.stalled, 9500))
      ∧ (let s := setLoop .extract { steady with drive := 1000 } (steadily run);
          (after (.windowEnd .extract) s).loops.extract.atCeiling = true)
      ∧ (let s := steadily { run with governor := { run.governor with r := 2500 } };
          let l := (after (.windowEnd .supply) s).loops.supply;
          (l.state, l.drive, l.outBand, (after (.windowEnd .supply) s).loops.extract.state) = (.stopped, 0, 0, .stopped)) := by
  decide

theorem witness_ThirdStallStopsTheUnit :
    let s := setLoop .supply { run.loops.supply with state := .starting, stallCount := 2, startTime := 1500 }
      (setLoop .extract { run.loops.extract with state := .locked } run);
    s.powered = true ∧ s.demand.runState = .run ∧ s.loops.supply.state = .starting ∧ s.loops.supply.stallCount = 2
      ∧ 2000 ≤ s.loops.supply.startTime + s.loops.supply.window ∧ s.loops.supply.edges < 2
      ∧ Stream.extract ≠ .supply ∧ s.loops.extract.state ≠ .failed := by decide

theorem witness_GovernorFormsTargets :
    run.powered = true
      ∧ ((inState .rest).demand.runState ≠ .run ∧ (inState .rest).governor.tS = 0 ∧ (inState .rest).governor.tE = 0)
      ∧ run.demand.runState = .run ∧ (after (.windowEnd .supply) run).demand.runState = .run := by decide

theorem witness_GovernorJudgesAllowance :
    let s := setLoop .extract { run.loops.extract with flow := 1000 }
      { run with governor := { run.governor with allowance := 1 } };
    (s.powered = true ∧ 0 < s.governor.allowance ∧ (after (.windowEnd .supply) s).governor.allowance = 0
        ∧ (after (.windowEnd .supply) s).frost.exhaustion = true)
      ∧ (let none' := { s with governor := { s.governor with allowance := 0 } };
          none'.governor.allowance = 0 ∧ (after (.windowEnd .supply) none').governor.allowance = 0
            ∧ (after (.windowEnd .supply) none').frost.exhaustion = false
            ∧ flagRaised (after (.windowEnd .supply) none') .allowanceExhausted = false)
      ∧ AllowanceBounded s := by decide

theorem witness_FanReadAnswers : run.powered = true ∧ run.link.closed = false := by decide

theorem witness_LevelSetSelects :
    run.powered = true ∧ run.link.closed = false ∧ levelOfCode (5 : Byte).toNat = none ∧ levelOfCode (3 : Byte).toNat = some run.demand.level
      ∧ (levelOfCode (4 : Byte).toNat = some .high ∧ Level.high ≠ run.demand.level)
      ∧ run.demand.runState = .run ∧ levelOfCode (0 : Byte).toNat = some .off
      ∧ (inState .rest).demand.runState ≠ .run := by decide

theorem witness_BoostSetsTheRecord :
    run.powered = true ∧ run.link.closed = false ∧ 2500 < (2501 : Half).toNat ∧ 120 < (121 : Byte).toNat ∧ (2500 : Half).toNat ≤ 2500
      ∧ (120 : Byte).toNat ≤ 120 ∧ (after (.boost 100 0) run).demand.d = run.demand.d
      ∧ (after (.boost 2500 120) run).demand.d ≠ run.demand.d := by decide

theorem witness_HoldTakeIsAcceptedInRun :
    run.powered = true ∧ run.link.closed = false ∧ (0 : Half).toNat = 0 ∧ 2500 < (2501 : Half).toNat ∧ 0 < (1 : Half).toNat
      ∧ (2500 : Half).toNat ≤ 2500 ∧ ready.demand.runState ≠ .run ∧ run.demand.runState = .run
      ∧ run.demand.captureInForce = false ∧ run.frost.mode ≠ .defrost ∧ run.frost.mode ≠ .frostStop := by decide

theorem witness_ResumeLeavesStops :
    run.powered = true ∧ run.link.closed = false ∧ (run.demand.runState ≠ .smokeStop ∧ run.demand.runState ≠ .faultStop)
      ∧ ((inState .smokeStop).demand.runState = .smokeStop ∧ (inState .smokeStop).demand.smokeClear < 5000)
      ∧ (let s := { inState .smokeStop with demand := { (inState .smokeStop).demand with smokeClear := 5000 } };
          s.demand.runState = .smokeStop ∧ Line.all.any (fun l => s.demand.smokeActive.get l) = false
            ∧ 5000 ≤ s.demand.smokeClear)
      ∧ (let s := setLoop .supply { run.loops.supply with state := .failed } (inState .faultStop);
          s.demand.runState = .faultStop ∧ s.loops.supply.state = .failed ∧ s.loops.extract.state ≠ .failed
            ∧ s.demand.level ≠ .off) := by decide

theorem witness_DemandSecondCountsDown :
    run.powered = true ∧ run.demand.boost = none
      ∧ (let s := { run with demand := { run.demand with boost := some ⟨900, 2⟩ } };
          s.demand.boost = some ⟨900, 2⟩ ∧ 1 < (⟨900, 2⟩ : HostBoost).seconds)
      ∧ (let s := { run with demand := { run.demand with boost := some ⟨900, 1⟩ } };
          s.demand.boost = some ⟨900, 1⟩ ∧ (⟨900, 1⟩ : HostBoost).seconds ≤ 1)
      ∧ run.demand.runState ≠ .smokeStop
      ∧ ((inState .smokeStop).demand.runState = .smokeStop ∧ flagRaised (inState .smokeStop) .smokeStop = false) := by
  decide

theorem witness_DemandTimersExpire :
    run.powered = true ∧ run.demand.hold = none ∧ ({ run.demand with silence := 29999 }).silence < 30000
      ∧ (({ run.demand with hold := some 600, silence := 30000 }).hold.isSome = true
          ∧ 30000 ≤ ({ run.demand with hold := some 600, silence := 30000 }).silence) := by decide

theorem witness_FrostPeriodJudgesAndStartsACycle :
    run.powered = true
      ∧ (channelValue run .tOut = none ∧ channelValue run .tExh = none ∧ run.frost.mode ≠ .frostStop
          ∧ run.frost.mode ≠ .blind)
      ∧ (channelValue (weather 0 0 (guarded .blind)) .tOut = some 0 ∧ (guarded .blind).frost.mode = .blind)
      ∧ (guarded .frostStop).frost.mode = .frostStop
      ∧ (channelValue (weather 30 0 run) .tOut = some 30 ∧ run.frost.mode = .idle)
      ∧ ((inState .startup).frost.runSeen ≠ .run ∧ channelValue (weather 40 0 (guarded .watch)) .tOut = some 40
          ∧ Settings.defaults.tWatch + 10 ≤ 40)
      ∧ ((guarded .watch).frost.mode = .watch ∧ (guarded .watch).frost.runSeen = .run)
      ∧ (channelValue (weather 0 9 (guarded .watch)) .tExh = some 9 ∧ (9 : Int) < Settings.defaults.tFrost)
      ∧ (let s := setChannel .tOut (valid 29) (guarded .watch);
          channelValue s .tExh = none ∧ channelValue s .tOut = some 29 ∧ (29 : Int) < s.settings.tWatch)
      ∧ (channelValue (weather 39 10 (guarded .watch)) .tExh).isSome = true
      ∧ (guarded .preheat).frost.mode = .preheat := by decide

theorem witness_FrostPeriodEscalates :
    let cold := weather 0 9 { guarded .preheat with frost := { (guarded .preheat).frost with cold := 5, requested := 1000 } };
    let warm := weather 0 26 { guarded .preheat with frost := { (guarded .preheat).frost with warm := 2 } };
    (cold.powered = true ∧ cold.frost.runSeen = .run ∧ cold.demand.runState = .run)
      ∧ (channelValue cold .tExh = some 9 ∧ cold.frost.mode = .preheat ∧ cold.settings.aEnter ≤ cold.governor.allowance)
      ∧ (after .frostPeriod cold).frost.mode = .defrost
      ∧ (let poor := { cold with governor := { cold.governor with allowance := 4999 } };
          poor.governor.allowance < poor.settings.aEnter ∧ (after .frostPeriod poor).frost.mode = .frostStop)
      ∧ (channelValue warm .tExh = some 26 ∧ (after .frostPeriod warm).frost.mode = .watch)
      ∧ (after .frostPeriod (weather 0 24 warm)).frost.mode = .preheat
      ∧ (Settings.defaults.tRelease ≤ 40 ∧ (after .frostPeriod (weather 0 40 (guarded .defrost))).frost.mode = .preheat)
      ∧ (39 < Settings.defaults.tRelease ∧ (after .frostPeriod (weather 0 39 (guarded .defrost))).frost.mode = .defrost)
      ∧ (let s := setChannel .tOut (valid 40) { guarded .preheat with frost := { (guarded .preheat).frost with warm := 2 } };
          channelValue s .tExh = none ∧ channelValue s .tOut = some 40 ∧ (after .frostPeriod s).frost.mode = .watch) := by
  decide

theorem witness_FrostSignalsAndTimersEndTheirStates :
    run.powered = true ∧ run.frost.mode ≠ .defrost ∧ (guarded .defrost).frost.mode = .defrost
      ∧ (channelValue (weather 0 9 (guarded .defrost)) .tExh = some 9 ∧ (9 : Int) < Settings.defaults.tFrost)
      ∧ (channelValue (weather 0 10 (guarded .defrost)) .tExh = some 10 ∧ Settings.defaults.tFrost ≤ 10)
      ∧ run.frost.mode ≠ .frostStop ∧ (guarded .frostStop).frost.mode = .frostStop
      ∧ (inState .frostStop).demand.runState = .frostStop ∧ run.demand.level ≠ .off
      ∧ ({ run.demand with level := .off }).level = .off := by decide

theorem witness_FilterMinuteJudgesTheRecords :
    (run.powered = true ∧ run.filter.rewriting = false)
      ∧ (let s := takeSample .supply 250 run;
          s.filter.sampled.get .supply = true ∧ s.filter.latest.get .supply = some 250)
      ∧ run.filter.sampled.get .supply = false
      ∧ (FilterRec.reinitialised.blocked = false ∧ fullRecord.blocked = true)
      ∧ (FilterRec.reinitialised.service = .unknown ∧ fullRecord.service ≠ .unknown)
      ∧ (let s := setRecord .supply { fullRecord with blocked := false } run;
          ((after .filterMinute s).filter.records.get .supply).blocked = true ∧ flagRaised s .filterBlocked = false)
      ∧ (let s := setRecord .supply { fullRecord with service := .good } run;
          ((after .filterMinute s).filter.records.get .supply).service ≠ .good) := by decide

theorem witness_RewriteHoldsEvents :
    State.reset.powered = true ∧ State.reset.filter.rewriting = true ∧ run.filter.rewriting = false
      ∧ State.reset.link.closed = false ∧ filterAsk (.filterRead 1) = some (.read 1)
      ∧ State.reset.filter.held = []
      ∧ (after .filterMinute State.reset).filter.held = [.minute ⟨false, false⟩]
      ∧ (after (.filterRead 1) State.reset).filter.held = [.request none (.read 1)]
      ∧ (let s := after (.filterRead 1) (after .filterMinute State.reset);
          s.filter.held = [.minute ⟨false, false⟩, .request none (.read 1)]
            ∧ (filterTake (.minute ⟨false, false⟩) (after .rewriteEnd State.reset)).filter.rewriting = true
            ∧ (after .rewriteEnd s).filter.held = [.request none (.read 1)])
      ∧ (let s := after .filterMinute (after (.filterRead 1) State.reset);
          s.filter.held = [.request none (.read 1), .minute ⟨false, false⟩]
            ∧ (filterTake (.request none (.read 1)) (after .rewriteEnd State.reset)).filter.rewriting = false
            ∧ (after .rewriteEnd s).filter.rewriting = true ∧ (after .rewriteEnd s).filter.held = []) := by decide +kernel

theorem witness_FilterChangedStartsCapture :
    run.powered = true ∧ run.link.closed = false ∧ run.filter.rewriting = false ∧ 2 < (3 : Byte).toNat ∧ (2 : Byte).toNat ≤ 2
      ∧ ready.demand.runState ≠ .run
      ∧ (run.filter.gateOpen = true ∧ run.demand.runState = .run ∧ run.frost.mode = .idle ∧ run.demand.hold = none
          ∧ run.filter.capture.state = .none)
      ∧ (after (.filterChanged 2) run).demand.d ≠ run.demand.d := by decide

theorem witness_CaptureEnds :
    ((capturing .run 1).powered = true ∧ (capturing .run 1).filter.rewriting = false)
      ∧ run.filter.capture.state ≠ .wait ∧ (capturing .wait 0).filter.capture.state = .wait
      ∧ (capturing .run 1).filter.capture.lockOut.get .extract = none
      ∧ ((capturing .run 1).filter.capture.state = .run
          ∧ ((capturing .run 1).filter.capture.lockOut.get .supply).isSome = true)
      ∧ ((capturing .run 0).filter.capture.named.get .supply = true ∧ (capturing .run 0).filter.capture.count.get .supply = 0)
      ∧ (∀ x ∈ [Stream.supply, .extract], (capturing .run 1).filter.capture.count.get x ≠ 0)
      ∧ (Capture.empty.named.get .supply = false) := by decide

theorem witness_StartReportAndFilterReadAnswer :
    run.powered = true ∧ run.link.closed = false ∧ run.filter.rewriting = false ∧ run.filter.gateOpen = true
      ∧ ({ run.filter with gateOpen := false }).gateOpen = false := by decide

theorem witness_RoundsPollAndHoldsExpire :
    run.powered = true ∧ run.bus.round = none ∧ (polling.bus.round.map Poll.windowOpen) = some true
      ∧ ((after .pollPeriodStart polling).bus.round.map Poll.windowOpen) = some false := by decide

theorem witness_AnswerBytesAreCollected :
    run.powered = true ∧ run.bus.round = none
      ∧ ((after .pollPeriodStart polling).bus.round.map Poll.windowOpen) = some false
      ∧ (polling.bus.round.map (fun p => (p.windowOpen, p.answer))) = some (true, [])
      ∧ ((0x95 : Byte) ≠ 0x96) ∧ (List.replicate 7 (⟨0x96, true⟩ : BusByte)).length < 8 := by decide

/-- The poll in progress of `polling`, its answer as given. -/
def pollWith (answer : List BusByte) : Poll :=
  { slot := .s1, address := 3, windowOpen := true, discard := false, answer := answer }

/-- `polling` with the answer received so far and its slot's record. -/
def answering (answer : List BusByte) (r : SlotRec) : State :=
  let s := slotAt r;
  { s with bus := { s.bus with round := some (pollWith answer) } }

theorem witness_PollEndJudgesTheSlot :
    let r := { SlotRec.cleared with state := .active };
    (Instr.answerWindowClose = .answerWindowClose ∧ (answering reading r).bus.round = some (pollWith reading)
        ∧ (pollWith reading).windowOpen = true)
      ∧ ((answering (reading.take 8) r).bus.round = some (pollWith (reading.take 8)) ∧ (reading.take 8).length = 8)
      ∧ (SlotRec.cleared.state = .empty ∧ r.state ≠ .empty ∧ (pollWith reading).discard = false)
      ∧ (after .answerWindowClose (answering reading r)).bus.slots.s1.outcome = .good
      ∧ (after .answerWindowClose (answering (reading.take 8) r)).bus.slots.s1.outcome = .check
      ∧ (let s := answering reading r;
          let p := { pollWith reading with address := 4 };
          (after .answerWindowClose { s with bus := { s.bus with round := some p } }).bus.slots.s1.outcome = .wrongAddress)
      ∧ ({ r with miss := 1 }).miss < 2
      ∧ (∀ st ∈ [SlotState.active, .faulty, .silent, .enrolling],
          (answering [] { r with state := st, miss := 2 }).bus.slots.s1.state = st
            ∧ 2 ≤ (answering [] { r with state := st, miss := 2 }).bus.slots.s1.miss)
      ∧ ({ r with lastGood := some 0 }).lastGood = some 0 := by decide +kernel

theorem witness_NodeRequestsChangeTheSlotTable :
    run.powered = true ∧ run.link.closed = false ∧ (0 : Byte).toNat = 0 ∧ 15 < (16 : Byte).toNat ∧ 4 < (5 : Byte).toNat
      ∧ (0 < (1 : Byte).toNat ∧ (15 : Byte).toNat ≤ 15 ∧ (4 : Byte).toNat ≤ 4)
      ∧ (polling.bus.slots.s1.state ≠ .empty ∧ polling.settings.slots.s1 = some ⟨3, .bath⟩)
      ∧ (roomKindOfCode (1 : Byte).toNat = some .bath
          ∧ Slot.all.find? (fun k => decide ((polling.bus.slots.get k).state = .empty)) = some .s2)
      ∧ slotOfNumber (9 : Byte).toNat = none ∧ slotOfNumber (1 : Byte).toNat = some .s1
      ∧ (run.bus.slots.get .s1).state = .empty ∧ DemandCurrent polling := by decide

theorem witness_HumidityMinuteJudgesTheSlots :
    run.powered = true ∧ channelValue run .tOut = none ∧ channelValue (weather 0 0 run) .tOut = some 0
      ∧ (after .humidityMinute run).humidity.h = run.humidity.h
      ∧ (after .humidityMinute humid).humidity.h ≠ humid.humidity.h
      ∧ (run.bus.slots.get .s1).state = .empty ∧ (humid.bus.slots.get .s1).state = .active
      ∧ (humid.humidity.slots.get .s1).boost = .quiet
      ∧ (let r := { HumidRec.atReset with boost := .boost, boostMinutes := 9 }; r.boost = .boost ∧ 10 ≤ r.boostMinutes + 1)
      ∧ (let r := { HumidRec.atReset with boost := .boost, boostMinutes := 89 };
          r.boost = .boost ∧ Settings.defaults.boostMax ≤ r.boostMinutes + 1)
      ∧ (let r := { HumidRec.atReset with boost := .boost, boostMinutes := 88 };
          r.boost = .boost ∧ r.boostMinutes + 1 < Settings.defaults.boostMax)
      ∧ (let r := { HumidRec.atReset with boost := .runOn, runOnMinutes := 14 };
          r.boost = .runOn ∧ Settings.defaults.runOnTime ≤ r.runOnMinutes + 1)
      ∧ (let r := { HumidRec.atReset with boost := .runOn, runOnMinutes := 13 };
          r.boost = .runOn ∧ r.runOnMinutes + 1 < Settings.defaults.runOnTime) := by decide

theorem witness_AuxSampleSettlesTheLines :
    run.powered = true
      ∧ ((after (.auxSampleEvent pins) run).events = run.events
          ∧ (after (.auxSampleEvent pins) run).demand.runState = run.demand.runState)
      ∧ (let s := setLine .aux1 { run.lines.table.aux1 with driven := some .low, mismatch := 2 } run;
          (after (.auxSampleEvent pins) s).lines.table.aux1.fault = true ∧ s.lines.table.aux1.fault = false)
      ∧ (let s := setLineConfig .aux1 ⟨.pullSwitch, .activeHigh, .rising⟩
            (setLine .aux1 { run.lines.table.aux1 with sample := some .high, sampleRun := 2, settled := some .low } run);
          s.lines.table.aux1.settled = some .low
            ∧ (after (.auxSampleEvent pins) s).lines.table.aux1.settled = some .high
            ∧ (after (.auxSampleEvent pins) s).demand.pullTimer = 1200
            ∧ flagRaised (after (.auxSampleEvent pins) s) .lineEdge = true)
      ∧ ((smoking.settings.lines.get .aux1).function = .smokeInput
          ∧ (smoking.lines.table.get .aux1).settled ≠ ((after (.auxSampleEvent pins) smoking).lines.table.get .aux1).settled
          ∧ activeOf (smoking.settings.lines.get .aux1).polarity (pins.get .aux1) = true
          ∧ smoking.demand.runState ≠ .smokeStop)
      ∧ (let s := after (.auxSampleEvent pins) smoking;
          let clear := setLine .aux1 { s.lines.table.aux1 with sample := some .low, sampleRun := 9 } s;
          let t := after (.auxSampleEvent (PerLine.const .low)) clear;
          clear.demand.smokeActive.aux1 = true ∧ t.demand.smokeActive.aux1 = false
            ∧ t.demand.smokeClear = 0 ∧ t.demand.smokeRunning = true
            ∧ (after (.auxSampleEvent (PerLine.const .low)) t).demand.smokeClear = 10
            ∧ t.demand.smokeActive = (after (.auxSampleEvent (PerLine.const .low)) t).demand.smokeActive)
      ∧ (run.filter.capture.state = .none
          ∧ (after (.auxSampleEvent pins) (capturing .wait 1)).filter.capture.timer = 10
          ∧ (after (.auxSampleEvent pins) (capturing .run 1)).filter.capture.lockOut = ⟨some 10, none⟩)
      ∧ (let s := { smoking with filter := (capturing .run 1).filter };
          s.demand.runState = .run ∧ s.filter.rewriting = false ∧ s.filter.capture.state ≠ .none
            ∧ (after (.auxSampleEvent pins) s).filter.capture = Capture.empty
            ∧ ({ s.filter with rewriting := true }).rewriting = true) := by decide

theorem witness_LineSetConfigures :
    run.powered = true ∧ run.link.closed = false ∧ lineOfNumber (7 : Byte).toNat = none ∧ 6 < (7 : Byte).toNat ∧ 1 < (2 : Byte).toNat
      ∧ 3 < (4 : Byte).toNat
      ∧ (lineOfNumber (6 : Byte).toNat = some .aux6 ∧ lineFunctionOfCode (6 : Byte).toNat = some .heaterEnable
          ∧ polarityOfCode (1 : Byte).toNat = some .activeLow ∧ edgeOfCode (3 : Byte).toNat = some .both)
      ∧ (let s := after (.auxSampleEvent pins) smoking;
          s.demand.runState = .smokeStop ∧ (s.settings.lines.get .aux1).function = .smokeInput
            ∧ (∀ m ∈ Line.all, m ≠ .aux1 → (s.settings.lines.get m).function ≠ .smokeInput)
            ∧ s.lines.table.aux1.settled = some .high ∧ activeOf .activeHigh .high = true
            ∧ (let two := after (.lineSet 2 2 0 0) s;
                (∃ m ∈ Line.all, m ≠ .aux1 ∧ (two.settings.lines.get m).function = .smokeInput)
                  ∧ (after (.lineSet 1 0 0 0) two).demand.smokeRunning = true
                  ∧ (after (.lineSet 1 0 0 0) two).demand.smokeActive.aux1 = false))
      ∧ run.demand.runState ≠ .smokeStop
      ∧ (run.settings.lines.get .aux1).function = .generalIn ∧ LineFunction.heaterEnable ≠ .generalIn := by decide

theorem witness_LineWriteAndReadAnswer :
    run.powered = true ∧ run.link.closed = false ∧ lineOfNumber (0 : Byte).toNat = none ∧ 1 < (2 : Byte).toNat
      ∧ lineOfNumber (6 : Byte).toNat = some .aux6 ∧ (1 : Byte).toNat ≤ 1 := by decide

theorem witness_EventUnitServesItsRequests :
    run.powered = true ∧ run.link.closed = false ∧ 2 ^ 25 ≤ (0x2000000 : Word).toNat ∧ (0x1FFFFFF : Word).toNat < 2 ^ 25
      ∧ run.events.severe = true ∧ decide (run.events.flags &&& ~~~(0x40 : BitVec 25) &&& 0x7F ≠ 0) = false := by decide

/-- An advisory and a severe record, and a part with a queue. -/
def advisory : Notice :=
  { kind := some .lineEdge, source := .line .aux1, severe := false, level := 2, count := 255, first := 0, last := 0 }
def severely : Notice :=
  { kind := some .fanFail, source := .fan .supply, severe := true, level := 6, count := 1, first := 0, last := 0 }
def overflow : Notice := { kind := none, source := .none, severe := false, level := 7, count := 1, first := 0, last := 0 }
def queued (q : List Notice) : State := { run with events := { run.events with queue := q } }

/-- Each case of the placement of an occurrence (R175 to R178). -/
theorem witness_Placement :
    kindEnabled (after (.eventSet 1 1 7) run).settings .fanFail = false ∧ kindEnabled run.settings .fanFail = true
      ∧ ((queued [severely, advisory]).events.queue.getLast? = some advisory
          ∧ (report .lineEdge (.line .aux1) (queued [severely, advisory])).events.queue = [severely, advisory])
      ∧ (report .lineEdge (.line .aux2) (queued [severely])).events.queue.length = 2
      ∧ ((List.replicate 14 severely).countP (fun n => n.kind.isSome) = 14
          ∧ (report .lineEdge (.line .aux2) (queued (List.replicate 14 severely))).events.queue.length = 15)
      ∧ (let q := List.replicate 14 severely ++ [advisory];
          q = List.replicate 14 severely ++ advisory :: [] ∧ 15 ≤ q.countP (fun n => n.kind.isSome)
            ∧ ((report .fanFail (.fan .extract) (queued q)).events.queue.map Notice.count) = List.replicate 14 1 ++ [255, 1])
      ∧ (let q := List.replicate 15 severely ++ [overflow];
          15 ≤ q.countP (fun n => n.kind.isSome)
            ∧ ((report .fanFail (.fan .extract) (queued q)).events.queue.map Notice.count) = List.replicate 15 1 ++ [2]
            ∧ ((report .fanFail (.fan .extract) (queued q)).events.queue.getLast?.map Notice.severe) = some true)
      ∧ (let q := List.replicate 15 severely;
          ((report .lineEdge (.line .aux1) (queued q)).events.queue.map Notice.level) = List.replicate 15 6 ++ [7]) := by
  decide

theorem witness_EventSetAndThresholdSetWrite :
    run.powered = true ∧ run.link.closed = false ∧ (0 : Byte).toNat = 0 ∧ 25 < (26 : Byte).toNat ∧ 1 < (2 : Byte).toNat ∧ 7 < (8 : Byte).toNat
      ∧ (kindCode .linkError = (25 : Byte).toNat ∧ (1 : Byte).toNat ≤ 1 ∧ (7 : Byte).toNat ≤ 7)
      ∧ EventKind.fanFail ≠ .linkError := by decide

theorem witness_FramesAreServedOrHeld :
    run.powered = true ∧ (List.replicate 61 (0 : Byte)).length ≤ maxPayload
      ∧ ({ run.link with closed := true }).closed = true
      ∧ (run.link.closed = false ∧ run.link.tx = .idle ∧ run.link.awaiting = false ∧ run.link.holder = none)
      ∧ (0x1A < (0x1B : Byte).toNat ∧ (0 : Byte).toNat = 0)
      ∧ (requestLength (0x02 : Byte).toNat = some 1 ∧ ([] : List Byte).length ≠ 1)
      ∧ (0x1A : Byte).toNat = 0x1A
      ∧ (requestRow 0x02 [1] = some (.fanRead 1) ∧ filterAsk (.fanRead 1) = none)
      ∧ (requestRow 0x19 [] = some .startReport ∧ run.filter.rewriting = false)
      ∧ ((0x15 : Byte).toNat = 0x15 ∧ ([6, 1] : List Byte).length = 2 ∧ requestRow 0x15 [6, 1] = none)
      ∧ (requestRow 0x19 [] = some .startReport ∧ filterAsk .startReport = some .startReport
          ∧ State.reset.filter.rewriting = true ∧ State.reset.link.tx = .idle ∧ State.reset.link.awaiting = false)
      ∧ (after (.frameReceived 0x19 0 1 []) State.reset).link.awaiting = true
      ∧ (let k := { run.link with tx := .trace [] }; k.tx ≠ .idle ∧ k.holder = none)
      ∧ ({ run.link with holder := some ⟨2, 0, 1, [0]⟩ }).holder.isSome = true := by decide

theorem witness_ReceiverFollowsTheBytes :
    run.powered = true ∧ run.link.closed = false ∧ run.link.receiver = .idle
      ∧ (linkAt { run.link with closed := true }).link.closed = true
      ∧ (linkAt { run.link with receiver := .hunt }).link.receiver = .hunt
      ∧ (linkAt { run.link with receiver := .frame [] }).link.receiver = .frame []
      ∧ ((2 : Byte).toNat < 3 ∧ 64 < (65 : Byte).toNat) ∧ (3 ≤ (3 : Byte).toNat ∧ (64 : Byte).toNat ≤ 64)
      ∧ (let body := ([3, 6, 0, 1] : List Byte);
          let frame := body ++ u16 (crc16 body).toNat;
          frame.length = ((frame[0]?).getD 0).toNat + 3 ∧ frame.take (frame.length - 2) = body
            ∧ frame.dropLast ≠ [] ∧ frame.dropLast.length ≠ 6) := by decide +kernel

theorem witness_TransmitterTakesTheNextFrame :
    run.powered = true ∧ run.link.tx = .idle ∧ run.link.closed = false ∧ run.link.holder = none
      ∧ run.link.traceWait = none
      ∧ ({ run.link with tx := .reply [] true }).tx = .reply [] true
      ∧ ({ run.link with tx := .trace [] }).tx = .trace []
      ∧ ({ run.link with traceWait := some 255 }).traceWait = some 255
      ∧ (({ run.link with holder := some ⟨2, 0, 1, [0]⟩ }).holder = some ⟨2, 0, 1, [0]⟩
          ∧ requestRow 2 [0] = some (.fanRead 0) ∧ filterAsk (.fanRead 0) = none)
      ∧ (0x1A < (0x1B : Byte).toNat ∧ (requestLength (0x02 : Byte).toNat = some 1 ∧ ([] : List Byte).length ≠ 1)
          ∧ (0x1A : Byte).toNat = 0x1A ∧ requestRow 0x15 [6, 1] = none)
      ∧ (requestRow 0x07 [0] = some (.filterRead 0) ∧ filterAsk (.filterRead 0) = some (.read 0)
          ∧ State.reset.filter.rewriting = true)
      ∧ run.link.tracePeriod = 0 ∧ 0 < ({ run.link with tracePeriod := 1 }).tracePeriod := by decide

theorem witness_LinkPortServesItsOwnRequests :
    run.powered = true ∧ run.link.closed = false ∧ isRequest .settingsSave = true
      ∧ (after .restart run).link.closed = true := by decide

theorem witness_SettingWriteStoresTheValue :
    run.powered = true ∧ run.link.closed = false ∧ settingOfId (0x0128 : Half).toNat = none
      ∧ (settingOfId (0x0206 : Half).toNat = some .fMin ∧ (run.settings.fMax : Int) < (1201 : Word).toInt
          ∧ settingInRange .fMin (1201 : Word).toInt = true)
      ∧ (settingOfId (0x0207 : Half).toNat = some .fMax ∧ (149 : Word).toInt < (run.settings.fMin : Int))
      ∧ settingInRange .fMin (2501 : Word).toInt = false
      ∧ (settingOfId (0x0611 : Half).toNat = some (.slotEntry .s1) ∧ settingInRange (.slotEntry .s1) 0 = true)
      ∧ (settingOfId (0x0302 : Half).toNat = some .aMax ∧ settingInRange .aMax 0 = true ∧ 0 < run.governor.allowance
          ∧ (after (.settingWrite 0x0302 0) run).governor.allowance = 0)
      ∧ (settingOfId (0x0403 : Half).toNat = some .hMax ∧ settingInRange .hMax 1000 = true) := by decide

theorem witness_SavesGoToTheOtherBank :
    run.powered = true ∧ run.link.closed = false ∧ run.store.saving = none
      ∧ (banked (bank 65535) Bank.blank (some Settings.defaults) (some .bank0)).store.saving = some Settings.defaults
      ∧ (banked (bank 65535) Bank.blank (some Settings.defaults) (some .bank0)).store.saving.isSome = true := by decide

end Sys2Proof.Machine.Tests
end

section
/-! The conversions of temperature and pressure codes (R3 to R5), settling O20. A good temperature code is converted by
the segment that holds it: the segments run downwards without overlap, so the search of the model stops at that segment,
and they leave no code of 1000..3899 out. -/

namespace Sys2Proof.Machine

/-- The code lies in the segment, which holds its lower breakpoint and leaves its upper one to its neighbour (R4). -/
def Segment.Holds (g : Segment) (c : Nat) : Prop := g.cb ≤ c ∧ c < g.ca

/-! ### The breakpoint table -/

theorem segments_descending : segments.Pairwise (fun g h => h.ca ≤ g.cb) := by decide

theorem segment_codes : ∀ g ∈ segments, 1000 ≤ g.cb ∧ g.cb < g.ca ∧ g.ca ≤ 3900 := by decide

theorem segment_temperatures : ∀ g ∈ segments, -400 ≤ g.ta ∧ g.ta ≤ g.tb ∧ g.tb ≤ 800 := by decide

/-- An upper breakpoint is the cold end of the table or the lower breakpoint of the neighbouring segment. -/
theorem upper_breakpoint : ∀ g ∈ segments,
    g.ca = 3900 ∧ g.ta = -400 ∨ ∃ h ∈ segments, h.cb = g.ca ∧ h.tb = g.ta := by decide

theorem exists_segment_holds {c : Nat} (low : 1000 ≤ c) (high : c < 3900) : ∃ g ∈ segments, g.Holds c := by
  simp only [segments, Segment.Holds, List.mem_cons, List.not_mem_nil, or_false, exists_eq_or_imp, exists_eq_left]
  omega

/-- In a list of segments that run downwards, the search by lower breakpoint stops at the segment that holds the code:
every segment before it lies wholly above the code. -/
theorem find?_eq_some_of_holds {gs : List Segment} {g : Segment} {c : Nat}
    (down : gs.Pairwise (fun g h => h.ca ≤ g.cb)) (mem : g ∈ gs) (hc : g.Holds c) :
    gs.find? (fun g => g.cb ≤ c) = some g := by
  obtain ⟨lower, upper⟩ := hc
  induction gs with
  | nil => cases mem
  | cons x xs ih =>
    obtain ⟨above, down⟩ := List.pairwise_cons.mp down
    obtain rfl | later := List.mem_cons.mp mem
    · exact List.find?_cons_of_pos (decide_eq_true lower)
    · have passed : ¬ x.cb ≤ c := by have := above g later; omega
      rw [List.find?_cons_of_neg (by simpa using passed)]
      exact ih down later

/-! ### Interpolation (R4) -/

theorem interpolate_lower {g : Segment} (h : g.cb < g.ca) : interpolate g g.cb = g.tb := by
  have width : (g.ca : Int) - g.cb ≠ 0 := by omega
  rw [interpolate, Int.mul_ediv_cancel_left _ width]
  omega

/-- Interpolation inside a segment stays between its two temperatures. -/
theorem interpolate_between {g : Segment} {c : Nat} (rise : g.ta ≤ g.tb) (hc : g.Holds c) :
    g.ta ≤ interpolate g c ∧ interpolate g c ≤ g.tb := by
  obtain ⟨lower, upper⟩ := hc
  have width : 0 < (g.ca : Int) - g.cb := by omega
  have part : 0 ≤ (g.ca : Int) - c := by omega
  have gain : 0 ≤ g.tb - g.ta := by omega
  have least : 0 ≤ ((g.ca : Int) - c) * (g.tb - g.ta) / ((g.ca : Int) - g.cb) :=
    Int.ediv_nonneg (mul_nonneg part gain) width.le
  have most : ((g.ca : Int) - c) * (g.tb - g.ta) / ((g.ca : Int) - g.cb) ≤ g.tb - g.ta := by
    apply Int.ediv_le_of_le_mul width
    rw [mul_comm]
    exact mul_le_mul_of_nonneg_left (by omega) gain
  unfold interpolate
  omega

/-! ### Temperature codes (R3, R4) -/

theorem temperatureOf_cold {c : Nat} (h : 3900 ≤ c) : temperatureOf c = -400 := if_pos h

theorem temperatureOf_hot {c : Nat} (h : c < 1000) : temperatureOf c = 800 := by
  have unheld : segments.find? (fun g => g.cb ≤ c) = none := by
    refine List.find?_eq_none.mpr fun g mem => ?_
    obtain ⟨low, -, -⟩ := segment_codes g mem
    simp only [decide_eq_true_eq]
    omega
  rw [temperatureOf, if_neg (by omega), unheld]

theorem temperatureOf_segment {g : Segment} {c : Nat} (mem : g ∈ segments) (hc : g.Holds c) :
    temperatureOf c = interpolate g c := by
  obtain ⟨-, -, top⟩ := segment_codes g mem
  have below : ¬ 3900 ≤ c := by have := hc.2; omega
  rw [temperatureOf, if_neg below, find?_eq_some_of_holds segments_descending mem hc]

theorem temperatureOf_lower_breakpoint {g : Segment} (mem : g ∈ segments) : temperatureOf g.cb = g.tb := by
  obtain ⟨-, width, -⟩ := segment_codes g mem
  rw [temperatureOf_segment mem ⟨le_rfl, width⟩, interpolate_lower width]

theorem temperatureOf_upper_breakpoint {g : Segment} (mem : g ∈ segments) : temperatureOf g.ca = g.ta := by
  obtain ⟨code, temp⟩ | ⟨h, memh, code, temp⟩ := upper_breakpoint g mem
  · rw [temp, temperatureOf_cold code.ge]
  · rw [← code, ← temp, temperatureOf_lower_breakpoint memh]

theorem temperatureOf_range (c : Nat) : -400 ≤ temperatureOf c ∧ temperatureOf c ≤ 800 := by
  by_cases cold : 3900 ≤ c
  · simp [temperatureOf_cold cold]
  by_cases hot : c < 1000
  · simp [temperatureOf_hot hot]
  obtain ⟨g, mem, hc⟩ := exists_segment_holds (c := c) (by omega) (by omega)
  obtain ⟨least, rise, most⟩ := segment_temperatures g mem
  have between := interpolate_between rise hc
  rw [temperatureOf_segment mem hc]
  omega

theorem convertTemperature_short {c : Nat} (h : c ≤ 40) : convertTemperature c = .bad .short := if_pos h

theorem convertTemperature_open {c : Nat} (h : 4056 ≤ c) : convertTemperature c = .bad .open_ := by
  rw [convertTemperature, if_neg (by omega), if_pos h]

theorem convertTemperature_inside {c : Nat} (low : 41 ≤ c) (high : c < 4056) :
    convertTemperature c = .good (temperatureOf c) := by
  rw [convertTemperature, if_neg (by omega), if_neg (by omega)]

/-- A converted temperature is the value of its code: a fault carries none. -/
theorem eq_temperatureOf_of_good {c : Nat} {v : Int} (h : convertTemperature c = .good v) : v = temperatureOf c := by
  unfold convertTemperature at h
  split at h
  · cases h
  split at h
  · cases h
  · cases h; rfl

theorem convertTemperature_segment {g : Segment} {c : Nat} (mem : g ∈ segments) (hc : g.Holds c) :
    convertTemperature c = .good (interpolate g c) := by
  obtain ⟨low, -, high⟩ := segment_codes g mem
  obtain ⟨lower, upper⟩ := hc
  rw [convertTemperature_inside (by omega) (by omega), temperatureOf_segment mem ⟨lower, upper⟩]

theorem convertTemperature_breakpoints {g : Segment} (mem : g ∈ segments) :
    convertTemperature g.ca = .good g.ta ∧ convertTemperature g.cb = .good g.tb := by
  obtain ⟨low, width, high⟩ := segment_codes g mem
  rw [convertTemperature_inside (by omega) (by omega), convertTemperature_inside (by omega) (by omega),
    temperatureOf_upper_breakpoint mem, temperatureOf_lower_breakpoint mem]
  exact ⟨rfl, rfl⟩

/-! ### Pressure codes (R5) -/

theorem pressureOf_range (c : Nat) : 0 ≤ pressureOf c ∧ pressureOf c ≤ 500 := by
  unfold pressureOf
  split
  · decide
  split
  · decide
  · omega

/-- A converted pressure is the value of its code: a fault carries none. -/
theorem eq_pressureOf_of_good {c : Nat} {v : Int} (h : convertPressure c = .good v) : v = pressureOf c := by
  unfold convertPressure at h
  split at h
  · cases h
  split at h
  · cases h
  · cases h; rfl

/-- The value of a good pressure code, its three bands in the order of R5. -/
theorem good_pressureOf (c : Nat) : Sample.good (pressureOf c) =
    if c < 410 then .good 0 else if c ≤ 3686 then .good (((c - 410) * 500 / 3276 : Nat) : Int) else .good 500 := by
  unfold pressureOf
  by_cases low : c < 410
  · rw [if_pos low, if_pos low]
  by_cases high : 3686 < c
  · rw [if_neg low, if_neg low, if_pos high, if_neg high.not_ge]
  · rw [if_neg low, if_neg low, if_neg high, if_pos (not_lt.mp high)]

/-- Settles O20: the temperature clauses go through the segment that holds the code, the pressure clauses through the
bands of R5. -/
theorem conversionsFollowTheTables : Obligations.ConversionsFollowTheTables := by
  unfold Obligations.ConversionsFollowTheTables
  refine ⟨fun c => ?pressure, fun _ => convertTemperature_short, fun _ => convertTemperature_open,
    fun c low high => ?hot, fun c low high => ?cold, fun g c mem lower upper => ?segment,
    fun g mem => convertTemperature_breakpoints mem, fun c v good => ?temperatureRange,
    fun c v good => ?pressureRange⟩
  case pressure => rw [convertPressure, good_pressureOf]
  case hot => rw [convertTemperature_inside low (by omega), temperatureOf_hot high]
  case cold => rw [convertTemperature_inside (by omega) high, temperatureOf_cold low]
  case segment => exact convertTemperature_segment mem ⟨lower, upper⟩
  case temperatureRange => exact eq_temperatureOf_of_good good ▸ temperatureOf_range c
  case pressureRange => exact eq_pressureOf_of_good good ▸ pressureOf_range c

end Sys2Proof.Machine
end

section
/-! The imbalance allowance at a step of the governor (R68 to R70), settling O29. A window end of loop S reaches the
allowance at one place, `judgeAllowance`; everything that runs before it and after it leaves alone what the rules read
and what ALLOWANCE EXHAUSTED leaves behind (`LeavesAllowance`). -/

namespace Sys2Proof.Machine

/-! ### Occurrences of another kind (R172, R177) -/

theorem allKinds_kindIndex (k : EventKind) : allKinds[kindIndex k]? = some k := by
  cases k <;> rfl

theorem kindIndex_injective : Function.Injective kindIndex := by
  intro j k same
  have h := allKinds_kindIndex j
  rw [same, allKinds_kindIndex k] at h
  exact (Option.some.inj h).symm

theorem getLsb_kindBit_other {j k : EventKind} (other : j ≠ k) : (kindBit k).getLsb (kindIndex j) = false := by
  have apart : (kindIndex k).val ≠ (kindIndex j).val := fun h => other (kindIndex_injective (Fin.ext h.symm))
  calc (kindBit k).getLsb (kindIndex j)
      = (BitVec.twoPow 25 (kindIndex k).val).getLsbD (kindIndex j).val := rfl
    _ = false := by rw [BitVec.getLsbD_twoPow, decide_eq_false apart, Bool.and_false]

theorem report_flagRaised_other {j k : EventKind} (other : j ≠ k) (src : Source) (s : State) :
    flagRaised (report k src s) j = flagRaised s j := by
  have bit := getLsb_kindBit_other other
  simp only [BitVec.getLsb] at bit
  simp [flagRaised, BitVec.getLsb, bit]

/-- The OVERFLOW record has no kind, so an ordinary record was held before the losses were counted (R178). -/
theorem mem_of_mem_addOverflow {losses : Nat} {severe : Bool} {now : Nat} {q : List Notice} {n : Notice} {j : EventKind}
    (mem : n ∈ addOverflow losses severe now q) (kind : n.kind = some j) : n ∈ q := by
  unfold addOverflow at mem
  split at mem
  · obtain ⟨m, held, rfl⟩ := List.mem_map.mp mem
    split at kind
    · rename_i plain
      rwa [if_pos plain]
    · simp_all [ordinary]
  · obtain held | fresh := List.mem_append.mp mem
    · exact held
    · rw [List.mem_singleton.mp fresh] at kind
      cases kind

/-- Placing an occurrence forms no record of any other kind (R177). -/
theorem mem_of_mem_placeNotice {set : Settings} {j k : EventKind} {src : Source} {now : Nat} {q : List Notice}
    {n : Notice} (mem : n ∈ placeNotice set k src now q) (kind : n.kind = some j) (other : j ≠ k) : n ∈ q := by
  have not_new : n ≠ newNotice set k src now := by
    rintro rfl
    exact other (Option.some.inj kind).symm
  unfold placeNotice at mem
  split at mem
  · rename_i newest _
    split at mem
    · rename_i merge
      obtain held | merged := List.mem_append.mp mem
      · exact List.mem_of_mem_dropLast held
      · rw [List.mem_singleton.mp merged] at kind
        have same : newest.kind = some k := by simp_all [merges]
        exact absurd (Option.some.inj (kind.symm.trans same)) other
    split at mem
    · obtain held | fresh := List.mem_append.mp mem
      · exact held
      · exact absurd (List.mem_singleton.mp fresh) not_new
    split at mem
    · split at mem
      · obtain held | fresh := List.mem_append.mp mem
        · exact List.mem_of_mem_eraseP (mem_of_mem_addOverflow held kind)
        · exact absurd (List.mem_singleton.mp fresh) not_new
      · exact mem_of_mem_addOverflow mem kind
    · exact mem_of_mem_addOverflow mem kind
  · exact absurd (List.mem_singleton.mp mem) not_new

/-! ### What leaves the allowance alone -/

/-- What the rules of the allowance read, what they write and what ALLOWANCE EXHAUSTED leaves behind is in `t` as it was
in `s`; records of that kind may leave the queue, but none is formed. -/
structure LeavesAllowance (s t : State) : Prop where
  settings : t.settings = s.settings
  allowance : t.governor.allowance = s.governor.allowance
  carry : t.governor.carry = s.governor.carry
  flow : ∀ x, (t.loops.get x).flow = (s.loops.get x).flow
  ended : ∀ x, (t.loops.get x).ended = (s.loops.get x).ended
  signal : t.frost.exhaustion = s.frost.exhaustion
  flag : flagRaised t .allowanceExhausted = flagRaised s .allowanceExhausted
  records : ∀ n ∈ t.events.queue, n.kind = some .allowanceExhausted → n ∈ s.events.queue

namespace LeavesAllowance

theorem refl (s : State) : LeavesAllowance s s :=
  ⟨rfl, rfl, rfl, fun _ => rfl, fun _ => rfl, rfl, rfl, fun _ mem _ => mem⟩

theorem trans {s t u : State} (h : LeavesAllowance s t) (g : LeavesAllowance t u) : LeavesAllowance s u where
  settings := g.settings.trans h.settings
  allowance := g.allowance.trans h.allowance
  carry := g.carry.trans h.carry
  flow x := (g.flow x).trans (h.flow x)
  ended x := (g.ended x).trans (h.ended x)
  signal := g.signal.trans h.signal
  flag := g.flag.trans h.flag
  records n mem kind := h.records n (g.records n mem kind) kind

/-- A step that reports nothing and does not touch the loops. -/
theorem of_quiet {s t : State}
    (h : t.settings = s.settings ∧ t.loops = s.loops ∧ t.events = s.events
      ∧ t.governor.allowance = s.governor.allowance ∧ t.governor.carry = s.governor.carry
      ∧ t.frost.exhaustion = s.frost.exhaustion) : LeavesAllowance s t := by
  obtain ⟨settings, loops, events, allowance, carry, signal⟩ := h
  exact ⟨settings, allowance, carry, fun x => by rw [loops], fun x => by rw [loops], signal,
    by rw [flagRaised, events, flagRaised], fun n mem _ => events ▸ mem⟩

theorem ite {c : Prop} [Decidable c] {s t u : State} (ht : LeavesAllowance s t) (hu : LeavesAllowance s u) :
    LeavesAllowance s (if c then t else u) := by
  split <;> assumption

theorem bounded {s t : State} (h : LeavesAllowance s t) (within : AllowanceBounded s) : AllowanceBounded t := by
  rwa [AllowanceBounded, h.settings, h.allowance, h.carry]

end LeavesAllowance

theorem setLoop_leavesAllowance {x : Stream} {l : LoopRec} {s : State} (flow : l.flow = (s.loops.get x).flow)
    (ended : l.ended = (s.loops.get x).ended) : LeavesAllowance s (setLoop x l s) := by
  refine ⟨rfl, rfl, rfl, fun y => ?_, fun y => ?_, rfl, rfl, fun _ mem _ => mem⟩
  · rw [setLoop_loops, PerStream.get_set]
    split <;> simp_all
  · rw [setLoop_loops, PerStream.get_set]
    split <;> simp_all

theorem report_leavesAllowance {k : EventKind} (other : .allowanceExhausted ≠ k) (src : Source) (s : State) :
    LeavesAllowance s (report k src s) := by
  refine ⟨by simp, by simp, by simp, by simp, by simp, by simp, report_flagRaised_other other src s,
    fun n mem kind => ?_⟩
  rw [report_queue] at mem
  split at mem
  · exact mem_of_mem_placeNotice mem kind other
  · exact mem

theorem reportAll_leavesAllowance {os : List (EventKind × Source)} (other : ∀ o ∈ os, .allowanceExhausted ≠ o.1)
    (s : State) : LeavesAllowance s (reportAll os s) := by
  induction os generalizing s with
  | nil => exact .refl s
  | cons o os ih =>
    obtain ⟨head, tail⟩ := List.forall_mem_cons.mp other
    exact (report_leavesAllowance head o.2 s).trans (ih tail _)

/-! ### The controller -/

/-- Of the governor a recomputation of D reaches R alone (R60, R86). -/
@[simp] theorem recomputeDemand_balance (s : State) :
    (recomputeDemand s).governor.tS = s.governor.tS ∧ (recomputeDemand s).governor.tE = s.governor.tE
      ∧ (recomputeDemand s).governor.allowance = s.governor.allowance
      ∧ (recomputeDemand s).governor.carry = s.governor.carry
      ∧ (recomputeDemand s).frost.exhaustion = s.frost.exhaustion := by
  unfold recomputeDemand
  split
  · simp
  · dsimp only [handDemand]
    split <;> simp [setReduction]

theorem captureReport_leavesAllowance (b : Bool) (s : State) : LeavesAllowance s (captureReport b s) :=
  .of_quiet (by simp [captureReport])

theorem releaseHold_leavesAllowance (c : HoldCause) (s : State) : LeavesAllowance s (releaseHold c s) := by
  unfold releaseHold
  split
  · refine .trans (.of_quiet ?_) (report_leavesAllowance (by decide) _ _)
    simp
  · exact .refl s

/-! ### The frost guard -/

theorem reevaluate_leavesAllowance (s : State) : LeavesAllowance s (reevaluate s) := .of_quiet (by simp)

theorem setFrostMode_leavesAllowance (m : FrostMode) (s : State) : LeavesAllowance s (setFrostMode m s) :=
  .ite (.refl s) (.trans (.of_quiet (by simp)) (report_leavesAllowance (by decide) _ _))

theorem restGuard_leavesAllowance (s : State) : LeavesAllowance s (restGuard s) :=
  .trans (.of_quiet (by simp [setReduction, clearRuns])) (setFrostMode_leavesAllowance _ _)

theorem guardRunReport_leavesAllowance (rs : RunState) (s : State) : LeavesAllowance s (guardRunReport rs s) := by
  have seen : LeavesAllowance s (reevaluate { s with frost := { s.frost with runSeen := rs } }) :=
    .of_quiet (by simp)
  cases rs with
  | startup | run | frostStop => exact seen
  | rest | smokeStop | faultStop => exact seen.trans (restGuard_leavesAllowance _)

/-! ### The filter monitor -/

theorem abortCapture_leavesAllowance (c : CaptureCause) (s : State) : LeavesAllowance s (abortCapture c s) := by
  have cleared : LeavesAllowance s { s with filter := { s.filter with capture := Capture.empty } } :=
    .of_quiet (by simp)
  exact .ite (.refl s)
    ((cleared.trans (captureReport_leavesAllowance _ _)).trans (report_leavesAllowance (by decide) _ _))

/-- Of the governor the passage to capture RUN reaches R alone, by the recomputation of D (R58). -/
@[simp] theorem passToRun_balance (settled : Bool) (s : State) :
    (passToRun settled s).governor.tS = s.governor.tS ∧ (passToRun settled s).governor.tE = s.governor.tE
      ∧ (passToRun settled s).governor.allowance = s.governor.allowance
      ∧ (passToRun settled s).governor.carry = s.governor.carry
      ∧ (passToRun settled s).frost.exhaustion = s.frost.exhaustion := by
  dsimp only [passToRun]
  split <;> simp [captureReport]

@[simp] theorem filterWindowEnd_balance (x : Stream) (w : WindowFigures) (s : State) :
    (filterWindowEnd x w s).governor.tS = s.governor.tS ∧ (filterWindowEnd x w s).governor.tE = s.governor.tE
      ∧ (filterWindowEnd x w s).governor.allowance = s.governor.allowance
      ∧ (filterWindowEnd x w s).governor.carry = s.governor.carry
      ∧ (filterWindowEnd x w s).frost.exhaustion = s.frost.exhaustion := by
  dsimp only [filterWindowEnd]
  split <;> simp

/-- An event held for the end of a rewrite changes nothing but the monitor (R100). -/
theorem filterPost_leavesAllowance {e : FilterEvent} {s : State} (taken : LeavesAllowance s (filterTake e s)) :
    LeavesAllowance s (filterPost e s) :=
  .ite (.of_quiet (by simp)) taken

theorem filterPost_windowEnd_leavesAllowance (x : Stream) (w : WindowFigures) (s : State) :
    LeavesAllowance s (filterPost (.windowEnd x w) s) :=
  filterPost_leavesAllowance (.of_quiet (by simp [filterTake]))

theorem filterPost_windowEnd_targets (x : Stream) (w : WindowFigures) (s : State) :
    (filterPost (.windowEnd x w) s).governor.tS = s.governor.tS
      ∧ (filterPost (.windowEnd x w) s).governor.tE = s.governor.tE := by
  unfold filterPost
  split <;> simp [filterTake]

theorem filterPost_loopChange_leavesAllowance (x : Stream) (before after : LoopState) (s : State) :
    LeavesAllowance s (filterPost (.loopChange x before after) s) :=
  filterPost_leavesAllowance (.of_quiet (by simp [filterTake]))

theorem filterPost_leftRun_leavesAllowance (s : State) : LeavesAllowance s (filterPost .leftRun s) :=
  filterPost_leavesAllowance (abortCapture_leavesAllowance _ _)

/-! ### Targets and the run state -/

theorem reportLoopChange_leavesAllowance (x : Stream) (before after : LoopState) (s : State) :
    LeavesAllowance s (reportLoopChange x before after s) := by
  have posted := filterPost_loopChange_leavesAllowance x before after s
  exact .ite (.refl s) (.ite (posted.trans (reevaluate_leavesAllowance _)) posted)

/-- A target of 0 takes neither the flow estimate nor the ended-window length with it (R23, R38). -/
@[simp] theorem zeroTarget_window (l : LoopRec) : (zeroTarget l).flow = l.flow ∧ (zeroTarget l).ended = l.ended := by
  unfold zeroTarget
  cases l.state <;> exact ⟨rfl, rfl⟩

theorem offer_leavesAllowance (x : Stream) (target : Nat) (s : State) : LeavesAllowance s (offer x target s) :=
  .ite (.trans (setLoop_leavesAllowance (by simp) (by simp)) (reportLoopChange_leavesAllowance _ _ _ _))
    (setLoop_leavesAllowance rfl rfl)

theorem setTargets_leavesAllowance (tS tE : Nat) (s : State) : LeavesAllowance s (setTargets tS tE s) := by
  have held : LeavesAllowance s { s with governor := { s.governor with tS := tS, tE := tE } } := .of_quiet (by simp)
  exact (held.trans (offer_leavesAllowance .supply tS _)).trans (offer_leavesAllowance .extract tE _)

theorem stepSetTargets_leavesAllowance (s : State) : LeavesAllowance s (stepSetTargets s) :=
  .ite (setTargets_leavesAllowance _ _ _) (.refl s)

theorem changeRunState_leavesAllowance (rs : RunState) (s : State) : LeavesAllowance s (changeRunState rs s) := by
  have entered : LeavesAllowance s { s with demand := { s.demand with runState := rs } } := .of_quiet (by simp)
  have targets := LeavesAllowance.ite (c := rs = .run) entered (entered.trans (setTargets_leavesAllowance 0 0 _))
  have guarded := targets.trans (guardRunReport_leavesAllowance rs _)
  unfold changeRunState changeRunStateWith
  dsimp only
  split
  · exact .refl s
  split
  · exact (guarded.trans (filterPost_leftRun_leavesAllowance _)).trans (releaseHold_leavesAllowance _ _)
  · exact guarded

theorem loopFailedReport_leavesAllowance (s : State) : LeavesAllowance s (loopFailedReport s) := by
  unfold loopFailedReport
  split
  case h_5 | h_6 => exact .refl s
  all_goals exact changeRunState_leavesAllowance _ _

/-! ### The loop's own work at its window end -/

/-- The occurrences of a window end are the loop's own (R42, R43). -/
theorem loopReports_other (x : Stream) (before after : LoopRec) :
    ∀ o ∈ loopReports x before after, .allowanceExhausted ≠ o.1 := by
  unfold loopReports
  split
  case h_3 => split <;> simp
  all_goals simp

theorem reportTransition_leavesAllowance (x : Stream) (before after : LoopRec) (s : State) :
    LeavesAllowance s (reportTransition x before after s) := by
  have reported := reportAll_leavesAllowance (loopReports_other x before after) s
  exact .trans (.ite (reported.trans (loopFailedReport_leavesAllowance _)) reported)
    (reportLoopChange_leavesAllowance _ _ _ _)

/-- A stall, whether it ends in STALLED or in FAILED, keeps the ended-window length. -/
@[simp] theorem enterStall_ended (l : LoopRec) : (enterStall l).ended = l.ended := by
  unfold enterStall
  split <;> rfl

theorem stoppedEnd_ended (c : LoopSettings) (l : LoopRec) : (stoppedEnd c l).ended = l.ended := by
  unfold stoppedEnd
  split <;> rfl

theorem startingEnd_ended (l : LoopRec) : (startingEnd l).ended = l.ended := by
  unfold startingEnd
  split
  · rfl
  · split <;> simp

theorem settlingEnd_ended (b : LockBand) (l : LoopRec) : (settlingEnd b l).ended = l.ended := by
  unfold settlingEnd
  dsimp only
  split
  · rfl
  · split <;> rfl

theorem lockedEnd_ended (b : LockBand) (before : Nat) (l : LoopRec) : (lockedEnd b before l).ended = l.ended := by
  unfold lockedEnd
  split
  · rfl
  · dsimp only
    split <;> rfl

theorem unlockedEnd_ended (b : LockBand) (l : LoopRec) : (unlockedEnd b l).ended = l.ended := by
  unfold unlockedEnd
  dsimp only
  split <;> rfl

theorem stalledEnd_ended (c : LoopSettings) (l : LoopRec) : (stalledEnd c l).ended = l.ended := by
  unfold stalledEnd
  split
  · rfl
  · split <;> rfl

theorem transition_ended (b : LockBand) (c : LoopSettings) (before : Nat) (l : LoopRec) :
    (transition b c before l).ended = l.ended := by
  unfold transition
  dsimp only
  split
  · exact enterStall_ended _
  cases l.state with
  | stopped => exact stoppedEnd_ended _ _
  | starting => exact startingEnd_ended _
  | settling => exact settlingEnd_ended _ _
  | locked => exact lockedEnd_ended _ _ _
  | unlocked => exact unlockedEnd_ended _ _
  | stalled => exact stalledEnd_ended _ _
  | failed => rfl

@[simp] theorem updateDrive_ended (c : LoopSettings) (l : LoopRec) : (updateDrive c l).ended = l.ended := by
  unfold updateDrive
  split <;> rfl

/-- The ended-window length is the length of the window that has just ended (R20). -/
theorem windowLoop_ended (set : Settings) (c : LoopSettings) (dp : Nat) (l : LoopRec) :
    (windowLoop set c dp l).ended = l.window := by
  calc (windowLoop set c dp l).ended
      = (transition set.lockBand c l.speedTarget (updateDrive c (measureWindow set c dp l))).ended := rfl
    _ = (measureWindow set c dp l).ended := by rw [transition_ended, updateDrive_ended]
    _ = l.window := rfl

/-! ### The judgement of the allowance (R68 to R70) -/

/-- A step that charges the allowance: a target above 0, and an excess (R68). -/
abbrev Charging (s : State) : Prop := (0 < s.governor.tS ∨ 0 < s.governor.tE) ∧ 0 < excess s

/-- A charging step that brings the allowance from above 0 to 0 (R70). -/
abbrev Exhausting (s : State) : Prop :=
  Charging s ∧ 0 < s.governor.allowance ∧ s.governor.allowance ≤ chargeOf s / 1000

/-- The governor after a charging step (R68). -/
def chargedGovernor (s : State) : Governor :=
  { s.governor with allowance := s.governor.allowance - chargeOf s / 1000, carry := chargeOf s % 1000 }

/-- The governor after a recovering step (R69). -/
def recoveredGovernor (s : State) : Governor :=
  { s.governor with
    allowance := min s.settings.aMax (s.governor.allowance + s.settings.recovery * s.loops.supply.ended / 1000) }

/-- A charging step writes the governor, and reports only when it takes the last of an allowance (R70). -/
theorem chargeAllowance_eq (s : State) :
    chargeAllowance s =
      if 0 < s.governor.allowance ∧ s.governor.allowance ≤ chargeOf s / 1000 then
        exhausted { s with governor := chargedGovernor s }
      else { s with governor := chargedGovernor s } := by
  simp only [chargeAllowance, chargedGovernor, Nat.sub_eq_zero_iff_le]

theorem judgeAllowance_governor (s : State) :
    (judgeAllowance s).governor = if Charging s then chargedGovernor s else recoveredGovernor s := by
  unfold judgeAllowance
  split
  · rw [chargeAllowance_eq]
    split <;> simp
  · rfl

theorem judgeAllowance_targets (s : State) :
    (judgeAllowance s).governor.tS = s.governor.tS ∧ (judgeAllowance s).governor.tE = s.governor.tE := by
  rw [judgeAllowance_governor]
  split <;> exact ⟨rfl, rfl⟩

theorem judgeAllowance_exhausts {s : State} (h : Exhausting s) :
    flagRaised (judgeAllowance s) .allowanceExhausted = true ∧ (judgeAllowance s).frost.exhaustion = true := by
  obtain ⟨charging, spent⟩ := h
  rw [judgeAllowance, if_pos charging, chargeAllowance_eq, if_pos spent]
  exact ⟨report_flagRaised .allowanceExhausted .none { s with governor := chargedGovernor s }, rfl⟩

theorem judgeAllowance_silent {s : State} (h : ¬Exhausting s) :
    (judgeAllowance s).events = s.events ∧ (judgeAllowance s).frost = s.frost := by
  unfold judgeAllowance
  split
  · rename_i charging
    rw [chargeAllowance_eq, if_neg fun spent => h ⟨charging, spent⟩]
    exact ⟨rfl, rfl⟩
  · exact ⟨rfl, rfl⟩

/-- The allowance and its carry after a step, written out (R68, R69). -/
theorem judgeAllowance_figures (s : State) :
    if Charging s then
      (judgeAllowance s).governor.allowance = s.governor.allowance - chargeOf s / 1000
        ∧ (judgeAllowance s).governor.carry = chargeOf s % 1000
    else
      (judgeAllowance s).governor.allowance =
          min s.settings.aMax (s.governor.allowance + s.settings.recovery * s.loops.supply.ended / 1000)
        ∧ (judgeAllowance s).governor.carry = s.governor.carry := by
  rw [judgeAllowance_governor]
  split <;> exact ⟨rfl, rfl⟩

/-- Exhaustion as the outcome shows it: the allowance was above 0 before the charging step and is 0 after it. -/
theorem exhausting_iff (s : State) :
    Exhausting s ↔ Charging s ∧ 0 < s.governor.allowance ∧ (judgeAllowance s).governor.allowance = 0 := by
  refine and_congr_right fun charging => ?_
  rw [judgeAllowance_governor, if_pos charging, chargedGovernor, Nat.sub_eq_zero_iff_le]

theorem judgeAllowance_bounded {s : State} (h : AllowanceBounded s) : AllowanceBounded (judgeAllowance s) := by
  obtain ⟨most, carry⟩ := h
  have figures := judgeAllowance_figures s
  rw [AllowanceBounded, show (judgeAllowance s).settings = s.settings by simp]
  split at figures <;> omega

/-! ### The window end of loop S -/

/-- A window end of loop S handed on judges the allowance after the targets of the step; what follows, the interlock and
the filter monitor, leaves the outcome and the targets alone (R39, R68). -/
theorem handWindowEnd_supply_judges (s : State) :
    LeavesAllowance (judgeAllowance (stepSetTargets s)) (handWindowEnd .supply s)
      ∧ (handWindowEnd .supply s).governor.tS = (stepSetTargets s).governor.tS
      ∧ (handWindowEnd .supply s).governor.tE = (stepSetTargets s).governor.tE := by
  obtain ⟨tS, tE⟩ := judgeAllowance_targets (stepSetTargets s)
  unfold handWindowEnd governorStep
  rw [if_pos rfl, ← tS, ← tE]
  refine ⟨(reevaluate_leavesAllowance _).trans (filterPost_windowEnd_leavesAllowance _ _ _), ?_⟩
  simpa using filterPost_windowEnd_targets .supply _ (reevaluate (judgeAllowance (stepSetTargets s)))

/-- The window end of loop S judges the allowance once, on a state `u` that has the targets of the step and, of the
allowance, what the window end found; its flow estimate and ended-window length of loop S are the window end's. -/
theorem windowEnd_supply_judges (s : State) :
    ∃ u, LeavesAllowance (setLoop .supply
          (windowLoop s.settings (s.settings.loops.get .supply) (loopPressure s .supply) (s.loops.get .supply)) s) u
      ∧ LeavesAllowance (judgeAllowance u) (windowEnd .supply s)
      ∧ (windowEnd .supply s).governor.tS = u.governor.tS ∧ (windowEnd .supply s).governor.tE = u.governor.tE :=
  ⟨_, (reportTransition_leavesAllowance _ _ _ _).trans (stepSetTargets_leavesAllowance _),
    handWindowEnd_supply_judges _⟩

/-- Settles O29: the figures of the statement are those of the state on which the allowance is judged. -/
theorem governorJudgesAllowance : Obligations.GovernorJudgesAllowance := by
  unfold Obligations.GovernorJudgesAllowance
  intro s powered
  obtain ⟨u, found, left, tS, tE⟩ := windowEnd_supply_judges s
  refine ⟨windowEnd .supply s, whilePowered_on _ s powered, ?_⟩
  generalize windowEnd .supply s = t at left tS tE ⊢
  have allowanceFound : s.governor.allowance = u.governor.allowance := found.allowance.symm
  have carryFound : s.governor.carry = u.governor.carry := found.carry.symm
  have settingsFound : s.settings = u.settings := found.settings.symm
  have window : s.loops.supply.window = u.loops.supply.ended :=
    ((found.ended .supply).trans (windowLoop_ended _ _ _ _)).symm
  have extractFlow : s.loops.extract.flow = u.loops.extract.flow := (found.flow .extract).symm
  have supplyFlow : t.loops.supply.flow = u.loops.supply.flow := by
    have kept := left.flow .supply
    rwa [show (judgeAllowance u).loops = u.loops by simp] at kept
  have excess_eq : ((t.loops.supply.flow : Int) - s.loops.extract.flow - s.settings.offset).natAbs
      - s.settings.balanceBand = excess u := by
    rw [supplyFlow, extractFlow, settingsFound]; rfl
  have charge_eq : excess u * s.loops.supply.window + s.governor.carry = chargeOf u := by
    rw [window, carryFound]; rfl
  dsimp only
  rw [excess_eq, charge_eq, tS, tE, allowanceFound, carryFound, settingsFound, window, left.allowance, left.carry,
    ← exhausting_iff u]
  refine ⟨judgeAllowance_figures u, fun exhausting => ?exhausts, fun kept => ?silent,
    fun within => left.bounded (judgeAllowance_bounded (found.bounded within))⟩
  case exhausts =>
    obtain ⟨flag, signal⟩ := judgeAllowance_exhausts exhausting
    exact ⟨left.flag.trans flag, left.signal.trans signal⟩
  case silent =>
    obtain ⟨events, frost⟩ := judgeAllowance_silent kept
    have unjudged : flagRaised (judgeAllowance u) .allowanceExhausted = flagRaised u .allowanceExhausted := by
      rw [flagRaised, events, flagRaised]
    refine ⟨(left.flag.trans unjudged).trans found.flag,
      (left.signal.trans (congrArg FrostGuard.exhaustion frost)).trans found.signal, fun n mem kind => ?_⟩
    have held := left.records n mem kind
    rw [events] at held
    exact found.records n held kind

end Sys2Proof.Machine
end

section
/-! The requests LINE WRITE and LINE READ (R167, R169), settling O52. Each row replies what its serving answers; LINE
WRITE goes through the record that a written latch leaves (R164), LINE READ through the three cases of a line's value. -/

namespace Sys2Proof.Machine

/-- A request row that is served replies the answer of its serving, on the state the serving leaves (log 7). -/
theorem serveRow_replied {serve : State → Answer × State} {s t : State} {a : Answer} (powered : s.powered = true)
    (opened : s.link.closed = false) (served : serve s = (a, t)) : serveRow serve s = .next (replied a t) := by
  rw [serveRow_on serve s powered opened, served]
  rfl

/-! ### Levels and their codes (R159, R167) -/

theorem activityOfCode_listed {n : Nat} (h : n ≤ 1) : activityOfCode n = some (decide (n = 0)) := by
  interval_cases n <;> rfl

theorem activityOfCode_unlisted {n : Nat} (h : 1 < n) : activityOfCode n = none := by
  unfold activityOfCode
  split
  case h_1 | h_2 => omega
  case h_3 => rfl

/-- A pin is high exactly when the logical level agrees with an active-high polarity. -/
theorem pinOf_eq_ite (p : Polarity) (active : Bool) :
    pinOf p active = if active = decide (p = .activeHigh) then .high else .low := by
  cases p <;> cases active <;> rfl

theorem optPin_eq_getD (absent : Nat) (q : Option PinLevel) : optPin absent q = (q.map pinCode).getD absent := by
  cases q <;> rfl

/-! ### LINE WRITE (R167) -/

theorem drivenLevel_generalOut (u : Lines) {c : LineConfig} (latch : Bool) (h : c.function = .generalOut) :
    drivenLevel u c latch = some (pinOf c.polarity latch) := by
  simp [drivenLevel, logicalOutput, h]

/-- A GENERAL OUT line takes the level of its latch; a changed level clears the mismatch and the fault (R164). -/
theorem driveRec_generalOut (u : Lines) {c : LineConfig} (r : LineRec) (h : c.function = .generalOut) :
    driveRec u c r =
      if r.driven ≠ some (pinOf c.polarity r.latch) then
        { r with driven := some (pinOf c.polarity r.latch), mismatch := 0, fault := false }
      else r := by
  simp only [driveRec, drivenLevel_generalOut u r.latch h, ne_eq, ite_not, eq_comm]

/-- A written latch leaves its line's record alone but for the latch and, on a GENERAL OUT line whose level changes, the
level driven (R164, R167). -/
theorem writeLatch_eq (l : Line) (active : Bool) (s : State) :
    let c := s.settings.lines.get l
    let r := s.lines.table.get l
    writeLatch l active s =
      setLine l
        (if c.function = .generalOut ∧ r.driven ≠ some (pinOf c.polarity active) then
          { r with latch := active, driven := some (pinOf c.polarity active), mismatch := 0, fault := false }
        else { r with latch := active }) s := by
  intro c r
  by_cases out : c.function = .generalOut
  · rw [writeLatch, if_pos out, driveRec_generalOut _ _ out]
    simp only [out, true_and]
    rfl
  · rw [writeLatch, if_neg out, if_neg fun both => out both.1]

theorem serveLineWrite_refused {line value : Byte} (s : State)
    (h : lineOfNumber line.toNat = none ∨ 1 < value.toNat) : serveLineWrite line value s = (refusal .range, s) := by
  unfold serveLineWrite
  obtain absent | large := h
  · rw [absent]
  · rw [activityOfCode_unlisted large]
    cases lineOfNumber line.toNat <;> rfl

theorem serveLineWrite_done {line value : Byte} {l : Line} (s : State) (named : lineOfNumber line.toNat = some l)
    (listed : value.toNat ≤ 1) :
    serveLineWrite line value s = (doneWith [], writeLatch l (decide (value.toNat = 0)) s) := by
  rw [serveLineWrite, named, activityOfCode_listed listed]

/-! ### LINE READ (R169) -/

theorem lineValueCode_output {u : Lines} {c : LineConfig} {r : LineRec} {b : Bool}
    (h : logicalOutput u c.function r.latch = some b) : lineValueCode u c r = activityCode b := by
  rw [lineValueCode, h]

theorem lineValueCode_input {u : Lines} {c : LineConfig} {r : LineRec}
    (h : logicalOutput u c.function r.latch = none) :
    lineValueCode u c r = (r.settled.map fun p => activityCode (activeOf c.polarity p)).getD 2 := by
  rw [lineValueCode, h]
  cases r.settled <;> rfl

theorem serveLineRead_refused {line : Byte} (s : State) (h : lineOfNumber line.toNat = none) :
    serveLineRead line s = (refusal .range, s) := by
  rw [serveLineRead, h]

theorem serveLineRead_done {line : Byte} {l : Line} (s : State) (h : lineOfNumber line.toNat = some l) :
    serveLineRead line s = (doneWith (lineReadPayload l s), s) := by
  rw [serveLineRead, h]

/-- Settles O52: LINE WRITE by whether the request is refused, LINE READ by the line it names and then by the function,
on which the value alone depends. -/
theorem lineWriteAndReadAnswer : Obligations.LineWriteAndReadAnswer := by
  unfold Obligations.LineWriteAndReadAnswer
  intro s powered opened
  refine ⟨fun line value => ⟨fun refused => ?refused, fun l named listed => ?written⟩, fun line => ?read⟩
  case refused => exact serveRow_replied powered opened (serveLineWrite_refused s refused)
  case written =>
    dsimp only
    rw [← pinOf_eq_ite, ← writeLatch_eq]
    exact serveRow_replied powered opened (serveLineWrite_done s named listed)
  case read =>
    split
    next absent => exact serveRow_replied powered opened (serveLineRead_refused s absent)
    next l named =>
      refine (serveRow_replied powered opened (serveLineRead_done s named)).trans ?_
      simp only [← optPin_eq_getD]
      suffices value : lineValueCode s.lines (s.settings.lines.get l) (s.lines.table.get l) = _ by
        rw [lineReadPayload, value]
        rfl
      split
      case h_1 out | h_2 out | h_3 out | h_4 out => exact lineValueCode_output (by rw [out]; rfl)
      case h_5 out | h_6 out | h_7 out =>
        rw [lineValueCode_input (by rw [out]; rfl)]
        cases (s.lines.table.get l).settled <;> rfl

end Sys2Proof.Machine
end

section
/-! The queue of commands and the state after reset (O1, O2). -/

namespace Sys2Proof.Machine

/-- Settles O1: `step` runs the front of the queue on the rest of it. -/
theorem stepTakesFront : Obligations.StepTakesFront := by
  unfold Obligations.StepTakesFront
  refine ⟨fun c s => rfl, fun s idle => ?_⟩
  rw [step, idle]

/-- Neither bank of the reset part is valid, so the working set is all it holds (R196). -/
theorem allSettings_reset : allSettings State.reset = [Settings.defaults] := by
  have images : storedImages State.reset.store = [] := by
    simp [storedImages, validImage, State.reset, blank_bank_valid]
  rw [allSettings, images]
  rfl

/-- Settles O2: the banks are blank, and every other property is a figure of the reset state. -/
theorem resetSatisfiesInvariants : Obligations.ResetSatisfiesInvariants := by
  unfold Obligations.ResetSatisfiesInvariants
  have demand : DemandBounded State.reset := by
    refine ⟨?_, by decide, by decide⟩
    rw [allSettings_reset]
    decide
  have slots : SlotsConsistent State.reset := by
    refine ⟨?_, by decide⟩
    rw [allSettings_reset]
    decide
  exact ⟨demand, by decide, by decide, by decide, by decide, by decide, by decide, by decide, by decide, by decide, slots,
    fun _ => ⟨blank_bank_valid, blank_bank_valid⟩, by decide, by decide⟩

end Sys2Proof.Machine
end

section
/-! What the shared operations can do between two consistent states. Each cascade of the part (a change of run state, a
transition of the frost guard, an event of the filter monitor, a window end) is a sequence of beats, and every beat keeps
the properties that hold at all times. The properties that hold only at the ends of a cascade are in the next file. -/

namespace Sys2Proof.Machine

/-! ### Properties that every beat keeps -/

/-- HTO is on only with a heater output above 0, and HEATER ENABLE is ACTIVE just with one (R76, R77, R165). -/
abbrev HeatFlagged (s : State) : Prop :=
  (s.frost.hto = true → 0 < s.frost.heaterOutput) ∧ s.lines.heater = decide (0 < s.frost.heaterOutput)

/-- The heater output is the requested power just while the interlock holds (R75). -/
abbrev HeatCurrent (s : State) : Prop := s.frost.heaterOutput = if interlock s then s.frost.requested else 0

/-- R is above 0 in DEFROST only, and the governor has the same R (R86). -/
abbrev ReductionFollows (s : State) : Prop :=
  (0 < s.frost.r → s.frost.mode = .defrost) ∧ s.governor.r = s.frost.r

/-- The controller's record of a capture agrees with the filter monitor's (R58). -/
abbrev CaptureFollows (s : State) : Prop := s.demand.captureInForce = decide (s.filter.capture.state ≠ .none)

/-! ### Beats -/

/-- The inputs of D, the level and D itself are the same in two records of the controller (R59). -/
structure SameInputs (u v : Demand) : Prop where
  d : u.d = v.d
  level : u.level = v.level
  boost : u.boost = v.boost
  pullTimer : u.pullTimer = v.pullTimer
  h : u.h = v.h
  captureInForce : u.captureInForce = v.captureInForce
  hold : u.hold = v.hold

/-- One beat of a cascade. With `heat` the beats also leave the heater output current: loop S and the requested power
change only together with a re-evaluation of the interlock. -/
inductive Beat (heat : Prop) (s : State) : State → Prop where
  | report (k : EventKind) (src : Source) : Beat heat s (report k src s)
  | demand (d : Demand) (same : SameInputs d s.demand) : Beat heat s { s with demand := d }
  | recompute (d : Demand) (f : FilterMonitor) (d_same : d.d = s.demand.d) (h : d.h = s.demand.h)
      (level : d.level = s.demand.level)
      (capture : CaptureFollows s → d.captureInForce = decide (f.capture.state ≠ .none))
      (store : s.filter.store.length = 50 → f.store.length = 50) :
      Beat heat s (recomputeDemand { s with demand := d, filter := f })
  | filter (f : FilterMonitor) (capture : f.capture.state = s.filter.capture.state)
      (store : s.filter.store.length = 50 → f.store.length = 50) : Beat heat s { s with filter := f }
  | governor (g : Governor) (r : g.r = s.governor.r)
      (bounded : AllowanceBounded s → AllowanceBounded { s with governor := g }) : Beat heat s { s with governor := g }
  | frost (f : FrostGuard) (g : Governor) (d : f.dHanded = s.frost.dHanded)
      (output : f.heaterOutput = s.frost.heaterOutput) (hto : f.hto = true → s.frost.hto = true ∨ 0 < f.heaterOutput)
      (seen : f.runSeen = s.frost.runSeen) (requested : f.requested = s.frost.requested)
      (allowance : g.allowance = s.governor.allowance ∧ g.carry = s.governor.carry)
      (reduction : ReductionFollows s → ReductionFollows { s with frost := f, governor := g }) :
      Beat heat s { s with frost := f, governor := g }
  | loops (l : PerStream LoopRec) (still : FansUndriven s → FansUndriven { s with loops := l })
      (supply : heat → l.supply.state = s.loops.supply.state ∧ l.supply.flow = s.loops.supply.flow) :
      Beat heat s { s with loops := l }
  | settle (f : FrostGuard) (l : PerStream LoopRec) (fm : FilterMonitor) (d : f.dHanded = s.frost.dHanded)
      (output : f.heaterOutput = s.frost.heaterOutput) (hto : f.hto = s.frost.hto) (mode : f.mode = s.frost.mode)
      (r : f.r = s.frost.r) (still : FansUndriven s → FansUndriven { s with loops := l })
      (capture : fm.capture.state = s.filter.capture.state)
      (store : s.filter.store.length = 50 → fm.store.length = 50) :
      Beat heat s (reevaluate { s with frost := f, loops := l, filter := fm })
  | lamp (b : Bool) : Beat heat s (setLamp b s)

/-- A sequence of beats. -/
abbrev Cascade (heat : Prop) : State → State → Prop := Relation.ReflTransGen (Beat heat)

theorem Beat.cascade {heat : Prop} {s t : State} (h : Beat heat s t) : Cascade heat s t := .single h

/-- What every beat keeps, every cascade keeps. -/
theorem Cascade.keeps {heat : Prop} {P : State → Prop} (beat : ∀ {s t}, Beat heat s t → P s → P t) {s t : State}
    (h : Cascade heat s t) (holds : P s) : P t := by
  induction h with
  | refl => exact holds
  | tail _ b ih => exact beat b ih

/-! ### What one beat keeps -/

section
variable {heat : Prop} {s t : State}

theorem Beat.outer (h : Beat heat s t) : OuterKept s t := by
  cases h <;> simp [OuterKept]

@[simp] theorem setReduction_frame' (r : Nat) (s : State) :
    (setReduction r s).governor = { s.governor with r := r } ∧ (setReduction r s).frost = { s.frost with r := r } :=
  ⟨rfl, rfl⟩

@[simp] theorem raiseFlag_heater (k : EventKind) (s : State) : (raiseFlag k s).lines.heater = s.lines.heater := by
  unfold raiseFlag judgeSevere
  split <;> rfl

/-- A raised flag leaves of every line its latch, its sample and its settled level (R165). -/
@[simp] theorem raiseFlag_lines (k : EventKind) (s : State) (l : Line) :
    ((raiseFlag k s).lines.table.get l).latch = (s.lines.table.get l).latch
      ∧ ((raiseFlag k s).lines.table.get l).sample = (s.lines.table.get l).sample
      ∧ ((raiseFlag k s).lines.table.get l).sampleRun = (s.lines.table.get l).sampleRun
      ∧ ((raiseFlag k s).lines.table.get l).settled = (s.lines.table.get l).settled := by
  unfold raiseFlag judgeSevere
  split
  · exact ⟨rfl, rfl, rfl, rfl⟩
  · simp [setAlarm]

/-- What an occurrence leaves of every line. -/
theorem report_lines (k : EventKind) (src : Source) (s : State) (l : Line) :
    ((report k src s).lines.table.get l).latch = (s.lines.table.get l).latch
      ∧ ((report k src s).lines.table.get l).sample = (s.lines.table.get l).sample
      ∧ ((report k src s).lines.table.get l).sampleRun = (s.lines.table.get l).sampleRun
      ∧ ((report k src s).lines.table.get l).settled = (s.lines.table.get l).settled := by
  unfold report
  split <;> simp

theorem report_reportsOnly (k : EventKind) (src : Source) (s : State) : ReportsOnly s (report k src s) :=
  ⟨(report_events k src s).2.2, report_link k src s, report_lines k src s⟩

theorem setHeaterOutput_reportsOnly (p : Nat) (s : State) : ReportsOnly s (setHeaterOutput p s) := by
  refine ⟨by simp, by simp, fun l => ?_⟩
  unfold setHeaterOutput
  split
  · exact ⟨rfl, rfl, rfl, rfl⟩
  · simp [setHeaterEnable]

theorem setHeaterOutput_alarm (p : Nat) (s : State) : (setHeaterOutput p s).lines.alarm = s.lines.alarm := by
  unfold setHeaterOutput
  split <;> rfl

theorem Beat.reportsOnly (h : Beat heat s t) : ReportsOnly s t := by
  cases h with
  | report k src => exact report_reportsOnly k src s
  | settle f l fm => exact setHeaterOutput_reportsOnly _ { s with frost := f, loops := l, filter := fm }
  | lamp b => exact ⟨by simp, by simp, fun l => by simp [setLamp]⟩
  | recompute d f => simp [ReportsOnly]
  | _ => exact ⟨rfl, rfl, fun _ => ⟨rfl, rfl, rfl, rfl⟩⟩

theorem Beat.fansUndriven (h : Beat heat s t) (still : FansUndriven s) : FansUndriven t := by
  cases h with
  | loops l keeps => exact keeps still
  | settle f l fm _ _ _ _ _ keeps => simpa [FansUndriven] using keeps still
  | _ => simpa [FansUndriven] using still

theorem Beat.allowance (h : Beat heat s t) (bounded : AllowanceBounded s) : AllowanceBounded t := by
  cases h with
  | governor g _ keeps => exact keeps bounded
  | frost f g _ _ _ _ _ same => simpa [AllowanceBounded, same] using bounded
  | _ => simpa [AllowanceBounded] using bounded

/-- A recomputation of D hands R on in DEFROST only, to both (R60, R86). -/
theorem recomputeDemand_reduction {s : State} (follows : ReductionFollows s) : ReductionFollows (recomputeDemand s) := by
  unfold recomputeDemand handDemand
  split
  · exact follows
  · dsimp only
    split
    · rename_i defrost
      exact ⟨fun _ => defrost, rfl⟩
    · exact follows

theorem Beat.reduction (h : Beat heat s t) (follows : ReductionFollows s) : ReductionFollows t := by
  cases h with
  | recompute d f => exact recomputeDemand_reduction (s := { s with demand := d, filter := f }) follows
  | governor g r => simpa [ReductionFollows, r] using follows
  | frost f g _ _ _ _ _ _ keeps => exact keeps follows
  | settle f l fm _ _ _ mode r => simpa [ReductionFollows, mode, r] using follows
  | _ => simpa [ReductionFollows] using follows

theorem Beat.capture (h : Beat heat s t) (follows : CaptureFollows s) : CaptureFollows t := by
  cases h with
  | demand d same => simpa [CaptureFollows, same.captureInForce] using follows
  | recompute d f _ _ _ capture => simpa [CaptureFollows] using capture follows
  | filter f capture => simpa [CaptureFollows, capture] using follows
  | settle f l fm _ _ _ _ _ _ capture => simpa [CaptureFollows, capture] using follows
  | _ => simpa [CaptureFollows] using follows

theorem Beat.storeWhole (h : Beat heat s t) (whole : StoreWhole s) : StoreWhole t := by
  cases h with
  | recompute d f _ _ _ _ store => simpa [StoreWhole] using store whole
  | filter f _ store => exact store whole
  | settle f l fm _ _ _ _ _ _ _ store => simpa [StoreWhole] using store whole
  | _ => simpa [StoreWhole] using whole

/-! #### The heater -/

theorem report_heater (k : EventKind) (src : Source) (s : State) : (report k src s).lines.heater = s.lines.heater := by
  unfold report
  split <;> simp

theorem reevaluate_flagged {s : State} (flagged : HeatFlagged s) : HeatFlagged (reevaluate s) := by
  obtain ⟨hto, heater⟩ := flagged
  unfold reevaluate
  refine ⟨?_, by rw [setHeaterOutput_heater _ s heater]; simp⟩
  generalize (if interlock s = true then s.frost.requested else 0) = p
  simp only [setHeaterOutput_output]
  by_cases off : p = 0 ∧ p ≠ s.frost.heaterOutput
  · rw [if_pos off]
    simp
  · intro on
    rw [if_neg off] at on
    have above := hto on
    omega

theorem recomputeDemand_heat (s : State) :
    (recomputeDemand s).frost.hto = s.frost.hto ∧ (recomputeDemand s).frost.heaterOutput = s.frost.heaterOutput
      ∧ (recomputeDemand s).frost.runSeen = s.frost.runSeen
      ∧ (recomputeDemand s).frost.requested = s.frost.requested := by
  unfold recomputeDemand handDemand
  split
  · simp
  · dsimp only
    split <;> simp

theorem Beat.flagged (h : Beat heat s t) (flagged : HeatFlagged s) : HeatFlagged t := by
  cases h with
  | report k src => simpa [HeatFlagged, report_heater] using flagged
  | recompute d f => simpa [HeatFlagged, recomputeDemand_heat] using flagged
  | frost f g _ output hto =>
    refine ⟨fun on => ?_, by simpa [output] using flagged.2⟩
    obtain was | above := hto on
    · simpa [output] using flagged.1 was
    · exact above
  | settle f l fm _ output hto =>
    exact reevaluate_flagged (s := { s with frost := f, loops := l, filter := fm })
      (by simpa [HeatFlagged, output, hto] using flagged)
  | lamp b => simpa [HeatFlagged] using flagged
  | _ => exact flagged

/-- After a re-evaluation the heater output is current (R75). -/
theorem reevaluate_current (s : State) : HeatCurrent (reevaluate s) := by
  have same : interlock (reevaluate s) = interlock s := interlock_congr (by simp) (by simp) (by simp)
  simp [HeatCurrent, same]

theorem HeatCurrent.congr {s t : State} (current : HeatCurrent s) (loops : t.loops.supply.state = s.loops.supply.state)
    (flow : t.loops.supply.flow = s.loops.supply.flow) (settings : t.settings = s.settings)
    (seen : t.frost.runSeen = s.frost.runSeen) (requested : t.frost.requested = s.frost.requested)
    (output : t.frost.heaterOutput = s.frost.heaterOutput) : HeatCurrent t := by
  have same : interlock t = interlock s := by simp [interlock, loops, flow, settings, seen]
  rw [HeatCurrent, same, output, requested]
  exact current

theorem Beat.current (h : Beat True s t) (current : HeatCurrent s) : HeatCurrent t := by
  cases h with
  | recompute d f =>
    exact current.congr (by simp) (by simp) (by simp) (by simp [recomputeDemand_heat]) (by simp [recomputeDemand_heat])
      (by simp [recomputeDemand_heat])
  | frost f g _ output _ seen requested => exact current.congr rfl rfl rfl seen requested output
  | loops l _ supply => exact current.congr (supply trivial).1 (supply trivial).2 rfl rfl rfl rfl
  | settle => exact reevaluate_current _
  | _ => exact current.congr (by simp) (by simp) (by simp) (by simp) (by simp) (by simp)

/-! #### The demand -/

theorem Beat.demandBounded (h : Beat heat s t) (bounded : DemandBounded s) : DemandBounded t := by
  obtain ⟨ordered, low, high⟩ := bounded
  have sets : allSettings t = allSettings s := by
    rw [allSettings, allSettings, h.outer.2.1, h.outer.2.2.1]
  refine ⟨sets ▸ ordered, ?_⟩
  cases h with
  | demand d same => exact same.d ▸ ⟨low, high⟩
  | recompute d f =>
    have clamp := demandOf_bounds { s with demand := d, filter := f } (ordered s.settings (by simp [allSettings]))
    simpa using clamp
  | _ => simpa using ⟨low, high⟩

/-- H is formed from the settings and the humidity response alone (R154). -/
theorem humidityDemand_congr {s t : State} (settings : t.settings = s.settings) (humidity : t.humidity = s.humidity) :
    humidityDemand t = humidityDemand s := by
  have increment : slotIncrement t = slotIncrement s := by
    funext k
    rw [slotIncrement, slotIncrement, settings, humidity]
  rw [humidityDemand, humidityDemand, settings, humidity, increment]

/-- D, H and the level flow read these parts of the state alone. -/
theorem demandCurrent_congr {s t : State} (settings : t.settings = s.settings) (same : SameInputs t.demand s.demand)
    (humidity : t.humidity = s.humidity) (handed : t.frost.dHanded = s.frost.dHanded) (current : DemandCurrent s) :
    DemandCurrent t := by
  have input : demandOf t = demandOf s := by
    simp [demandOf, demandInput, levelFlowNow, boostFlow, pullDemand, settings, same.captureInForce, same.hold,
      same.level, same.boost, same.h, same.pullTimer]
  have h := humidityDemand_congr settings humidity
  simpa [DemandCurrent, input, h, levelFlowNow, settings, same.level, same.d, same.h, humidity, handed] using current

/-- A recomputation makes D current again, whatever input has changed, when H and the level flow are (R60). -/
theorem recomputeDemand_current {s : State} (handed : s.frost.dHanded = s.demand.d)
    (level : s.humidity.levelFlow = levelFlowNow s) (h : s.humidity.h = humidityDemand s)
    (same : s.demand.h = s.humidity.h) : DemandCurrent (recomputeDemand s) := by
  have dHanded : (recomputeDemand s).frost.dHanded = demandOf s := by
    unfold recomputeDemand
    split
    · rename_i current
      rw [current, handed]
    · simp
  have formed : humidityDemand (recomputeDemand s) = humidityDemand s := humidityDemand_congr (by simp) (by simp)
  refine ⟨by simp, by simp [dHanded], ?_, ?_, by simpa using same⟩
  · simpa [levelFlowNow] using level
  · simpa [formed] using h

theorem Beat.demandCurrent (h : Beat heat s t) (current : DemandCurrent s) : DemandCurrent t := by
  have kept (same : SameInputs t.demand s.demand) (handed : t.frost.dHanded = s.frost.dHanded) : DemandCurrent t :=
    demandCurrent_congr h.outer.2.1 same h.outer.2.2.2.2.1 handed current
  cases h with
  | demand d same => exact kept same rfl
  | recompute d f dSame hSame level =>
    obtain ⟨_, handed, flow, formed, hHanded⟩ := current
    exact recomputeDemand_current (s := { s with demand := d, filter := f }) (by simp [handed, dSame])
      (by simpa [levelFlowNow, level] using flow) formed (by simp [hHanded, hSame])
  | frost f g d => exact kept ⟨rfl, rfl, rfl, rfl, rfl, rfl, rfl⟩ d
  | settle f l fm d => exact kept (by constructor <;> simp) (by simpa using d)
  | _ => exact kept (by constructor <;> simp) (by simp)

/-! #### The event unit -/

/-- ALARM OUT follows the flags that an occurrence leaves (R165, R173). -/
theorem report_alarm (k : EventKind) (src : Source) (s : State) (follows : s.lines.alarm = s.events.severe) :
    (report k src s).lines.alarm = ((s.events.flags ||| kindBit k) &&& severeMask != 0) := by
  have raised : (raiseFlag k s).lines.alarm = ((s.events.flags ||| kindBit k) &&& severeMask != 0) :=
    judgeSevere_alarm { s with events := { s.events with flags := s.events.flags ||| kindBit k } } follows
  unfold report
  split
  · simpa using raised
  · exact raised

theorem Beat.alarm (h : Beat heat s t) (follows : AlarmFollows s) : AlarmFollows t := by
  obtain ⟨severe, alarm⟩ := follows
  cases h with
  | report k src =>
    exact ⟨by simp, by rw [(report_events k src s).2.1, report_alarm k src s alarm]⟩
  | settle f l fm =>
    refine ⟨by simpa using severe, ?_⟩
    rw [reevaluate, setHeaterOutput_alarm]
    simpa using alarm
  | _ => simpa [AlarmFollows] using ⟨severe, alarm⟩

/-- The number of OVERFLOW records held (R178). -/
def overflowCount (q : List Notice) : Nat := q.countP fun n => !ordinary n

/-- Losses touch no ordinary record, and leave one OVERFLOW record (R178). -/
theorem addOverflow_counts (losses : Nat) (severe : Bool) (now : Nat) {q : List Notice} (few : overflowCount q ≤ 1) :
    ordinaryCount (addOverflow losses severe now q) = ordinaryCount q
      ∧ overflowCount (addOverflow losses severe now q) ≤ 1 := by
  have touched (f : Notice → Notice) (keeps : ∀ n, ordinary (f n) = ordinary n) :
      ordinaryCount (q.map f) = ordinaryCount q ∧ overflowCount (q.map f) = overflowCount q := by
    simp only [ordinaryCount, overflowCount, List.countP_map, Function.comp_def, keeps, true_and]
  unfold addOverflow
  split
  · have counts := touched (fun n => if ordinary n then n else
        { n with count := saturate 255 (n.count + losses), severe := n.severe || severe, last := now })
      (fun n => by split <;> simp_all [ordinary])
    exact ⟨counts.1, counts.2.le.trans few⟩
  · rename_i missing
    have none_held : overflowCount q = 0 := by
      simpa [overflowCount, List.countP_eq_zero] using missing
    simp [ordinaryCount, overflowCount, ordinary] at none_held ⊢
    simpa using none_held

/-- A severe occurrence that evicts takes an ordinary record out (R177 case 3). -/
theorem eraseP_evictable_counts {q : List Notice} {old : Notice} (found : q.find? evictable = some old) :
    ordinaryCount (q.eraseP evictable) + 1 = ordinaryCount q
      ∧ overflowCount (q.eraseP evictable) = overflowCount q := by
  have takes : evictable old = true := List.find?_some found
  obtain ⟨n, before, after, _, evicted, split, erased⟩ :=
    List.exists_of_eraseP (List.mem_of_find?_eq_some found) takes
  have plain : ordinary n = true := by
    simp only [evictable, Bool.and_eq_true] at evicted
    exact evicted.1
  rw [erased, split]
  simp only [ordinaryCount, overflowCount, List.countP_append, List.countP_cons, plain]
  simp
  omega

/-- A placed occurrence keeps the bounds of the queue and leaves a record in it (R177). -/
theorem placeNotice_bounded (set : Settings) (k : EventKind) (src : Source) (now : Nat) {q : List Notice}
    (most : ordinaryCount q ≤ 15) (few : overflowCount q ≤ 1) :
    ordinaryCount (placeNotice set k src now q) ≤ 15 ∧ overflowCount (placeNotice set k src now q) ≤ 1
      ∧ placeNotice set k src now q ≠ [] := by
  have appended (p : List Notice) : ordinaryCount (p ++ [newNotice set k src now]) = ordinaryCount p + 1
      ∧ overflowCount (p ++ [newNotice set k src now]) = overflowCount p := by
    simp [ordinaryCount, overflowCount, newNotice, ordinary]
  have lost (losses : Nat) (severe : Bool) : ordinaryCount (addOverflow losses severe now q) ≤ 15
      ∧ overflowCount (addOverflow losses severe now q) ≤ 1 := by
    obtain ⟨plain, overflows⟩ := addOverflow_counts losses severe now few
    omega
  have held (losses : Nat) (severe : Bool) (newest : Notice) (last : q.getLast? = some newest) :
      addOverflow losses severe now q ≠ [] := by
    have nonempty : q ≠ [] := by
      rintro rfl
      cases last
    unfold addOverflow
    split <;> simp [nonempty]
  unfold placeNotice
  split
  case h_2 => simp [ordinaryCount, overflowCount, newNotice, ordinary]
  case h_1 newest last =>
    split
    · obtain ⟨older, rfl⟩ := List.getLast?_eq_some_iff.mp last
      rename_i merge
      have same : ordinary (mergeInto now newest) = ordinary newest := rfl
      simp only [ordinaryCount, overflowCount, List.countP_append, List.countP_cons, List.dropLast_concat, same] at most few ⊢
      exact ⟨most, few, by simp⟩
    split
    · rename_i room
      obtain ⟨plain, overflows⟩ := appended q
      have limit : Config.maxNotices = 15 := rfl
      exact ⟨by omega, by omega, by simp⟩
    split
    · split
      · rename_i old found
        obtain ⟨plain, overflows⟩ := eraseP_evictable_counts found
        obtain ⟨plain', overflows'⟩ := addOverflow_counts old.count false now (overflows.le.trans few)
        obtain ⟨plain'', overflows''⟩ := appended (addOverflow old.count false now (q.eraseP evictable))
        exact ⟨by omega, by omega, by simp⟩
      · exact ⟨(lost 1 true).1, (lost 1 true).2, held 1 true newest last⟩
    · exact ⟨(lost 1 false).1, (lost 1 false).2, held 1 false newest last⟩

theorem report_queueBounded (k : EventKind) (src : Source) {s : State} (bounded : QueueBounded s) :
    QueueBounded (report k src s) := by
  obtain ⟨most, few, ntf, shown⟩ := bounded
  obtain ⟨most', few', held⟩ := placeNotice_bounded s.settings k src s.events.seconds most few
  unfold report
  split
  · refine ⟨by simpa [placeOccurrence, judgeNtf] using most', by simpa [placeOccurrence, judgeNtf, overflowCount] using few', ?_, ?_⟩
    · simp [placeOccurrence, judgeNtf]
    · simpa [placeOccurrence, judgeNtf] using held
  · simpa [QueueBounded] using ⟨most, few, ntf, shown⟩

theorem Beat.queue (h : Beat heat s t) (bounded : QueueBounded s) : QueueBounded t := by
  cases h with
  | report k src => exact report_queueBounded k src bounded
  | _ => simpa [QueueBounded] using bounded

/-! #### The slot table and the stores -/

theorem Beat.slots (h : Beat heat s t) (consistent : SlotsConsistent s) : SlotsConsistent t := by
  obtain ⟨_, settings, store, bus, _⟩ := h.outer
  simpa [SlotsConsistent, allSettings, occupied, settings, store, bus] using consistent

theorem Beat.banks (h : Beat heat s t) (consistent : BanksConsistent s) : BanksConsistent t := by
  obtain ⟨_, _, store, _⟩ := h.outer
  simpa [BanksConsistent, store] using consistent

theorem Beat.quiet (h : Beat heat s t) (quiet : UnjudgedSlotsQuiet s) : UnjudgedSlotsQuiet t := by
  obtain ⟨_, _, _, bus, humidity, _⟩ := h.outer
  simpa [UnjudgedSlotsQuiet, bus, humidity] using quiet

end

end Sys2Proof.Machine
end

section
/-! Every cascade of the part as a sequence of beats: the releases and reports of the controller, the filter monitor's work
on an event, the targets and the run state, the transitions of the frost guard, and the window end. -/

namespace Sys2Proof.Machine

section
variable {heat : Prop}

namespace Cascade

theorem ite {c : Prop} [Decidable c] {s t u : State} (ht : c → Cascade heat s t) (hu : ¬c → Cascade heat s u) :
    Cascade heat s (if c then t else u) := by
  split <;> simp_all

end Cascade

/-! ### Reports and the demand -/

theorem report_cascade (k : EventKind) (src : Source) (s : State) : Cascade heat s (report k src s) :=
  .single (.report k src)

theorem reportAll_cascade (os : List (EventKind × Source)) (s : State) : Cascade heat s (reportAll os s) := by
  induction os generalizing s with
  | nil => exact .refl
  | cons o os ih => exact (report_cascade o.1 o.2 s).trans (ih _)

theorem demand_cascade {s : State} {d : Demand} (same : SameInputs d s.demand) :
    Cascade heat s { s with demand := d } :=
  .single (.demand d same)

/-- D recomputed with a new input of the controller's own (R60). -/
theorem recompute_cascade {s : State} (d : Demand) (d_same : d.d = s.demand.d) (h : d.h = s.demand.h)
    (level : d.level = s.demand.level) (capture : d.captureInForce = s.demand.captureInForce) :
    Cascade heat s (recomputeDemand { s with demand := d }) :=
  .single (.recompute d s.filter d_same h level (fun follows => capture.trans follows) id)

theorem releaseHold_cascade (c : HoldCause) (s : State) : Cascade heat s (releaseHold c s) := by
  unfold releaseHold
  split
  · exact (recompute_cascade { s.demand with hold := none } rfl rfl rfl rfl).trans (report_cascade _ _ _)
  · exact .refl

/-! ### The frost guard's figures -/

theorem setRequested_cascade (p : Nat) (s : State) : Cascade heat s (setRequested p s) :=
  .single (.settle { s.frost with requested := p } s.loops s.filter rfl rfl rfl rfl rfl id rfl id)

theorem reevaluate_cascade (s : State) : Cascade heat s (reevaluate s) :=
  .single (.settle s.frost s.loops s.filter rfl rfl rfl rfl rfl id rfl id)

/-- A change of the guard's own figures, which touches neither R nor what the heater output reads. -/
theorem frost_cascade {s : State} (f : FrostGuard) (d : f.dHanded = s.frost.dHanded)
    (output : f.heaterOutput = s.frost.heaterOutput) (hto : f.hto = s.frost.hto) (seen : f.runSeen = s.frost.runSeen)
    (requested : f.requested = s.frost.requested) (r : f.r = s.frost.r) (mode : f.mode = s.frost.mode) :
    Cascade heat s { s with frost := f } :=
  .single (.frost f s.governor d output (fun on => .inl (hto ▸ on)) seen requested ⟨rfl, rfl⟩
    (by simp [ReductionFollows, r, mode]))

theorem clearRuns_cascade (s : State) : Cascade heat s (clearRuns s) := frost_cascade _ rfl rfl rfl rfl rfl rfl rfl

theorem setReduction_zero_cascade (s : State) : Cascade heat s (setReduction 0 s) :=
  .single (.frost { s.frost with r := 0 } { s.governor with r := 0 } rfl rfl .inl rfl rfl ⟨rfl, rfl⟩
    (fun _ => ⟨fun above => absurd above (by simp), rfl⟩))

/-- A new value of R in DEFROST (R86). -/
theorem setReduction_cascade {s : State} (r : Nat) (defrost : s.frost.mode = .defrost) :
    Cascade heat s (setReduction r s) :=
  .single (.frost { s.frost with r := r } { s.governor with r := r } rfl rfl .inl rfl rfl ⟨rfl, rfl⟩
    (fun _ => ⟨fun _ => defrost, rfl⟩))

/-- The frost state may change to one other than DEFROST while R is 0. -/
theorem setFrostMode_cascade (m : FrostMode) (s : State)
    (zero : ReductionFollows s → m ≠ s.frost.mode → m ≠ .defrost → s.frost.r = 0) :
    Cascade heat s (setFrostMode m s) := by
  unfold setFrostMode
  split
  · exact .refl
  · rename_i change
    refine .trans (.single (.frost { s.frost with mode := m } s.governor rfl rfl .inl rfl rfl ⟨rfl, rfl⟩
      fun follows => ⟨fun above => ?_, follows.2⟩)) (report_cascade _ _ _)
    by_contra other
    have none_left := zero follows change other
    simp only at above
    omega

/-- A frost state outside DEFROST has R 0, so it may be left. -/
theorem setFrostMode_cascade_of_mode (m : FrostMode) {s : State} (mode : s.frost.mode ≠ .defrost) :
    Cascade heat s (setFrostMode m s) :=
  setFrostMode_cascade m s fun follows _ _ => by
    by_contra above
    exact mode (follows.1 (Nat.pos_of_ne_zero above))

theorem restGuard_cascade (s : State) : Cascade heat s (restGuard s) := by
  have cleared : Cascade heat s (setReduction 0 (setRequested 0 (clearRuns s))) :=
    ((clearRuns_cascade s).trans (setRequested_cascade 0 _)).trans (setReduction_zero_cascade _)
  unfold restGuard
  dsimp only
  refine .trans ?_ (setFrostMode_cascade _ _ (by intros; rfl))
  exact cleared.trans (frost_cascade _ rfl rfl rfl rfl rfl rfl rfl)

/-- The run state reported to the guard, which re-evaluates the interlock (R75, R78). -/
theorem runSeen_cascade (rs : RunState) (s : State) :
    Cascade heat s (reevaluate { s with frost := { s.frost with runSeen := rs } }) :=
  .single (.settle { s.frost with runSeen := rs } s.loops s.filter rfl rfl rfl rfl rfl id rfl id)

theorem guardRunReport_cascade (rs : RunState) (s : State) : Cascade heat s (guardRunReport rs s) := by
  cases rs with
  | startup | run | frostStop => exact runSeen_cascade _ s
  | rest | smokeStop | faultStop => exact (runSeen_cascade _ s).trans (restGuard_cascade _)

/-! ### The filter monitor -/

/-- A change of the monitor's own figures, which leaves the capture's state and the store alone. -/
theorem filter_cascade {s : State} (f : FilterMonitor) (capture : f.capture.state = s.filter.capture.state)
    (store : f.store = s.filter.store) : Cascade heat s { s with filter := f } :=
  .single (.filter f capture (by rw [store]; exact id))

theorem accrueVolume_cascade (x : Stream) (air : Nat) (s : State) : Cascade heat s (accrueVolume x air s) := by
  unfold accrueVolume
  split <;> exact filter_cascade _ rfl rfl

theorem accrueMinute_cascade (x : Stream) (served : Bool) (s : State) : Cascade heat s (accrueMinute x served s) := by
  unfold accrueMinute
  dsimp only
  refine .ite (fun _ => .refl) fun _ => ?_
  split <;> exact filter_cascade _ rfl rfl

theorem orderRewrite_cascade (s : State) : Cascade heat s (orderRewrite s) := filter_cascade _ rfl rfl

theorem reportLamp_cascade (s : State) : Cascade heat s (reportLamp s) :=
  .ite (fun _ => .refl) fun _ => .single (.lamp _)

theorem sumSample_state (x : Stream) (v : Nat) (c : Capture) : (sumSample x v c).state = c.state := by
  unfold sumSample
  split <;> rfl

theorem takeSample_cascade (x : Stream) (v : Nat) (s : State) : Cascade heat s (takeSample x v s) :=
  filter_cascade _ (sumSample_state x v _) rfl

theorem countWindow_cascade (x : Stream) (s : State) : Cascade heat s (countWindow x s) :=
  .ite (fun _ => filter_cascade _ rfl rfl) fun _ => .refl

/-- A capture that begins, goes on or ends, reported to the controller (R58). -/
theorem captureReport_cascade {s : State} (b : Bool) (f : FilterMonitor)
    (capture : b = decide (f.capture.state ≠ .none)) (store : f.store = s.filter.store) :
    Cascade heat s (captureReport b { s with filter := f }) :=
  .single (.recompute { s.demand with captureInForce := b } f rfl rfl rfl (fun _ => capture) (by rw [store]; exact id))

theorem abortCapture_cascade (c : CaptureCause) (s : State) : Cascade heat s (abortCapture c s) :=
  .ite (fun _ => .refl) fun _ =>
    (captureReport_cascade (s := s) false { s.filter with capture := Capture.empty } rfl rfl).trans (report_cascade _ _ _)

theorem passToRun_cascade (settled : Bool) (s : State) : Cascade heat s (passToRun settled s) :=
  .ite (fun _ => captureReport_cascade (s := s) true
    { s.filter with capture := { s.filter.capture with state := .run, timer := 0, lockOut := ⟨none, none⟩ } } rfl rfl)
    fun _ => .refl

theorem startCapture_cascade (named : PerStream Bool) (s : State) : Cascade heat s (startCapture named s) :=
  captureReport_cascade true _ rfl rfl

theorem filterWindowEnd_cascade (x : Stream) (w : WindowFigures) (s : State) :
    Cascade heat s (filterWindowEnd x w s) := by
  have accrued := accrueVolume_cascade (heat := heat) x (w.flow * w.ended) s
  unfold filterWindowEnd
  dsimp only
  split
  · exact ((accrued.trans (takeSample_cascade _ _ _)).trans (countWindow_cascade _ _)).trans (passToRun_cascade _ _)
  · exact (accrued.trans (countWindow_cascade _ _)).trans (passToRun_cascade _ _)

theorem filterLoopChange_cascade (x : Stream) (before after : LoopState) (s : State) :
    Cascade heat s (filterLoopChange x before after s) :=
  .ite (fun _ => filter_cascade _ rfl rfl) fun _ => .refl

theorem filterMinuteWork_cascade (served : PerStream Bool) (s : State) : Cascade heat s (filterMinuteWork served s) := by
  have accrued : Cascade heat s (accrueMinute .extract served.extract (accrueMinute .supply served.supply s)) :=
    (accrueMinute_cascade _ _ _).trans (accrueMinute_cascade _ _ _)
  unfold filterMinuteWork
  dsimp only
  refine .trans (.trans (.trans ?_ (reportLamp_cascade _)) (reportAll_cascade _ _)) (orderRewrite_cascade _)
  exact accrued.trans (filter_cascade _ rfl rfl)

/-- The lamp follows the records alone, so it may be judged before the capture ends. -/
theorem reportLamp_filter (s : State) (f : FilterMonitor) :
    reportLamp { s with filter := f } = { reportLamp { s with filter := f } with filter := f } := by
  unfold reportLamp
  split <;> rfl

theorem endCaptureRun_cascade (s : State) : Cascade heat s (endCaptureRun s) := by
  unfold endCaptureRun
  dsimp only
  refine .ite (fun _ => .refl) fun _ => .ite (fun _ => abortCapture_cascade _ _) fun _ => ?_
  refine .trans ?_ (reportAll_cascade _ _)
  generalize (⟨recordAfterCapture s.filter.capture .supply s.filter.records.supply,
    recordAfterCapture s.filter.capture .extract s.filter.records.extract⟩ : PerStream FilterRec) = records
  have lit : Cascade heat s
      { reportLamp { s with filter := { s.filter with records := records, capture := Capture.empty } } with
        filter := s.filter } := by
    unfold reportLamp
    split
    · exact .refl
    · exact .single (.lamp (lampWanted records))
  refine lit.trans ?_
  rw [reportLamp_filter]
  generalize reportLamp { s with filter := { s.filter with records := records, capture := Capture.empty } } = u
  exact captureReport_cascade (s := { u with filter := s.filter }) false
    { s.filter with records := records, capture := Capture.empty, rewriting := true } rfl rfl

/-- The monitor's own work on an event that is no request. -/
theorem filterTake_cascade {e : FilterEvent} (s : State) (own : ∀ to' req, e ≠ .request to' req) :
    Cascade heat s (filterTake e s) := by
  cases e with
  | windowEnd x w => exact filterWindowEnd_cascade x w s
  | loopChange x before after => exact filterLoopChange_cascade x before after s
  | minute served => exact filterMinuteWork_cascade served s
  | waitTimeout => exact .ite (fun _ => abortCapture_cascade _ _) fun _ => .refl
  | runEnd => exact endCaptureRun_cascade s
  | lockOut x => exact .ite (fun _ => abortCapture_cascade _ _) fun _ => .refl
  | leftRun => exact abortCapture_cascade _ _
  | frostEntry => exact abortCapture_cascade _ _
  | channelFailed x => exact .ite (fun _ => abortCapture_cascade _ _) fun _ => .refl
  | request to' req => exact absurd rfl (own to' req)

theorem filterPost_cascade {e : FilterEvent} (s : State) (own : ∀ to' req, e ≠ .request to' req) :
    Cascade heat s (filterPost e s) :=
  .ite (fun _ => filter_cascade _ rfl rfl) fun _ => filterTake_cascade s own

/-! ### Targets and the run state -/

/-- A change of a loop's record that leaves an undriven fan undriven. -/
theorem setLoop_undriven {x : Stream} {l : LoopRec} {s : State}
    (still : (undriven (s.loops.get x).state → (s.loops.get x).drive = 0) → undriven l.state → l.drive = 0) :
    FansUndriven s → FansUndriven { s with loops := s.loops.set x l } := by
  rintro ⟨supply, extract⟩
  cases x
  · exact ⟨still supply, extract⟩
  · exact ⟨supply, still extract⟩

/-- The event that a loop's change of state hands to the monitor touches the monitor's own figures alone. -/
theorem filterPost_loopChange_eq (x : Stream) (before after : LoopState) (s : State) :
    filterPost (.loopChange x before after) s = { s with filter := (filterPost (.loopChange x before after) s).filter }
      ∧ (filterPost (.loopChange x before after) s).filter.capture.state = s.filter.capture.state
      ∧ (filterPost (.loopChange x before after) s).filter.store = s.filter.store := by
  simp only [filterPost, filterTake, filterLoopChange]
  split
  · exact ⟨rfl, rfl, rfl⟩
  · split <;> exact ⟨rfl, rfl, rfl⟩

/-- A loop's record changed and its change of state reported: for loop S the interlock is re-evaluated (R39, R75). -/
theorem loopChanged_cascade {x : Stream} {l : LoopRec} {s : State}
    (still : (undriven (s.loops.get x).state → (s.loops.get x).drive = 0) → undriven l.state → l.drive = 0)
    (flow : l.flow = (s.loops.get x).flow) :
    Cascade heat s (reportLoopChange x (s.loops.get x).state l.state (setLoop x l s)) := by
  have keeps := setLoop_undriven still
  unfold reportLoopChange
  split
  · rename_i same
    refine .single (.loops _ keeps fun _ => ?_)
    cases x
    · exact ⟨same.symm, flow⟩
    · exact ⟨rfl, rfl⟩
  · obtain ⟨own, capture, store⟩ := filterPost_loopChange_eq x (s.loops.get x).state l.state (setLoop x l s)
    dsimp only
    rw [own]
    split
    · exact .single (.settle s.frost (s.loops.set x l) _ rfl rfl rfl rfl rfl keeps capture (by rw [store]; exact id))
    · rename_i other
      refine .trans (.single (.loops _ keeps fun _ => ?_)) (filter_cascade (s := setLoop x l s) _ capture store)
      cases x
      · exact absurd rfl other
      · exact ⟨rfl, rfl⟩

theorem zeroTarget_undriven (l : LoopRec) (still : undriven l.state → l.drive = 0) :
    undriven (zeroTarget l).state → (zeroTarget l).drive = 0 := by
  intro _
  unfold zeroTarget
  split
  case h_1 state | h_2 state => exact still (by simp [undriven, state])
  all_goals rfl

theorem offer_cascade (x : Stream) (target : Nat) (s : State) : Cascade heat s (offer x target s) := by
  unfold offer
  refine .ite (fun _ => loopChanged_cascade (zeroTarget_undriven _) (zeroTarget_window _).1) fun _ => ?_
  refine .single (.loops _ (setLoop_undriven id) fun _ => ?_)
  cases x <;> exact ⟨rfl, rfl⟩

theorem setTargets_cascade (tS tE : Nat) (s : State) : Cascade heat s (setTargets tS tE s) := by
  have held : Cascade heat s { s with governor := { s.governor with tS := tS, tE := tE } } :=
    .single (.governor _ rfl id)
  exact (held.trans (offer_cascade .supply tS _)).trans (offer_cascade .extract tE _)

theorem changeRunStateWith_cascade (rs : RunState) (os : List (EventKind × Source)) (s : State) :
    Cascade heat s (changeRunStateWith rs os s) := by
  unfold changeRunStateWith
  dsimp only
  refine .ite (fun _ => .refl) fun _ => ?_
  have entered : Cascade heat s { s with demand := { s.demand with runState := rs } } :=
    demand_cascade ⟨rfl, rfl, rfl, rfl, rfl, rfl, rfl⟩
  have guarded := (Cascade.ite (c := rs = .run) (fun _ => entered) (fun _ => entered.trans (setTargets_cascade 0 0 _))).trans
    (guardRunReport_cascade rs _)
  split
  · exact ((guarded.trans (filterPost_cascade _ (by simp))).trans (reportAll_cascade os _)).trans
      (releaseHold_cascade _ _)
  · exact guarded.trans (reportAll_cascade os _)

theorem changeRunState_cascade (rs : RunState) (s : State) : Cascade heat s (changeRunState rs s) :=
  changeRunStateWith_cascade rs [] s

theorem loopFailedReport_cascade (s : State) : Cascade heat s (loopFailedReport s) := by
  unfold loopFailedReport
  split
  case h_5 | h_6 => exact .refl
  all_goals exact changeRunState_cascade _ _

theorem smokeActiveReport_cascade (l : Line) (s : State) : Cascade heat s (smokeActiveReport l s) := by
  unfold smokeActiveReport
  dsimp only
  refine .ite (fun _ => demand_cascade ⟨rfl, rfl, rfl, rfl, rfl, rfl, rfl⟩) fun _ => ?_
  exact (demand_cascade (s := s) (d := { s.demand with
      smokeActive := s.demand.smokeActive.set l true, smokeClear := 0, smokeRunning := false, smokeSource := some l })
    ⟨rfl, rfl, rfl, rfl, rfl, rfl, rfl⟩).trans (changeRunStateWith_cascade _ _ _)

theorem smokeInactiveReport_cascade (l : Line) (s : State) : Cascade heat s (smokeInactiveReport l s) :=
  .ite (fun _ => demand_cascade (s := s) ⟨rfl, rfl, rfl, rfl, rfl, rfl, rfl⟩)
    fun _ => demand_cascade ⟨rfl, rfl, rfl, rfl, rfl, rfl, rfl⟩

/-! ### Transitions of the frost guard -/

/-- DEFROST entered with R set at once: R and the frost state change together (R85, R86). -/
theorem setReduction_defrost_cascade (r : Nat) (s : State) :
    Cascade heat s (setFrostMode .defrost (setReduction r s)) := by
  unfold setFrostMode
  split
  · rename_i already
    exact setReduction_cascade r already.symm
  · refine .trans (.single (.frost { s.frost with r := r, mode := .defrost } { s.governor with r := r } rfl rfl .inl rfl rfl
      ⟨rfl, rfl⟩ fun _ => ⟨fun _ => rfl, rfl⟩)) (report_cascade _ _ _)

theorem enterDefrost_cascade (s : State) : Cascade heat s (enterDefrost s) := by
  have timed : Cascade heat s
      { s with frost := { s.frost with defrostTimer := 0, defrostLimit := s.settings.defrostMax } } :=
    frost_cascade _ rfl rfl rfl rfl rfl rfl rfl
  exact ((timed.trans (setReduction_defrost_cascade _ _)).trans (releaseHold_cascade _ _)).trans
    (filterPost_cascade _ (by simp))

theorem resetPower_cascade (p : Nat) (s : State) :
    Cascade heat s (setReduction 0 (setRequested p (clearRuns s))) :=
  ((clearRuns_cascade s).trans (setRequested_cascade p _)).trans (setReduction_zero_cascade _)

theorem enterFrostStop_cascade (s : State) : Cascade heat s (enterFrostStop s) := by
  have stopped : Cascade heat s (setFrostMode .frostStop
      { setReduction 0 (setRequested 0 (clearRuns s)) with
        frost :=
          { (setReduction 0 (setRequested 0 (clearRuns s))).frost with
            defrostTimer := 0, stopTimer := 0, stopLimit := s.settings.stopTime
            history := addEntry s.events.seconds (setReduction 0 (setRequested 0 (clearRuns s))).frost.history } }) := by
    refine .trans ?_ (setFrostMode_cascade _ _ (by intros; rfl))
    exact (resetPower_cascade 0 s).trans (frost_cascade _ rfl rfl rfl rfl rfl rfl rfl)
  unfold enterFrostStop
  dsimp only
  generalize setFrostMode .frostStop _ = u at stopped ⊢
  have reported := Cascade.ite (c := repeated u.frost.history = true)
    (fun _ => stopped.trans (report_cascade .frostRepeat .none u)) (fun _ => stopped)
  have told := (reported.trans (releaseHold_cascade .frost _)).trans (filterPost_cascade (e := .frostEntry) _ (by simp))
  exact .ite (fun _ => told.trans (changeRunState_cascade _ _)) (fun _ => told)

theorem enterBlind_cascade (s : State) : Cascade heat s (enterBlind s) := by
  unfold enterBlind
  refine .trans (.trans ?_ (report_cascade _ _ _)) (setFrostMode_cascade _ _ (by intros; simp [setReduction]))
  exact (resetPower_cascade (s.settings.hMax / 2) s).trans (frost_cascade _ rfl rfl rfl rfl rfl rfl rfl)

theorem leaveDefrost_cascade (s : State) : Cascade heat s (leaveDefrost s) := by
  unfold leaveDefrost
  refine .trans ?_ (setFrostMode_cascade _ _ (by intros; rfl))
  exact ((clearRuns_cascade s).trans (setReduction_zero_cascade _)).trans (frost_cascade _ rfl rfl rfl rfl rfl rfl rfl)

theorem endDefrost_cascade (s : State) : Cascade heat s (endDefrost s) :=
  .ite (fun _ => .ite (fun _ => enterFrostStop_cascade s) fun _ => leaveDefrost_cascade s) fun _ => .refl

theorem leaveBlind_cascade {s : State} (blind : s.frost.mode = .blind) : Cascade heat s (leaveBlind s) :=
  (setRequested_cascade 0 s).trans (setFrostMode_cascade_of_mode _ (by simp [blind]))

/-! ### The frost period and the guard's signals -/

theorem enterPreheat_cascade (p : Nat) {s : State} (mode : s.frost.mode ≠ .defrost) :
    Cascade heat s (enterPreheat p s) :=
  ((clearRuns_cascade s).trans (setRequested_cascade p _)).trans
    (setFrostMode_cascade_of_mode _ (by simpa [clearRuns] using mode))

theorem watchRule_cascade {s : State} (mode : s.frost.mode ≠ .defrost) : Cascade heat s (watchRule s) := by
  have idle : Cascade heat s (if outsideReleased s then setFrostMode .idle s else s) :=
    .ite (fun _ => setFrostMode_cascade_of_mode _ mode) fun _ => .refl
  unfold watchRule watchRunRule
  refine .ite (fun _ => .ite (fun _ => enterPreheat_cascade _ mode) fun _ => ?_) fun _ => idle
  split
  · exact enterPreheat_cascade _ mode
  · exact idle

theorem escalate_cascade (s : State) : Cascade heat s (escalate s) := by
  have cleared : Cascade heat s { s with frost := { s.frost with cold := 0 } } :=
    frost_cascade _ rfl rfl rfl rfl rfl rfl rfl
  exact .ite (fun _ => cleared.trans (enterDefrost_cascade _)) fun _ => cleared.trans (enterFrostStop_cascade _)

theorem judgeEscalation_cascade (tExh : Int) (s : State) : Cascade heat s (judgeEscalation tExh s) :=
  .ite (fun _ => escalate_cascade s) fun _ => frost_cascade _ rfl rfl rfl rfl rfl rfl rfl

theorem preheatRule_cascade {s : State} (mode : s.frost.mode ≠ .defrost) : Cascade heat s (preheatRule s) := by
  have watched (p : Nat) : Cascade heat s (setFrostMode .watch (clearRuns (setRequested p s))) :=
    ((setRequested_cascade p s).trans (clearRuns_cascade _)).trans
      (setFrostMode_cascade_of_mode _ (by simpa [clearRuns] using mode))
  have stepped (p : Nat) (f : FrostGuard) (h : f = { (setRequested p s).frost with cold := f.cold, warm := f.warm }) :
      Cascade heat s { setRequested p s with frost := f } :=
    (setRequested_cascade p s).trans (frost_cascade _ (by rw [h]) (by rw [h]) (by rw [h]) (by rw [h]) (by rw [h])
      (by rw [h]) (by rw [h]))
  unfold preheatRule
  split
  · exact .ite (fun _ => watched _) fun _ => (stepped _ _ rfl).trans (judgeEscalation_cascade _ _)
  · exact .ite (fun _ => watched _) fun _ => stepped _ _ rfl
  · exact .refl

theorem defrostRule_cascade {s : State} (mode : s.frost.mode = .defrost) : Cascade heat s (defrostRule s) := by
  have reduced := setReduction_cascade (heat := heat) (reductionNow s) mode
  unfold defrostRule
  dsimp only
  split
  · rename_i tExh _
    have powered := reduced.trans (setRequested_cascade (stepPower s.settings tExh s.frost.requested) _)
    exact .ite (fun _ => powered.trans (leaveDefrost_cascade _)) fun _ => powered
  · exact reduced

theorem blindRule_cascade (flagWas : Bool) {s : State} (blind : s.frost.mode = .blind) :
    Cascade heat s (blindRule flagWas s) := by
  have powered := setRequested_cascade (heat := heat) (s.settings.hMax / 2) s
  exact .ite (fun _ => leaveBlind_cascade blind) fun _ =>
    .ite (fun _ => powered) fun _ => powered.trans (report_cascade _ _ _)

theorem judgePeriod_cascade (s : State) : Cascade heat s (judgePeriod s) := by
  unfold judgePeriod stateRule
  refine .ite (fun _ => enterBlind_cascade s) fun _ => ?_
  split
  case h_1 idle => exact .ite (fun _ => .refl) fun _ => setFrostMode_cascade_of_mode _ (by simp [idle])
  case h_2 watch => exact watchRule_cascade (by simp [watch])
  case h_3 preheat => exact .ite (fun _ => preheatRule_cascade (by simp [preheat])) fun _ => .refl
  case h_4 defrost => exact .ite (fun _ => defrostRule_cascade defrost) fun _ => .refl
  case h_5 => exact .refl
  case h_6 blind => exact blindRule_cascade _ blind

theorem startCycle_cascade (s : State) : Cascade heat s (startCycle s) :=
  .single (.frost { s.frost with applied := s.frost.heaterOutput, hto := decide (0 < s.frost.heaterOutput) } s.governor
    rfl rfl (fun on => .inr (of_decide_eq_true on)) rfl rfl ⟨rfl, rfl⟩ id)

theorem frostPeriod_cascade (s : State) : Cascade heat s (frostPeriod s) :=
  ((judgePeriod_cascade s).trans (reevaluate_cascade _)).trans (startCycle_cascade _)

theorem endOnTime_cascade (s : State) : Cascade heat s (endOnTime s) :=
  .ite (fun _ => .single (.frost { s.frost with hto := false } s.governor rfl rfl (fun on => absurd on (by simp)) rfl rfl
    ⟨rfl, rfl⟩ id)) fun _ => .refl

theorem takeExhaustion_cascade (s : State) : Cascade heat s (takeExhaustion s) :=
  .trans (frost_cascade { s.frost with exhaustion := false } rfl rfl rfl rfl rfl rfl rfl) (endDefrost_cascade _)

theorem frostExitReport_cascade (s : State) : Cascade heat s (frostExitReport s) :=
  .ite (fun _ => changeRunState_cascade _ _) fun _ => .refl

theorem endFrostStop_cascade (s : State) : Cascade heat s (endFrostStop s) := by
  unfold endFrostStop
  refine .ite (fun stopped => ?_) fun _ => .refl
  have timed : Cascade heat s { s with frost := { s.frost with stopTimer := 0 } } :=
    frost_cascade _ rfl rfl rfl rfl rfl rfl rfl
  exact (((timed.trans (clearRuns_cascade _)).trans (setRequested_cascade _ _)).trans
    (setFrostMode_cascade_of_mode _ (by simp [clearRuns, stopped]))).trans (frostExitReport_cascade _)

theorem guardAbsentReport_cascade (c : Channel) (s : State) : Cascade heat s (guardAbsentReport c s) :=
  .ite (fun _ => enterBlind_cascade s) fun _ => .ite (fun _ => leaveDefrost_cascade s) fun _ => .refl

theorem guardPresentReport_cascade (c : Channel) (s : State) : Cascade heat s (guardPresentReport c s) :=
  .ite (fun blind => leaveBlind_cascade blind) fun _ => .ite (fun _ => clearRuns_cascade s) fun _ => .refl

theorem guardChannelReport_cascade (c : Channel) (before after : ChannelRec) (s : State) :
    Cascade heat s (guardChannelReport c before after s) := by
  unfold guardChannelReport
  split
  · exact guardAbsentReport_cascade c s
  · exact guardPresentReport_cascade c s
  · exact .refl

/-! ### The second end's reports -/

theorem pressureReport_cascade (x : Stream) (before after : ChannelRec) (s : State) :
    Cascade heat s (pressureReport x before after s) :=
  .ite (fun _ => filterPost_cascade _ (by simp)) fun _ => .refl

theorem reportChanges_cascade (before after : PerChannel ChannelRec) (s : State) :
    Cascade heat s (reportChanges before after s) :=
  (((guardChannelReport_cascade _ _ _ s).trans (guardChannelReport_cascade _ _ _ _)).trans
    (pressureReport_cascade _ _ _ _)).trans (pressureReport_cascade _ _ _ _)

theorem leaveStartup_cascade (s : State) : Cascade heat s (leaveStartup s) := by
  unfold leaveStartup
  refine .ite (fun _ => ?_) fun _ => .refl
  split
  · rename_i l _
    exact (demand_cascade (s := s) (d := { s.demand with smokeSource := some l })
      ⟨rfl, rfl, rfl, rfl, rfl, rfl, rfl⟩).trans (changeRunStateWith_cascade _ _ _)
  · exact changeRunState_cascade _ _

/-! ### The window end -/

theorem exhausted_cascade (s : State) : Cascade heat s (exhausted s) :=
  (report_cascade _ _ s).trans (frost_cascade _ rfl rfl rfl rfl rfl rfl rfl)

theorem judgeAllowance_cascade (s : State) : Cascade heat s (judgeAllowance s) := by
  have bounded : AllowanceBounded s → AllowanceBounded (judgeAllowance s) := judgeAllowance_bounded
  unfold judgeAllowance at bounded ⊢
  split
  · rename_i charging
    rw [if_pos charging, chargeAllowance_eq] at bounded
    rw [chargeAllowance_eq]
    have charged : Cascade heat s { s with governor := chargedGovernor s } := by
      refine .single (.governor _ rfl fun within => ?_)
      have after := bounded within
      split at after
      · simpa [AllowanceBounded] using after
      · exact after
    exact .ite (fun _ => charged.trans (exhausted_cascade _)) fun _ => charged
  · rename_i recovering
    rw [if_neg recovering] at bounded
    exact .single (.governor _ rfl bounded)

theorem governorStep_cascade (s : State) : Cascade heat s (governorStep s) :=
  (Cascade.ite (fun _ => setTargets_cascade _ _ s) fun _ => .refl).trans (judgeAllowance_cascade _)

theorem handWindowEnd_cascade (x : Stream) (s : State) : Cascade heat s (handWindowEnd x s) :=
  (Cascade.ite (c := x = .supply) (fun _ => (governorStep_cascade s).trans (reevaluate_cascade _)) fun _ => .refl).trans
    (filterPost_cascade _ (by simp))

theorem reportLoopChange_cascade (x : Stream) (before after : LoopState) (s : State) :
    Cascade heat s (reportLoopChange x before after s) := by
  have posted := filterPost_cascade (heat := heat) (e := .loopChange x before after) s (by simp)
  exact .ite (fun _ => .refl) fun _ => .ite (fun _ => posted.trans (reevaluate_cascade _)) fun _ => posted

theorem reportTransition_cascade (x : Stream) (before after : LoopRec) (s : State) :
    Cascade heat s (reportTransition x before after s) := by
  have reported := reportAll_cascade (heat := heat) (loopReports x before after) s
  exact .trans (Cascade.ite (fun _ => reported.trans (loopFailedReport_cascade _)) fun _ => reported)
    (reportLoopChange_cascade _ _ _ _)

/-- What follows the loop's own work at a window end. -/
theorem windowEnd_cascade (x : Stream) (s : State) :
    Cascade heat
      (setLoop x (windowLoop s.settings (s.settings.loops.get x) (loopPressure s x) (s.loops.get x)) s)
      (windowEnd x s) :=
  (reportTransition_cascade _ _ _ _).trans (handWindowEnd_cascade _ _)

theorem orderOut_undriven (l : LoopRec) (still : undriven l.state → l.drive = 0) :
    undriven (orderOut l).state → (orderOut l).drive = 0 := by
  unfold orderOut
  split
  · exact fun _ => rfl
  · exact still

theorem orderOutLoop_cascade (x : Stream) (s : State) : Cascade heat s (orderOutLoop x s) := by
  refine loopChanged_cascade (orderOut_undriven _) ?_
  unfold orderOut
  split <;> rfl

end

end Sys2Proof.Machine
end

section
/-! What the shared operations leave in the parts of the state that the rules of the run state, of the frost states, of the
targets and of the hold speak of (`Control`). Those rules hold at the ends of a cascade, not at each of its beats. -/

namespace Sys2Proof.Machine

/-! ### What cascades leave of the channels -/

theorem setHeaterOutput_channels (p : Nat) (s : State) :
    (setHeaterOutput p s).measurement.channels = s.measurement.channels := by
  unfold setHeaterOutput
  split
  · rfl
  · simp only [setHeaterEnable_frame]
    split <;> rfl

theorem Beat.channels {heat : Prop} {s t : State} (h : Beat heat s t) :
    t.measurement.channels = s.measurement.channels := by
  cases h with
  | settle f l fm => exact setHeaterOutput_channels _ { s with frost := f, loops := l, filter := fm }
  | _ => simp

theorem Cascade.channels {heat : Prop} {s t : State} (h : Cascade heat s t) :
    t.measurement.channels = s.measurement.channels := by
  induction h with
  | refl => rfl
  | tail _ b ih => exact b.channels.trans ih

theorem Cascade.channelValue {heat : Prop} {s t : State} (h : Cascade heat s t) (c : Channel) :
    channelValue t c = Machine.channelValue s c := by
  rw [Machine.channelValue, h.channels, Machine.channelValue]

theorem OuterKept.trans {s t u : State} (h : OuterKept s t) (g : OuterKept t u) : OuterKept s u := by
  obtain ⟨h₁, h₂, h₃, h₄, h₅, h₆⟩ := h
  obtain ⟨g₁, g₂, g₃, g₄, g₅, g₆⟩ := g
  exact ⟨g₁.trans h₁, g₂.trans h₂, g₃.trans h₃, g₄.trans h₄, g₅.trans h₅, g₆.trans h₆⟩

theorem Cascade.outer {heat : Prop} {s t : State} (h : Cascade heat s t) : OuterKept s t := by
  induction h with
  | refl => exact ⟨rfl, rfl, rfl, rfl, rfl, rfl⟩
  | tail _ b ih => exact ih.trans b.outer

theorem ReportsOnly.refl (s : State) : ReportsOnly s s := ⟨rfl, rfl, fun _ => ⟨rfl, rfl, rfl, rfl⟩⟩

theorem ReportsOnly.trans {s t u : State} (h : ReportsOnly s t) (g : ReportsOnly t u) : ReportsOnly s u := by
  obtain ⟨seconds, link, lines⟩ := h
  obtain ⟨seconds', link', lines'⟩ := g
  refine ⟨seconds'.trans seconds, ?_, fun l => ?_⟩
  · rw [link'.trans (by rw [link])]
  · obtain ⟨latch, sample, run, settled⟩ := lines l
    obtain ⟨latch', sample', run', settled'⟩ := lines' l
    exact ⟨latch'.trans latch, sample'.trans sample, run'.trans run, settled'.trans settled⟩

theorem Cascade.reportsOnly {heat : Prop} {s t : State} (h : Cascade heat s t) : ReportsOnly s t := by
  induction h with
  | refl => exact .refl s
  | tail _ b ih => exact ih.trans b.reportsOnly

/-! ### The view -/

/-- What the rules of the run state, the frost states, the targets and the hold speak of. -/
structure Control where
  runState : RunState
  seen : RunState
  mode : FrostMode
  requested : Nat
  most : Nat
  tS : Nat
  tE : Nat
  offeredS : Nat
  offeredE : Nat
  failed : Bool
  hold : Option Nat
  inForce : Bool
  capture : CaptureState

def control (s : State) : Control :=
  { runState := s.demand.runState, seen := s.frost.runSeen, mode := s.frost.mode, requested := s.frost.requested
    most := s.settings.hMax, tS := s.governor.tS, tE := s.governor.tE, offeredS := s.loops.supply.offered
    offeredE := s.loops.extract.offered, failed := anyLoopFailed s, hold := s.demand.hold
    inForce := s.demand.captureInForce, capture := s.filter.capture.state }

/-- The view reads these figures alone. -/
theorem control_congr {s t : State} (settings : t.settings = s.settings) (runState : t.demand.runState = s.demand.runState)
    (hold : t.demand.hold = s.demand.hold) (inForce : t.demand.captureInForce = s.demand.captureInForce)
    (seen : t.frost.runSeen = s.frost.runSeen) (mode : t.frost.mode = s.frost.mode)
    (requested : t.frost.requested = s.frost.requested) (tS : t.governor.tS = s.governor.tS)
    (tE : t.governor.tE = s.governor.tE) (loops : t.loops = s.loops)
    (capture : t.filter.capture.state = s.filter.capture.state) : control t = control s := by
  simp [control, anyLoopFailed, *]

@[simp] theorem control_report (k : EventKind) (src : Source) (s : State) : control (report k src s) = control s :=
  control_congr (by simp) (by simp) (by simp) (by simp) (by simp) (by simp) (by simp) (by simp) (by simp) (by simp)
    (by simp)

@[simp] theorem control_reportAll (os : List (EventKind × Source)) (s : State) : control (reportAll os s) = control s :=
  control_congr (by simp) (by simp) (by simp) (by simp) (by simp) (by simp) (by simp) (by simp) (by simp) (by simp)
    (by simp)

@[simp] theorem control_reevaluate (s : State) : control (reevaluate s) = control s :=
  control_congr (by simp) (by simp) (by simp) (by simp) (by simp) (by simp) (by simp) (by simp) (by simp) (by simp)
    (by simp)

@[simp] theorem control_setRequested (p : Nat) (s : State) :
    control (setRequested p s) = { control s with requested := p } := by
  simp [setRequested, control, anyLoopFailed]

@[simp] theorem control_recomputeDemand (s : State) : control (recomputeDemand s) = control s :=
  control_congr (by simp) (by simp) (by simp) (by simp) (by simp [recomputeDemand_heat]) (by simp)
    (by simp [recomputeDemand_heat]) (by simp) (by simp) (by simp) (by simp)

@[simp] theorem control_releaseHold (c : HoldCause) (s : State) :
    control (releaseHold c s) = { control s with hold := none } := by
  unfold releaseHold
  split
  · simp [control, anyLoopFailed, recomputeDemand_heat]
  · simp_all [control]

@[simp] theorem control_setReduction (r : Nat) (s : State) : control (setReduction r s) = control s := rfl

@[simp] theorem control_clearRuns (s : State) : control (clearRuns s) = control s := rfl

@[simp] theorem control_setFrostMode (m : FrostMode) (s : State) :
    control (setFrostMode m s) = { control s with mode := m } := by
  unfold setFrostMode
  split
  · rename_i same
    subst same
    rfl
  · simp [control, anyLoopFailed]

/-- The frost state of the resting state (R94). -/
def restMode (s : State) : FrostMode := if warmOutside s then .idle else .watch

theorem warmOutside_congr {s t : State} (channels : t.measurement.channels = s.measurement.channels)
    (settings : t.settings = s.settings) : warmOutside t = warmOutside s := by
  rw [warmOutside, warmOutside, channelValue, channelValue, channels, settings]

@[simp] theorem control_restGuard (s : State) :
    control (restGuard s) = { control s with mode := restMode s, requested := 0 } := by
  have warm : warmOutside (setReduction 0 (setRequested 0 (clearRuns s))) = warmOutside s :=
    warmOutside_congr (resetPower_cascade (heat := True) 0 s).channels (by simp [setReduction, clearRuns])
  unfold restGuard
  dsimp only
  rw [control_setFrostMode]
  simp [control, anyLoopFailed, setReduction, clearRuns, restMode]

/-- The resting states of the guard's cascade: REST, SMOKE STOP and FAULT STOP (R94). -/
def rests : RunState → Bool
  | .rest | .smokeStop | .faultStop => true
  | .startup | .run | .frostStop => false

@[simp] theorem control_guardRunReport (rs : RunState) (s : State) :
    control (guardRunReport rs s) =
      { control s with
        seen := rs, mode := if rests rs then restMode s else s.frost.mode
        requested := if rests rs then 0 else s.frost.requested } := by
  have seen : control (reevaluate { s with frost := { s.frost with runSeen := rs } }) = { control s with seen := rs } := by
    simp [control, anyLoopFailed]
  have warm : restMode (reevaluate { s with frost := { s.frost with runSeen := rs } }) = restMode s := by
    rw [restMode, warmOutside_congr (runSeen_cascade (heat := True) rs s).channels (by simp), restMode]
  cases rs with
  | startup | run | frostStop => exact seen
  | rest | smokeStop | faultStop =>
    refine (control_restGuard _).trans ?_
    rw [seen, warm]
    simp [rests]

/-! ### The filter monitor -/

/-- A capture aborted, unless there is none (R120). -/
def Control.abort (c : Control) : Control :=
  if c.capture = .none then c else { c with inForce := false, capture := .none }

@[simp] theorem control_captureReport (b : Bool) (s : State) :
    control (captureReport b s) = { control s with inForce := b } := by
  simp [captureReport, control, anyLoopFailed, recomputeDemand_heat]

@[simp] theorem control_abortCapture (c : CaptureCause) (s : State) : control (abortCapture c s) = (control s).abort := by
  unfold abortCapture Control.abort
  split
  · rename_i absent
    exact (if_pos absent).symm
  · rename_i present
    rw [if_neg (show (control s).capture ≠ .none from present), control_report, control_captureReport]
    rfl

/-- An event that aborts a capture, unless a rewrite holds it (R100, R120). -/
theorem control_filterPost_abort {e : FilterEvent} {c : CaptureCause} (aborts : ∀ s, filterTake e s = abortCapture c s)
    (s : State) : control (filterPost e s) = if s.filter.rewriting then control s else (control s).abort := by
  unfold filterPost
  split
  · rfl
  · rw [aborts, control_abortCapture]

/-- A loop's change of state reaches the monitor's held events and lock-out timers alone (R119). -/
theorem filterPost_loopChange_filter (x : Stream) (before after : LoopState) (s : State) :
    (filterPost (.loopChange x before after) s).filter =
      { s.filter with
        held := (filterPost (.loopChange x before after) s).filter.held
        capture :=
          { s.filter.capture with
            lockOut := (filterPost (.loopChange x before after) s).filter.capture.lockOut } } := by
  simp only [filterPost, filterTake, filterLoopChange]
  split
  · rfl
  · split <;> rfl

/-! ### Targets -/

/-- What a report of a loop's change of state leaves of the controller, the governor and the frost guard (R39). -/
theorem reportLoopChange_keeps (x : Stream) (before after : LoopState) (s : State) :
    (reportLoopChange x before after s).demand = s.demand
      ∧ (reportLoopChange x before after s).governor = s.governor
      ∧ (reportLoopChange x before after s).events = s.events ∧ (reportLoopChange x before after s).link = s.link
      ∧ (reportLoopChange x before after s).frost =
          { s.frost with
            heaterOutput := (reportLoopChange x before after s).frost.heaterOutput
            hto := (reportLoopChange x before after s).frost.hto }
      ∧ (reportLoopChange x before after s).filter =
          { s.filter with
            held := (reportLoopChange x before after s).filter.held
            capture :=
              { s.filter.capture with lockOut := (reportLoopChange x before after s).filter.capture.lockOut } } := by
  have posted := filterPost_loopChange_filter x before after s
  have own := (filterPost_loopChange_eq x before after s).1
  generalize hu : filterPost (.loopChange x before after) s = u at posted own
  unfold reportLoopChange
  rw [hu]
  split
  · exact ⟨rfl, rfl, rfl, rfl, rfl, rfl⟩
  split
  · refine ⟨?_, ?_, ?_, ?_, ?_, by simpa using posted⟩
    · rw [(reevaluate_frame u).2.2.2.2.1, own]
    · rw [(reevaluate_frame u).2.2.2.2.2.1, own]
    · rw [(reevaluate_frame u).2.2.2.2.2.2.2.2.2.1, own]
    · rw [(reevaluate_frame u).2.2.2.2.2.2.2.2.2.2.1, own]
    · rw [own]
      simp [reevaluate]
  · exact ⟨by rw [own], by rw [own], by rw [own], by rw [own], by rw [own], posted⟩

/-- A loop that is offered a target (R23, R38). -/
def offeredLoop (target : Nat) (l : LoopRec) : LoopRec := if target = 0 then zeroTarget l else { l with offered := target }

@[simp] theorem offeredLoop_offered (target : Nat) (l : LoopRec) : (offeredLoop target l).offered = target := by
  unfold offeredLoop
  split
  · rename_i zero
    rw [zero]
    unfold zeroTarget
    split <;> rfl
  · rfl

/-- A target of 0 neither fails a loop nor takes it out of FAILED (R38). -/
theorem offeredLoop_failed (target : Nat) (l : LoopRec) : (offeredLoop target l).state = .failed ↔ l.state = .failed := by
  unfold offeredLoop zeroTarget
  split
  · split <;> simp_all [stopped]
  · rfl

@[simp] theorem offer_loops (x : Stream) (target : Nat) (s : State) :
    (offer x target s).loops = s.loops.set x (offeredLoop target (s.loops.get x)) := by
  unfold offer offeredLoop
  split <;> simp

theorem offer_keeps (x : Stream) (target : Nat) (s : State) :
    (offer x target s).demand = s.demand ∧ (offer x target s).governor = s.governor
      ∧ (offer x target s).events = s.events ∧ (offer x target s).link = s.link
      ∧ (offer x target s).frost =
          { s.frost with heaterOutput := (offer x target s).frost.heaterOutput, hto := (offer x target s).frost.hto }
      ∧ (offer x target s).filter =
          { s.filter with
            held := (offer x target s).filter.held
            capture := { s.filter.capture with lockOut := (offer x target s).filter.capture.lockOut } } := by
  unfold offer
  dsimp only
  split
  · exact reportLoopChange_keeps x _ _ (setLoop x (zeroTarget (s.loops.get x)) s)
  · exact ⟨rfl, rfl, rfl, rfl, rfl, rfl⟩

@[simp] theorem setTargets_loops (tS tE : Nat) (s : State) :
    (setTargets tS tE s).loops = ⟨offeredLoop tS s.loops.supply, offeredLoop tE s.loops.extract⟩ := by
  simp [setTargets]
  rfl

theorem setTargets_keeps (tS tE : Nat) (s : State) :
    (setTargets tS tE s).demand = s.demand ∧ (setTargets tS tE s).governor = { s.governor with tS := tS, tE := tE }
      ∧ (setTargets tS tE s).events = s.events ∧ (setTargets tS tE s).link = s.link
      ∧ (setTargets tS tE s).frost =
          { s.frost with
            heaterOutput := (setTargets tS tE s).frost.heaterOutput, hto := (setTargets tS tE s).frost.hto }
      ∧ (setTargets tS tE s).filter =
          { s.filter with
            held := (setTargets tS tE s).filter.held
            capture := { s.filter.capture with lockOut := (setTargets tS tE s).filter.capture.lockOut } } := by
  obtain ⟨d, g, e, k, f, m⟩ := offer_keeps .supply tS { s with governor := { s.governor with tS := tS, tE := tE } }
  obtain ⟨d', g', e', k', f', m'⟩ := offer_keeps .extract tE
    (offer .supply tS { s with governor := { s.governor with tS := tS, tE := tE } })
  refine ⟨d'.trans d, g'.trans g, e'.trans e, k'.trans k, f'.trans ?_, m'.trans ?_⟩
  · rw [f]
    rfl
  · rw [m]
    rfl

@[simp] theorem control_setTargets (tS tE : Nat) (s : State) :
    control (setTargets tS tE s) = { control s with tS := tS, tE := tE, offeredS := tS, offeredE := tE } := by
  obtain ⟨demand, governor, _, _, frost, filter⟩ := setTargets_keeps tS tE s
  have failed : anyLoopFailed (setTargets tS tE s) = anyLoopFailed s := by
    simp [anyLoopFailed, Bool.beq_eq_decide_eq, offeredLoop_failed]
  have seen := congrArg FrostGuard.runSeen frost
  have mode := congrArg FrostGuard.mode frost
  have requested := congrArg FrostGuard.requested frost
  have capture := congrArg (fun f => f.capture.state) filter
  simp only at seen mode requested capture
  simp [control, failed, demand, governor, seen, mode, requested, capture]

/-! ### A change of run state -/

/-- The view after a change of run state, before the filter monitor's abort (R46, R67, R94, R64). -/
def Control.changed (c : Control) (rs : RunState) (rest : FrostMode) : Control :=
  { c with
    runState := rs, seen := rs
    mode := if rests rs then rest else c.mode
    requested := if rests rs then 0 else c.requested
    tS := if rs = .run then c.tS else 0
    tE := if rs = .run then c.tE else 0
    offeredS := if rs = .run then c.offeredS else 0
    offeredE := if rs = .run then c.offeredE else 0
    hold := if c.runState = .run then none else c.hold }

theorem restMode_congr {s t : State} (channels : t.measurement.channels = s.measurement.channels)
    (settings : t.settings = s.settings) : restMode t = restMode s := by
  rw [restMode, restMode, warmOutside_congr channels settings]

theorem control_changeRunStateWith {rs : RunState} {s : State} (change : rs ≠ s.demand.runState)
    (os : List (EventKind × Source)) :
    control (changeRunStateWith rs os s) =
      if s.demand.runState = .run ∧ s.filter.rewriting = false then ((control s).changed rs (restMode s)).abort
      else (control s).changed rs (restMode s) := by
  have abort_release (c : Control) : { c.abort with hold := none } = { c with hold := none }.abort := by
    unfold Control.abort
    split <;> rfl
  unfold changeRunStateWith
  dsimp only
  rw [if_neg change]
  generalize hu : (if rs = .run then { s with demand := { s.demand with runState := rs } }
      else setTargets 0 0 { s with demand := { s.demand with runState := rs } }) = u
  have viewed : control u =
      { control s with
        runState := rs
        tS := if rs = .run then s.governor.tS else 0
        tE := if rs = .run then s.governor.tE else 0
        offeredS := if rs = .run then s.loops.supply.offered else 0
        offeredE := if rs = .run then s.loops.extract.offered else 0 } := by
    subst hu
    split
    · rfl
    · rw [control_setTargets]
      rfl
  have rest : restMode u = restMode s := by
    subst hu
    split
    · rfl
    · refine (restMode_congr (setTargets_cascade (heat := True) 0 0 _).channels (by simp)).trans rfl
  have rewriting : u.filter.rewriting = s.filter.rewriting := by
    subst hu
    split
    · rfl
    · rw [(setTargets_keeps 0 0 _).2.2.2.2.2]
  have guarded : control (guardRunReport rs u) = { (control s).changed rs (restMode s) with hold := s.demand.hold } := by
    rw [control_guardRunReport, show u.frost.mode = (control u).mode from rfl,
      show u.frost.requested = (control u).requested from rfl, viewed, rest]
    rfl
  split
  · rename_i leaves
    rw [control_releaseHold, control_reportAll, control_filterPost_abort (c := .runState) (fun _ => rfl), guarded,
      (guardRunReport_frame rs u).2.2.2.2.2.1, rewriting]
    simp only [leaves, true_and]
    cases s.filter.rewriting
    · simp only [Bool.false_eq_true, if_false, if_true]
      rw [abort_release]
      simp [Control.changed, control, leaves]
    · simp [Control.changed, control, leaves]
  · rename_i stays
    rw [control_reportAll, guarded, if_neg (fun both => stays both.1)]
    simp [Control.changed, control, stays]

theorem changeRunStateWith_same {rs : RunState} {s : State} (same : rs = s.demand.runState)
    (os : List (EventKind × Source)) : changeRunStateWith rs os s = s := by
  unfold changeRunStateWith
  exact if_pos same

end Sys2Proof.Machine
end

section
/-! The rules of the run state, the frost states, the targets and the hold, as properties of the view `Control`, and the
changes of the view that keep them. -/

namespace Sys2Proof.Machine

/-- What the frost state says of the run state and of the requested power (R46, R78, R79, R90). -/
def Control.Frost (c : Control) : Prop :=
  c.seen = c.runState ∧ (c.mode = .preheat ∨ c.mode = .defrost → c.runState = .run)
    ∧ (c.mode = .frostStop ↔ c.runState = .frostStop) ∧ (asksNoPower c.mode → c.requested = 0) ∧ c.requested ≤ c.most

/-- No flow is offered outside RUN, and a FAILED loop keeps the unit stopped (R52, R67). -/
def Control.Targets (c : Control) : Prop :=
  (c.runState ≠ .run → c.tS = 0 ∧ c.tE = 0 ∧ c.offeredS = 0 ∧ c.offeredE = 0)
    ∧ (c.failed = true → stopsForFailure c.runState)

/-- The hold is in force in RUN only, never with a capture, DEFROST or FROST STOP (R61, R64). -/
def Control.Hold (c : Control) : Prop :=
  (c.hold.isSome = true → c.runState = .run ∧ c.inForce = false ∧ c.mode ≠ .defrost ∧ c.mode ≠ .frostStop)
    ∧ c.inForce = decide (c.capture ≠ .none)

/-- A change of the view that keeps each of its rules, whichever of them hold. -/
structure Keeps (c d : Control) : Prop where
  seen : c.seen = c.runState → d.seen = d.runState
  frost : c.Frost → d.Frost
  targets : c.Targets → d.Targets
  hold : c.Hold → d.Hold

theorem Keeps.refl (c : Control) : Keeps c c := ⟨id, id, id, id⟩

theorem Keeps.trans {c d e : Control} (h : Keeps c d) (g : Keeps d e) : Keeps c e :=
  ⟨g.seen ∘ h.seen, g.frost ∘ h.frost, g.targets ∘ h.targets, g.hold ∘ h.hold⟩

theorem Keeps.of_eq {c d : Control} (same : d = c) : Keeps c d := same ▸ .refl c

theorem Keeps.ite {p : Prop} [Decidable p] {c : Control} {s t : State} (yes : p → Keeps c (control s))
    (no : ¬p → Keeps c (control t)) : Keeps c (control (if p then s else t)) := by
  split
  · exact yes ‹_›
  · exact no ‹_›

/-! ### Changes of the view -/

theorem Control.keeps_abort (c : Control) : Keeps c c.abort := by
  unfold Control.abort
  split
  · exact .refl c
  · refine ⟨id, id, id, fun ⟨exclusive, _⟩ => ⟨fun held => ?_, rfl⟩⟩
    obtain ⟨run, _, mode⟩ := exclusive held
    exact ⟨run, rfl, mode⟩

theorem Control.keeps_release (c : Control) : Keeps c { c with hold := none } :=
  ⟨id, id, id, fun ⟨_, capture⟩ => ⟨fun held => absurd held (by simp), capture⟩⟩

/-- A capture recorded on both sides, where none may meet the hold. -/
theorem Control.keeps_capture (c : Control) (state : CaptureState)
    (exclusive : c.Hold → state ≠ .none → c.hold = none) :
    Keeps c { c with inForce := decide (state ≠ .none), capture := state } := by
  refine ⟨id, id, id, fun holds => ⟨fun held => ?_, rfl⟩⟩
  obtain ⟨run, _, mode⟩ := holds.1 held
  refine ⟨run, ?_, mode⟩
  by_contra inForce
  have none_held := exclusive holds (by simpa using inForce)
  simp_all

/-- A move of the frost guard between states other than FROST STOP. -/
theorem Control.keeps_move (c : Control) (m : FrostMode) (p : Nat) (live : c.mode ≠ .frostStop) (stays : m ≠ .frostStop)
    (free : m ≠ .defrost) (run : m = .preheat → c.Frost → c.runState = .run)
    (power : asksNoPower m → c.Frost → p = 0) (most : c.Frost → p ≤ c.most) :
    Keeps c { c with mode := m, requested := p } := by
  refine ⟨id, fun frost => ⟨frost.1, ?_, ?_, fun no => power no frost, most frost⟩, id, fun ⟨exclusive, capture⟩ => ⟨fun held => ?_, capture⟩⟩
  · rintro (preheat | defrost)
    · exact run preheat frost
    · exact absurd defrost free
  · have := frost.2.2.1
    simp_all
  · obtain ⟨run, alone, _⟩ := exclusive held
    exact ⟨run, alone, free, stays⟩

/-- The requested power changed in a state that asks for power. -/
theorem Control.keeps_power (c : Control) (p : Nat) (asks : ¬asksNoPower c.mode) (most : c.Frost → p ≤ c.most) :
    Keeps c { c with requested := p } :=
  ⟨id, fun frost => ⟨frost.1, frost.2.1, frost.2.2.1, fun no => absurd no asks, most frost⟩, id, id⟩

/-- Targets set and offered in RUN (R65). -/
theorem Control.keeps_targets (c : Control) (tS tE : Nat) (run : c.runState = .run) :
    Keeps c { c with tS := tS, tE := tE, offeredS := tS, offeredE := tE } :=
  ⟨id, id, fun ⟨_, failed⟩ => ⟨fun no => absurd run no, failed⟩, id⟩

/-- A change of run state other than to STARTUP and FROST STOP (R46, R67, R94). -/
theorem Control.keeps_changed (c : Control) (rs : RunState) (rest : FrostMode) (resting : rest = .idle ∨ rest = .watch)
    (start : rs ≠ .startup) (stop : rs ≠ .frostStop) (leaves : rs = .run → c.runState ≠ .frostStop)
    (failed : c.Targets → c.failed = true → stopsForFailure rs) : Keeps c (c.changed rs rest) := by
  have calm : rs = .run ∨ rests rs = true := by
    cases rs <;> simp_all [rests]
  refine ⟨fun _ => rfl, ?_, ?_, ?_⟩
  · rintro ⟨seen, run, stopped, power, most⟩
    obtain rfl | rested := calm
    · refine ⟨rfl, fun _ => rfl, ?_, power, most⟩
      simpa [Control.changed, rests, stopped] using leaves rfl
    · refine ⟨rfl, ?_, ?_, fun _ => by simp [Control.changed, rested], by simp [Control.changed, rested]⟩
      · obtain rfl | rfl := resting <;> simp [Control.changed, rested]
      · obtain rfl | rfl := resting <;> simp [Control.changed, rested, stop]
  · intro targets
    refine ⟨fun no => ?_, failed targets⟩
    have still : rs ≠ .run := no
    simp [Control.changed, still]
  · rintro ⟨exclusive, capture⟩
    refine ⟨fun held => ?_, capture⟩
    by_cases run : c.runState = .run
    · simp [Control.changed, run] at held
    · simp only [Control.changed, run, if_false] at held
      exact absurd (exclusive held).1 run

/-- The view in FROST STOP, entered from RUN (R90). -/
def Control.stopped (c : Control) : Control :=
  { c with
    runState := .frostStop, seen := .frostStop, mode := .frostStop, requested := 0, tS := 0, tE := 0, offeredS := 0
    offeredE := 0, hold := none }

theorem Control.keeps_stopped (c : Control) (run : c.runState = .run) : Keeps c c.stopped :=
  ⟨fun _ => rfl, fun _ => ⟨rfl, by simp [Control.stopped], by simp [Control.stopped], fun _ => rfl, by simp [Control.stopped]⟩,
    fun ⟨_, failed⟩ => ⟨fun _ => ⟨rfl, rfl, rfl, rfl⟩, fun down => by
      have := failed down
      simp [run, stopsForFailure] at this⟩,
    fun ⟨_, capture⟩ => ⟨fun held => by simp [Control.stopped] at held, capture⟩⟩

theorem control_frost (f : FrostGuard) (s : State) :
    control { s with frost := f } = { control s with seen := f.runSeen, mode := f.mode, requested := f.requested } := rfl

theorem control_demand (d : Demand) (s : State) :
    control { s with demand := d } =
      { control s with runState := d.runState, hold := d.hold, inForce := d.captureInForce } := rfl

theorem Control.abort_changed (c : Control) (rs : RunState) (rest : FrostMode) :
    c.abort.changed rs rest = (c.changed rs rest).abort := by
  by_cases absent : c.capture = .none <;> simp [Control.abort, Control.changed, absent]

/-! ### The run state -/

theorem restMode_cases (s : State) : restMode s = .idle ∨ restMode s = .watch := by
  unfold restMode
  split <;> simp

theorem changeRunStateWith_keeps {rs : RunState} {s : State} (os : List (EventKind × Source)) (start : rs ≠ .startup)
    (stop : rs ≠ .frostStop) (leaves : rs = .run → s.demand.runState ≠ .frostStop)
    (failed : (control s).Targets → anyLoopFailed s = true → stopsForFailure rs) :
    Keeps (control s) (control (changeRunStateWith rs os s)) := by
  by_cases same : rs = s.demand.runState
  · rw [changeRunStateWith_same same]
    exact .refl _
  · have changed := (control s).keeps_changed rs (restMode s) (restMode_cases s) start stop leaves failed
    rw [control_changeRunStateWith same]
    split
    · exact changed.trans (Control.keeps_abort _)
    · exact changed

theorem smokeStop_keeps (os : List (EventKind × Source)) (s : State) :
    Keeps (control s) (control (changeRunStateWith .smokeStop os s)) :=
  changeRunStateWith_keeps os (by simp) (by simp) (by simp) fun _ _ => .inl rfl

theorem faultStop_keeps (os : List (EventKind × Source)) (s : State) :
    Keeps (control s) (control (changeRunStateWith .faultStop os s)) :=
  changeRunStateWith_keeps os (by simp) (by simp) (by simp) fun _ _ => .inr rfl

/-- RUN or REST taken up from a state that is no stop, in which no loop is FAILED. -/
theorem ventilate_keeps {rs : RunState} {s : State} (ventilates : rs = .run ∨ rs = .rest)
    (free : s.demand.runState = .startup ∨ s.demand.runState = .run ∨ s.demand.runState = .rest) :
    Keeps (control s) (control (changeRunState rs s)) := by
  refine changeRunStateWith_keeps [] ?_ ?_ ?_ ?_
  · obtain rfl | rfl := ventilates <;> simp
  · obtain rfl | rfl := ventilates <;> simp
  · obtain free | free | free := free <;> simp [free]
  · intro targets down
    have stopped : stopsForFailure s.demand.runState := targets.2 down
    obtain free | free | free := free <;> simp [free, stopsForFailure] at stopped

theorem ventilating_cases (s : State) : ventilating s = .run ∨ ventilating s = .rest := by
  unfold ventilating
  split <;> simp

theorem loopFailedReport_keeps (s : State) : Keeps (control s) (control (loopFailedReport s)) := by
  unfold loopFailedReport
  split
  case h_5 | h_6 => exact .refl _
  all_goals exact faultStop_keeps [] s

theorem smokeActiveReport_keeps (l : Line) (s : State) : Keeps (control s) (control (smokeActiveReport l s)) := by
  unfold smokeActiveReport
  dsimp only
  refine .ite (fun _ => .of_eq (by rw [control_demand]; rfl)) fun _ => ?_
  refine .trans ?_ (smokeStop_keeps _ _)
  rw [control_demand]
  exact .refl _

theorem control_smokeInactiveReport (l : Line) (s : State) : control (smokeInactiveReport l s) = control s := by
  unfold smokeInactiveReport
  dsimp only
  split <;> rfl

/-! ### Transitions of the frost guard -/

theorem filterPost_abort_keeps {e : FilterEvent} {c : CaptureCause} (aborts : ∀ s, filterTake e s = abortCapture c s)
    (s : State) : Keeps (control s) (control (filterPost e s)) := by
  rw [control_filterPost_abort aborts]
  split
  · exact .refl _
  · exact Control.keeps_abort _

theorem frostEntry_keeps (s : State) : Keeps (control s) (control (filterPost .frostEntry s)) :=
  filterPost_abort_keeps (c := .frost) (fun _ => rfl) s

/-- Entry to DEFROST, from PREHEAT in RUN (R85). -/
theorem enterDefrost_keeps {s : State} (preheat : s.frost.mode = .preheat) :
    Keeps (control s) (control (enterDefrost s)) := by
  have entered : Keeps (control s) { control s with mode := .defrost, hold := none } := by
    refine ⟨id, fun ⟨seen, run, _, _, most⟩ => ?_, id, fun ⟨_, capture⟩ => ⟨fun held => by simp at held, capture⟩⟩
    have inRun : (control s).runState = .run := run (.inl preheat)
    exact ⟨seen, fun _ => inRun, by simp [inRun], by simp, most⟩
  unfold enterDefrost
  dsimp only
  refine .trans ?_ (frostEntry_keeps _)
  rw [control_releaseHold, control_setFrostMode]
  exact entered

/-- Entry to FROST STOP, from PREHEAT or DEFROST, which are found in RUN only (R90). -/
theorem enterFrostStop_keeps {s : State} (live : s.frost.mode = .preheat ∨ s.frost.mode = .defrost) :
    Keeps (control s) (control (enterFrostStop s)) := by
  have posed : control (setFrostMode .frostStop
      { setReduction 0 (setRequested 0 (clearRuns s)) with
        frost :=
          { (setReduction 0 (setRequested 0 (clearRuns s))).frost with
            defrostTimer := 0, stopTimer := 0, stopLimit := s.settings.stopTime
            history := addEntry s.events.seconds (setReduction 0 (setRequested 0 (clearRuns s))).frost.history } }) =
      { control s with mode := .frostStop, requested := 0 } := by
    rw [control_setFrostMode, control_frost, control_setReduction, control_setRequested, control_clearRuns]
    simp [control, setReduction, clearRuns]
  unfold enterFrostStop
  dsimp only
  generalize setFrostMode .frostStop _ = x at posed ⊢
  have reported : control (releaseHold .frost (if repeated x.frost.history then report .frostRepeat .none x else x)) =
      { control s with mode := .frostStop, requested := 0, hold := none } := by
    rw [control_releaseHold, apply_ite control, control_report, ite_self, posed]
  generalize releaseHold .frost _ = y at reported ⊢
  have entered : control (filterPost .frostEntry y) = control y ∨ control (filterPost .frostEntry y) = (control y).abort := by
    rw [control_filterPost_abort (c := .frost) (fun _ => rfl)]
    split <;> simp
  generalize filterPost .frostEntry y = z at entered ⊢
  have sameRun : z.demand.runState = s.demand.runState := by
    have viewed : (control z).runState = (control y).runState := by
      obtain plain | aborted := entered
      · rw [plain]
      · rw [aborted, Control.abort]
        split <;> rfl
    exact viewed.trans (by rw [reported]; rfl)
  refine .ite (fun run => ?_) fun idle => ?_
  · have stops : Keeps (control s) ((control z).changed .frostStop (restMode z)) := by
      have base : (control y).changed .frostStop (restMode z) = (control s).stopped := by
        rw [reported]
        simp [Control.changed, Control.stopped, rests]
      have entry := (control s).keeps_stopped (sameRun.symm.trans run)
      obtain plain | aborted := entered
      · rw [plain, base]
        exact entry
      · rw [aborted, Control.abort_changed, base]
        exact entry.trans (Control.keeps_abort _)
    unfold changeRunState
    rw [control_changeRunStateWith (by simp [run])]
    split
    · exact stops.trans (Control.keeps_abort _)
    · exact stops
  · have posing : Keeps (control s) (control y) := by
      rw [reported]
      refine ⟨id, fun ⟨_, inRun, _⟩ => ?_, id, fun ⟨_, capture⟩ => ⟨fun held => by simp at held, capture⟩⟩
      exact absurd (inRun live) fun run => idle (sameRun.trans run)
    obtain plain | aborted := entered
    · exact plain ▸ posing
    · exact aborted ▸ posing.trans (Control.keeps_abort _)

/-- Entry to BLIND (R92). -/
theorem enterBlind_keeps {s : State} (blinds : canGoBlind s.frost.mode = true) :
    Keeps (control s) (control (enterBlind s)) := by
  have live : s.frost.mode ≠ .frostStop := by
    intro stopped
    simp [stopped, canGoBlind] at blinds
  have entered : control (enterBlind s) = { control s with mode := .blind, requested := s.settings.hMax / 2 } := by
    unfold enterBlind
    dsimp only
    rw [control_setFrostMode, control_report, control_frost, control_setReduction, control_setRequested, control_clearRuns]
    simp [setReduction, clearRuns]
    rfl
  rw [entered]
  exact (control s).keeps_move .blind _ live (by simp) (by simp) (by simp) (by simp)
    fun _ => Nat.div_le_self s.settings.hMax 2

/-- DEFROST left for PREHEAT with the power kept (R87 to R89). -/
theorem leaveDefrost_keeps {s : State} (defrost : s.frost.mode = .defrost) :
    Keeps (control s) (control (leaveDefrost s)) := by
  have entered : control (leaveDefrost s) = { control s with mode := .preheat, requested := s.frost.requested } := by
    unfold leaveDefrost
    dsimp only
    rw [control_setFrostMode, control_frost]
    rfl
  rw [entered]
  exact (control s).keeps_move .preheat _ (show s.frost.mode ≠ _ by simp [defrost]) (by simp) (by simp)
    (fun _ ⟨_, run, _⟩ => run (.inr defrost)) (by simp) fun ⟨_, _, _, _, most⟩ => most

theorem endDefrost_keeps (s : State) : Keeps (control s) (control (endDefrost s)) :=
  .ite (fun defrost => .ite (fun _ => enterFrostStop_keeps (.inr defrost)) fun _ => leaveDefrost_keeps defrost)
    fun _ => .refl _

/-- BLIND left for WATCH (R93). -/
theorem leaveBlind_keeps {s : State} (blind : s.frost.mode = .blind) : Keeps (control s) (control (leaveBlind s)) := by
  unfold leaveBlind
  rw [control_setFrostMode, control_setRequested]
  exact (control s).keeps_move .watch 0 (show s.frost.mode ≠ _ by simp [blind]) (by simp) (by simp) (by simp)
    (fun _ _ => rfl) fun _ => Nat.zero_le _

/-! ### The frost period -/

/-- A move that leaves the requested power as it is. -/
theorem setFrostMode_keeps {m : FrostMode} {s : State} (live : s.frost.mode ≠ .frostStop) (stays : m ≠ .frostStop)
    (free : m ≠ .defrost) (run : m = .preheat → (control s).Frost → s.demand.runState = .run)
    (power : asksNoPower m → (control s).Frost → s.frost.requested = 0) :
    Keeps (control s) (control (setFrostMode m s)) := by
  rw [control_setFrostMode]
  exact (control s).keeps_move m s.frost.requested live stays free run power fun ⟨_, _, _, _, most⟩ => most

/-- A move between IDLE and WATCH. -/
theorem idleWatch_keeps {m : FrostMode} {s : State} (calm : s.frost.mode = .idle ∨ s.frost.mode = .watch)
    (moves : m = .idle ∨ m = .watch) : Keeps (control s) (control (setFrostMode m s)) := by
  refine setFrostMode_keeps ?_ ?_ ?_ ?_ fun _ ⟨_, _, _, power, _⟩ => power ?_
  · obtain calm | calm := calm <;> simp [calm]
  · obtain rfl | rfl := moves <;> simp
  · obtain rfl | rfl := moves <;> simp
  · obtain rfl | rfl := moves <;> simp
  · obtain calm | calm := calm
    · exact .inl calm
    · exact .inr (.inl calm)

/-- Entry to PREHEAT from WATCH, in RUN (R80). -/
theorem enterPreheat_keeps {p : Nat} {s : State} (watch : s.frost.mode = .watch) (run : s.frost.runSeen = .run)
    (most : p ≤ s.settings.hMax) : Keeps (control s) (control (enterPreheat p s)) := by
  unfold enterPreheat
  rw [control_setFrostMode, control_setRequested, control_clearRuns]
  exact (control s).keeps_move .preheat p (show s.frost.mode ≠ _ by simp [watch]) (by simp) (by simp)
    (fun _ ⟨seen, _⟩ => seen.symm.trans run) (by simp) fun _ => most

theorem degradedPower_le (set : Settings) (tOut : Int) : degradedPower set tOut ≤ set.hMax := by
  unfold degradedPower clampInt
  omega

theorem stepPower_le (set : Settings) (tExh : Int) {power : Nat} (most : power ≤ set.hMax) :
    stepPower set tExh power ≤ set.hMax := by
  unfold stepPower
  split
  · exact Nat.min_le_left _ _
  split
  · omega
  · exact most

theorem watchRule_keeps {s : State} (watch : s.frost.mode = .watch) : Keeps (control s) (control (watchRule s)) := by
  have idle : Keeps (control s) (control (if outsideReleased s then setFrostMode .idle s else s)) :=
    .ite (fun _ => idleWatch_keeps (.inr watch) (.inl rfl)) fun _ => .refl _
  unfold watchRule watchRunRule
  refine .ite (fun run => ?_) fun _ => idle
  refine .ite (fun _ => enterPreheat_keeps watch run (Nat.min_le_right _ _)) fun _ => ?_
  split
  · rename_i p asks
    refine enterPreheat_keeps watch run ?_
    unfold unknownExhaustPower at asks
    split at asks
    · split at asks
      · cases asks
        exact degradedPower_le _ _
      · cases asks
    · cases asks
  · exact idle

/-- The requested power of PREHEAT, DEFROST and BLIND set within H_max. -/
theorem setRequested_keeps {p : Nat} {s : State} (asks : ¬asksNoPower s.frost.mode)
    (most : (control s).Frost → p ≤ s.settings.hMax) :
    Keeps (control s) (control (setRequested p s)) := by
  rw [control_setRequested]
  exact (control s).keeps_power p asks most

theorem runAfter_grown {held : Bool} {count : Nat} (grown : 1 ≤ runAfter held count) : held = true := by
  cases held
  · simp [runAfter] at grown
  · rfl

/-- Runs and timers of the guard are no part of the view. -/
theorem control_runs {f : FrostGuard} {s : State} (seen : f.runSeen = s.frost.runSeen) (mode : f.mode = s.frost.mode)
    (requested : f.requested = s.frost.requested) : control { s with frost := f } = control s := by
  rw [control_frost, seen, mode, requested]
  rfl

/-- PREHEAT left for WATCH after three warm periods with no power (R82, R84). -/
theorem endPreheat_keeps {p : Nat} {s : State} (preheat : s.frost.mode = .preheat) (zero : p = 0) :
    Keeps (control s) (control (setFrostMode .watch (clearRuns (setRequested p s)))) := by
  rw [control_setFrostMode, control_clearRuns, control_setRequested, zero]
  exact (control s).keeps_move .watch 0 (show s.frost.mode ≠ _ by simp [preheat]) (by simp) (by simp) (by simp)
    (fun _ _ => rfl) fun _ => Nat.zero_le _

theorem escalate_keeps {s : State} (preheat : s.frost.mode = .preheat) :
    Keeps (control s) (control (escalate s)) := by
  have counted : control { s with frost := { s.frost with cold := 0 } } = control s := control_runs rfl rfl rfl
  unfold escalate
  dsimp only
  exact .ite (fun _ => .trans (.of_eq counted) (enterDefrost_keeps preheat))
    fun _ => .trans (.of_eq counted) (enterFrostStop_keeps (.inl preheat))

theorem judgeEscalation_keeps (tExh : Int) {s : State} (preheat : s.frost.mode = .preheat) :
    Keeps (control s) (control (judgeEscalation tExh s)) :=
  .ite (fun _ => escalate_keeps preheat) fun _ => .of_eq (control_runs rfl rfl rfl)

theorem preheatNormal_keeps (tExh : Int) {s : State} (preheat : s.frost.mode = .preheat) :
    Keeps (control s) (control (preheatNormal tExh s)) := by
  have stepped : Keeps (control s) (control (setRequested (stepPower s.settings tExh s.frost.requested) s)) :=
    setRequested_keeps (by simp [preheat]) fun ⟨_, _, _, _, most⟩ => stepPower_le _ _ most
  unfold preheatNormal
  dsimp only
  refine .ite (fun warm => endPreheat_keeps preheat ?_) fun _ => ?_
  · have held := runAfter_grown (Nat.le_trans (by decide) warm)
    simpa using (Bool.and_eq_true_iff.mp held).1
  · refine .trans ?_ (judgeEscalation_keeps tExh (by simpa using preheat))
    rw [control_runs rfl rfl rfl]
    exact stepped

theorem preheatDegraded_keeps (tOut : Int) {s : State} (preheat : s.frost.mode = .preheat) :
    Keeps (control s) (control (preheatDegraded tOut s)) := by
  have powered : Keeps (control s) (control (setRequested (degradedPower s.settings tOut) s)) :=
    setRequested_keeps (by simp [preheat]) fun _ => degradedPower_le _ _
  unfold preheatDegraded
  dsimp only
  refine .ite (fun warm => endPreheat_keeps preheat ?_) fun _ => ?_
  · have held := runAfter_grown (Nat.le_trans (by decide) warm)
    simpa using (Bool.and_eq_true_iff.mp held).1
  · rw [control_runs rfl rfl rfl]
    exact powered

theorem preheatRule_keeps {s : State} (preheat : s.frost.mode = .preheat) :
    Keeps (control s) (control (preheatRule s)) := by
  unfold preheatRule
  split
  · exact preheatNormal_keeps _ preheat
  · exact preheatDegraded_keeps _ preheat
  · exact .refl _

theorem defrostRule_keeps {s : State} (defrost : s.frost.mode = .defrost) :
    Keeps (control s) (control (defrostRule s)) := by
  have reduced : control (setReduction (reductionNow s) s) = control s := control_setReduction _ _
  unfold defrostRule
  dsimp only
  split
  · rename_i tExh _
    have stepped (p : Nat) (most : (control s).Frost → p ≤ s.settings.hMax) :
        Keeps (control s) (control (setRequested p (setReduction (reductionNow s) s))) :=
      .trans (.of_eq reduced) (setRequested_keeps (by simp [setReduction, defrost]) most)
    have powered := stepped _ fun ⟨_, _, _, _, most⟩ => stepPower_le s.settings tExh most
    exact .ite (fun _ => powered.trans (leaveDefrost_keeps (by simp [setReduction, defrost]))) fun _ => powered
  · exact .of_eq reduced

theorem blindRule_keeps (flagWas : Bool) {s : State} (blind : s.frost.mode = .blind) :
    Keeps (control s) (control (blindRule flagWas s)) := by
  have powered : Keeps (control s) (control (setRequested (s.settings.hMax / 2) s)) :=
    setRequested_keeps (by simp [blind]) fun _ => Nat.div_le_self _ _
  unfold blindRule
  refine .ite (fun _ => leaveBlind_keeps blind) fun _ => .ite (fun _ => powered) fun _ => ?_
  rw [control_report]
  exact powered

theorem stateRule_keeps (flagWas : Bool) (s : State) : Keeps (control s) (control (stateRule flagWas s)) := by
  unfold stateRule
  split
  case h_1 idle => exact .ite (fun _ => .refl _) fun _ => idleWatch_keeps (.inl idle) (.inr rfl)
  case h_2 watch => exact watchRule_keeps watch
  case h_3 preheat => exact .ite (fun _ => preheatRule_keeps preheat) fun _ => .refl _
  case h_4 defrost => exact .ite (fun _ => defrostRule_keeps defrost) fun _ => .refl _
  case h_5 => exact .refl _
  case h_6 blind => exact blindRule_keeps flagWas blind

theorem judgePeriod_keeps (s : State) : Keeps (control s) (control (judgePeriod s)) :=
  .ite (fun blinds => enterBlind_keeps (Bool.and_eq_true_iff.mp blinds).2) fun _ => stateRule_keeps _ s

theorem frostPeriod_keeps (s : State) : Keeps (control s) (control (frostPeriod s)) := by
  refine (judgePeriod_keeps s).trans (.of_eq ?_)
  exact (control_runs rfl rfl rfl).trans (control_reevaluate _)

theorem endOnTime_keeps (s : State) : Keeps (control s) (control (endOnTime s)) :=
  .ite (fun _ => .of_eq (control_runs rfl rfl rfl)) fun _ => .refl _

theorem takeExhaustion_keeps (s : State) : Keeps (control s) (control (takeExhaustion s)) := by
  refine .trans (.of_eq ?_) (endDefrost_keeps _)
  exact control_runs rfl rfl rfl

/-- FROST STOP left for RUN with the guard in PREHEAT, or for REST with the guard at rest (R91, R49). -/
theorem endFrostStop_keeps (s : State) : Keeps (control s) (control (endFrostStop s)) := by
  unfold endFrostStop
  dsimp only
  refine .ite (fun stop => ?_) fun _ => .refl _
  generalize hu : setFrostMode .preheat (setRequested s.settings.hMax
    (clearRuns { s with frost := { s.frost with stopTimer := 0 } })) = u
  have viewed : control u = { control s with mode := .preheat, requested := s.settings.hMax } := by
    rw [← hu, control_setFrostMode, control_setRequested, control_clearRuns]
    rfl
  have preheating : ¬(control s).runState = .frostStop → Keeps (control s) (control u) := by
    rw [viewed]
    refine fun no => ⟨id, fun ⟨_, _, stopped, _⟩ => absurd (stopped.mp stop) no, id, fun ⟨exclusive, capture⟩ => ⟨fun held => ?_, capture⟩⟩
    exact absurd stop (exclusive held).2.2.2
  have same : u.demand.runState = s.demand.runState := congrArg Control.runState viewed
  unfold frostExitReport
  refine .ite (fun stopped => ?_) fun no => preheating (fun stopped => no (same.trans stopped))
  have ventilates := ventilating_cases u
  generalize ventilating u = rs at ventilates ⊢
  have exits : Keeps (control s) ((control u).changed rs (restMode u)) := by
    rw [viewed]
    refine ⟨fun _ => rfl, ?_, ?_, ?_⟩
    · rintro ⟨_, _, _, _, _⟩
      obtain rfl | rfl := ventilates
      · simp [Control.Frost, Control.changed, rests, control]
      · obtain rest | rest := restMode_cases u <;> simp [Control.Frost, Control.changed, rests, rest]
    · rintro ⟨_, failed⟩
      refine ⟨fun no => ?_, fun down => ?_⟩
      · have still : rs ≠ .run := no
        simp [Control.changed, still]
      · have := failed down
        simp [stopsForFailure, show (control s).runState = .frostStop from same.symm.trans stopped] at this
    · rintro ⟨exclusive, capture⟩
      refine ⟨fun held => ?_, capture⟩
      have idle : (control s).runState ≠ .run := by
        simp [show (control s).runState = .frostStop from same.symm.trans stopped]
      simp only [Control.changed, idle, if_false] at held
      exact absurd (exclusive held).1 idle
  unfold changeRunState
  rw [control_changeRunStateWith ?_]
  · split
    · exact exits.trans (Control.keeps_abort _)
    · exact exits
  · obtain rfl | rfl := ventilates <;> simp [stopped]

/-! ### Channel reports and the end of STARTUP -/

theorem guardAbsentReport_keeps (c : Channel) (s : State) : Keeps (control s) (control (guardAbsentReport c s)) :=
  .ite (fun blinds => enterBlind_keeps (Bool.and_eq_true_iff.mp blinds).2)
    fun _ => .ite (fun defrost => leaveDefrost_keeps defrost.2) fun _ => .refl _

theorem guardPresentReport_keeps (c : Channel) (s : State) : Keeps (control s) (control (guardPresentReport c s)) :=
  .ite (fun blind => leaveBlind_keeps blind) fun _ => .ite (fun _ => .of_eq (control_clearRuns s)) fun _ => .refl _

theorem guardChannelReport_keeps (c : Channel) (before after : ChannelRec) (s : State) :
    Keeps (control s) (control (guardChannelReport c before after s)) := by
  unfold guardChannelReport
  split
  · exact guardAbsentReport_keeps c s
  · exact guardPresentReport_keeps c s
  · exact .refl _

theorem filterChannelFailed_keeps (x : Stream) (s : State) :
    Keeps (control s) (control (filterChannelFailed x s)) := by
  refine .ite (fun _ => ?_) fun _ => .refl _
  rw [control_abortCapture]
  exact Control.keeps_abort _

/-- The monitor's own records, its marks and the events it holds are no part of the view. -/
theorem control_filter {f : FilterMonitor} {s : State} (capture : f.capture.state = s.filter.capture.state) :
    control { s with filter := f } = control s :=
  control_congr rfl rfl rfl rfl rfl rfl rfl rfl rfl rfl capture

/-- An event that reaches the monitor is held, or taken. -/
theorem filterPost_keeps {e : FilterEvent} {s : State} (takes : Keeps (control s) (control (filterTake e s))) :
    Keeps (control s) (control (filterPost e s)) :=
  .ite (fun _ => .of_eq (control_filter rfl)) fun _ => takes

theorem pressureReport_keeps (x : Stream) (before after : ChannelRec) (s : State) :
    Keeps (control s) (control (pressureReport x before after s)) :=
  .ite (fun _ => filterPost_keeps (filterChannelFailed_keeps x s)) fun _ => .refl _

theorem reportChanges_keeps (before after : PerChannel ChannelRec) (s : State) :
    Keeps (control s) (control (reportChanges before after s)) :=
  (((guardChannelReport_keeps _ _ _ s).trans (guardChannelReport_keeps _ _ _ _)).trans
    (pressureReport_keeps _ _ _ _)).trans (pressureReport_keeps _ _ _ _)

theorem leaveStartup_keeps (s : State) : Keeps (control s) (control (leaveStartup s)) := by
  unfold leaveStartup
  refine .ite (fun startup => ?_) fun _ => .refl _
  split
  · refine .trans ?_ (smokeStop_keeps _ _)
    rw [control_demand]
    exact .refl _
  · exact ventilate_keeps (ventilating_cases s) (.inl startup)

end Sys2Proof.Machine
end

section
/-! The rules of the view kept by the filter monitor, the window end and the requests. -/

namespace Sys2Proof.Machine

/-! ### The filter monitor -/

theorem passToRun_keeps (settled : Bool) (s : State) : Keeps (control s) (control (passToRun settled s)) := by
  unfold passToRun
  dsimp only
  refine .ite (fun passes => ?_) fun _ => .refl _
  rw [control_captureReport]
  refine (control s).keeps_capture .run fun ⟨exclusive, capture⟩ _ => ?_
  have inForce : s.demand.captureInForce = true := by simpa [control, passes.1] using capture
  by_contra held
  have alone := (exclusive (by simpa [Option.isSome_iff_ne_none] using held)).2.1
  simp [control, inForce] at alone

theorem countWindow_control (x : Stream) (s : State) : control (countWindow x s) = control s := by
  unfold countWindow
  dsimp only
  split
  · exact control_filter rfl
  · rfl

theorem takeSample_control (x : Stream) (v : Nat) (s : State) : control (takeSample x v s) = control s :=
  control_filter (sumSample_state x v _)

theorem accrueVolume_control (x : Stream) (air : Nat) (s : State) : control (accrueVolume x air s) = control s := by
  unfold accrueVolume
  split <;> exact control_filter rfl

theorem accrueMinute_control (x : Stream) (served : Bool) (s : State) :
    control (accrueMinute x served s) = control s := by
  unfold accrueMinute
  dsimp only
  split
  · rfl
  split <;> exact control_filter rfl

theorem reportLamp_control (s : State) : control (reportLamp s) = control s := by
  unfold reportLamp
  split
  · rfl
  · exact control_congr (by simp) (by simp) (by simp) (by simp) (by simp) (by simp) (by simp) (by simp) (by simp)
      (by simp) (by simp)

theorem filterWindowEnd_keeps (x : Stream) (w : WindowFigures) (s : State) :
    Keeps (control s) (control (filterWindowEnd x w s)) := by
  unfold filterWindowEnd
  dsimp only
  refine .trans (.of_eq ?_) (passToRun_keeps _ _)
  rw [countWindow_control]
  split
  · rw [takeSample_control, accrueVolume_control]
  · rw [accrueVolume_control]

theorem filterLoopChange_control (x : Stream) (before after : LoopState) (s : State) :
    control (filterLoopChange x before after s) = control s := by
  unfold filterLoopChange
  dsimp only
  split
  · exact control_filter rfl
  · rfl

theorem filterMinuteWork_control (served : PerStream Bool) (s : State) :
    control (filterMinuteWork served s) = control s := by
  unfold filterMinuteWork orderRewrite
  dsimp only
  refine (control_filter rfl).trans ?_
  rw [control_reportAll, reportLamp_control]
  refine (control_filter rfl).trans ?_
  rw [accrueMinute_control, accrueMinute_control]

theorem abortCapture_keeps (c : CaptureCause) (s : State) : Keeps (control s) (control (abortCapture c s)) := by
  rw [control_abortCapture]
  exact Control.keeps_abort _

theorem endCaptureRun_keeps (s : State) : Keeps (control s) (control (endCaptureRun s)) := by
  unfold endCaptureRun
  dsimp only
  refine .ite (fun _ => .refl _) fun _ => .ite (fun _ => abortCapture_keeps _ _) fun _ => ?_
  have recorded (f : FilterMonitor) (cleared : f.capture.state = .none) :
      control (orderRewrite (reportLamp { s with filter := f })) = { control s with capture := .none } := by
    refine (control_filter rfl).trans ?_
    rw [reportLamp_control, ← cleared]
    rfl
  rw [control_reportAll, control_captureReport, recorded _ rfl]
  exact (control s).keeps_capture .none fun _ some => absurd rfl some

/-- A capture that begins, where FILTER CHANGED is accepted (R114). -/
theorem startCapture_keeps {named : PerStream Bool} {s : State} (allowed : captureAllowed s = true) :
    Keeps (control s) (control (startCapture named s)) := by
  unfold startCapture
  rw [control_captureReport]
  refine (control s).keeps_capture .wait fun _ _ => ?_
  simp only [captureAllowed, Bool.and_eq_true] at allowed
  obtain ⟨⟨_, free⟩, _⟩ := allowed
  simpa [control] using free

theorem control_answerTo (to' : Option ReplyTo) (a : Answer) (restart : Bool) (s : State) :
    control (answerTo to' a restart s) = control s := by
  cases to' <;> rfl

theorem serveFilter_keeps (req : FilterRequest) (s : State) : Keeps (control s) (control (serveFilter req s).2) := by
  cases req with
  | read b =>
    show Keeps _ (control (serveFilterRead b s).2)
    unfold serveFilterRead
    split <;> exact .refl _
  | changed b =>
    show Keeps _ (control (serveFilterChanged b s).2)
    unfold serveFilterChanged
    split
    · split
      · rename_i allowed
        exact startCapture_keeps allowed
      · exact .refl _
    · exact .refl _
  | startReport =>
    refine .ite (fun _ => .refl _) fun _ => .of_eq ?_
    exact control_filter rfl

theorem filterTake_keeps (e : FilterEvent) (s : State) : Keeps (control s) (control (filterTake e s)) := by
  cases e with
  | windowEnd x w => exact filterWindowEnd_keeps x w s
  | loopChange x before after => exact .of_eq (filterLoopChange_control x before after s)
  | minute served => exact .of_eq (filterMinuteWork_control served s)
  | waitTimeout => exact .ite (fun _ => abortCapture_keeps _ _) fun _ => .refl _
  | runEnd => exact endCaptureRun_keeps s
  | lockOut x => exact .ite (fun _ => abortCapture_keeps _ _) fun _ => .refl _
  | leftRun => exact abortCapture_keeps _ _
  | frostEntry => exact abortCapture_keeps _ _
  | channelFailed x => exact filterChannelFailed_keeps x s
  | request replyTo req =>
    refine (serveFilter_keeps req s).trans (.of_eq ?_)
    exact control_answerTo _ _ _ _

theorem drainHeld_keeps (es : List FilterEvent) (s : State) : Keeps (control s) (control (drainHeld es s)) := by
  induction es generalizing s with
  | nil => exact .refl _
  | cons e es ih =>
    refine .ite (fun _ => .of_eq (control_filter rfl)) fun _ => ?_
    exact (filterTake_keeps e s).trans (ih _)

theorem endRewrite_keeps (s : State) : Keeps (control s) (control (endRewrite s)) := by
  refine .ite (fun _ => .trans (.of_eq ?_) (drainHeld_keeps _ _)) fun _ => .refl _
  exact control_filter rfl

theorem handToFilter_keeps (to' : Option ReplyTo) (req : FilterRequest) (s : State) :
    Keeps (control s) (control (handToFilter to' req s)) := by
  refine .trans (.of_eq ?_) (filterPost_keeps (filterTake_keeps _ _))
  split <;> rfl

/-! ### The window end -/

theorem Control.keeps_failed (c : Control) {b : Bool} (was : b = true → c.failed = true) : Keeps c { c with failed := b } :=
  ⟨id, id, fun ⟨still, failed⟩ => ⟨still, fun down => failed (was down)⟩, id⟩

theorem control_reportLoopChange (x : Stream) (before after : LoopState) (s : State) :
    control (reportLoopChange x before after s) = control s := by
  obtain ⟨demand, governor, _, _, frost, filter⟩ := reportLoopChange_keeps x before after s
  exact control_congr (by simp) (by rw [demand]) (by rw [demand]) (by rw [demand]) (by rw [frost]) (by rw [frost])
    (by rw [frost]) (by rw [governor]) (by rw [governor]) (by simp) (by rw [filter])

/-- What one window end measures, takes and computes, which its judgement of the loop's state leaves alone. -/
structure SameFigures (l m : LoopRec) : Prop where
  offered : m.offered = l.offered
  taken : m.taken = l.taken
  speedTarget : m.speedTarget = l.speedTarget
  shownTarget : m.shownTarget = l.shownTarget
  speed : m.speed = l.speed
  n : m.n = l.n
  d : m.d = l.d
  flow : m.flow = l.flow
  band : m.band = l.band
  window : m.window = l.window
  ended : m.ended = l.ended
  edges : m.edges = l.edges
  span : m.span = l.span
  firstEdge : m.firstEdge = l.firstEdge
  lastEdge : m.lastEdge = l.lastEdge

theorem SameFigures.refl (l : LoopRec) : SameFigures l l := by constructor <;> rfl

theorem SameFigures.trans {l m n : LoopRec} (h : SameFigures l m) (g : SameFigures m n) : SameFigures l n := by
  cases h
  cases g
  constructor <;> simp_all

theorem enterStall_figures (l : LoopRec) : SameFigures l (enterStall l) := by
  unfold enterStall
  split <;> constructor <;> rfl

theorem stoppedEnd_figures (c : LoopSettings) (l : LoopRec) : SameFigures l (stoppedEnd c l) := by
  unfold stoppedEnd
  split <;> constructor <;> rfl

theorem startingEnd_figures (l : LoopRec) : SameFigures l (startingEnd l) := by
  unfold startingEnd
  split
  · exact .refl l
  split
  · constructor <;> rfl
  · exact enterStall_figures l

theorem settlingEnd_figures (b : LockBand) (l : LoopRec) : SameFigures l (settlingEnd b l) := by
  unfold settlingEnd
  dsimp only
  split
  · constructor <;> rfl
  split <;> constructor <;> rfl

theorem lockedEnd_figures (b : LockBand) (before : Nat) (l : LoopRec) : SameFigures l (lockedEnd b before l) := by
  unfold lockedEnd
  split
  · constructor <;> rfl
  dsimp only
  split <;> constructor <;> rfl

theorem unlockedEnd_figures (b : LockBand) (l : LoopRec) : SameFigures l (unlockedEnd b l) := by
  unfold unlockedEnd
  dsimp only
  split <;> constructor <;> rfl

theorem stalledEnd_figures (c : LoopSettings) (l : LoopRec) : SameFigures l (stalledEnd c l) := by
  unfold stalledEnd
  split
  · exact .refl l
  split <;> constructor <;> rfl

/-- The transition of a window end changes no figure that it has measured (R29). -/
theorem transition_figures (b : LockBand) (c : LoopSettings) (before : Nat) (l : LoopRec) :
    SameFigures l (transition b c before l) := by
  have counted : SameFigures l { l with noEdge := noEdgeAfter c l } := by constructor <;> rfl
  refine counted.trans ?_
  unfold transition
  dsimp only
  split
  · exact enterStall_figures _
  cases l.state with
  | stopped => exact stoppedEnd_figures _ _
  | starting => exact startingEnd_figures _
  | settling => exact settlingEnd_figures _ _
  | locked => exact lockedEnd_figures _ _ _
  | unlocked => exact unlockedEnd_figures _ _
  | stalled => exact stalledEnd_figures _ _
  | failed => constructor <;> rfl

theorem updateDrive_figures (c : LoopSettings) (l : LoopRec) : SameFigures l (updateDrive c l) := by
  unfold updateDrive
  split <;> constructor <;> rfl

/-- The figures of a window end are those of its measurement (R29). -/
theorem windowLoop_figures (set : Settings) (c : LoopSettings) (dp : Nat) (l : LoopRec) :
    SameFigures (measureWindow set c dp l) (windowLoop set c dp l) := by
  have judged (m : LoopRec) : SameFigures m (judgeLatch set.lockBand m) := by constructor <;> rfl
  exact ((updateDrive_figures c _).trans (transition_figures _ _ _ _)).trans (judged _)

theorem control_setLoop {x : Stream} {l : LoopRec} {s : State} (offered : l.offered = (s.loops.get x).offered) :
    control (setLoop x l s) = { control s with failed := anyLoopFailed (setLoop x l s) } := by
  cases x <;> simp [control, PerStream.set, PerStream.get] at offered ⊢ <;> exact offered

theorem Control.targets_changed (c : Control) {rs : RunState} (rest : FrostMode) (stops : stopsForFailure rs) :
    (c.changed rs rest).Targets := by
  have idle : rs ≠ .run := by
    obtain rfl | rfl := stops <;> simp
  exact ⟨fun _ => by simp [Control.changed, idle], fun _ => stops⟩

/-- A loop that has just failed leaves the unit stopped (R52). -/
theorem loopFailedReport_targets {s : State}
    (targets : ({ control s with failed := false } : Control).Targets) : (control (loopFailedReport s)).Targets := by
  unfold loopFailedReport
  have stops : s.demand.runState ≠ .faultStop → (control (changeRunState .faultStop s)).Targets := by
    intro change
    unfold changeRunState
    rw [control_changeRunStateWith (Ne.symm change)]
    have changed := (control s).targets_changed (restMode s) (rs := .faultStop) (.inr rfl)
    split
    · exact (Control.keeps_abort _).targets changed
    · exact changed
  split
  case h_1 state | h_2 state | h_3 state | h_4 state => exact stops (by simp [state])
  case h_5 state => exact ⟨targets.1, fun _ => .inl state⟩
  case h_6 state => exact ⟨targets.1, fun _ => .inr state⟩

theorem reportTransition_keeps {x : Stream} {after : LoopRec} {s : State}
    (offered : after.offered = (s.loops.get x).offered) :
    Keeps (control s) (control (reportTransition x (s.loops.get x) after (setLoop x after s))) := by
  have set := control_setLoop (x := x) offered
  unfold reportTransition
  rw [control_reportLoopChange]
  generalize hu : reportAll (loopReports x (s.loops.get x) after) (setLoop x after s) = u
  have viewed : control u = { control s with failed := anyLoopFailed (setLoop x after s) } := by
    rw [← hu, control_reportAll, set]
  refine .ite (fun fails => ?_) fun same => ?_
  · have report := loopFailedReport_keeps u
    rw [viewed] at report
    refine ⟨report.seen, report.frost, fun targets => loopFailedReport_targets ?_, report.hold⟩
    rw [viewed]
    exact ⟨targets.1, by simp⟩
  · rw [viewed]
    refine (control s).keeps_failed fun down => ?_
    cases x <;> simp_all [control, anyLoopFailed, PerStream.set, PerStream.get] <;> tauto

theorem exhausted_control (s : State) : control (exhausted s) = control s :=
  (control_runs rfl rfl rfl).trans (control_report _ _ s)

theorem judgeAllowance_control (s : State) : control (judgeAllowance s) = control s := by
  unfold judgeAllowance
  split
  · rw [chargeAllowance_eq]
    split
    · exact exhausted_control _
    · rfl
  · rfl

theorem governorStep_keeps (s : State) : Keeps (control s) (control (governorStep s)) := by
  unfold governorStep
  rw [judgeAllowance_control]
  refine .ite (fun run => ?_) fun _ => .refl _
  rw [control_setTargets]
  exact (control s).keeps_targets _ _ run

theorem handWindowEnd_keeps (x : Stream) (s : State) : Keeps (control s) (control (handWindowEnd x s)) := by
  unfold handWindowEnd
  dsimp only
  refine .trans ?_ (filterPost_keeps (filterTake_keeps _ _))
  refine .ite (fun _ => ?_) fun _ => .refl _
  rw [control_reevaluate]
  exact governorStep_keeps s

theorem windowEnd_keeps (x : Stream) (s : State) : Keeps (control s) (control (windowEnd x s)) :=
  (reportTransition_keeps (windowLoop_figures _ _ _ _).offered).trans (handWindowEnd_keeps _ _)

end Sys2Proof.Machine
end

section
/-! Changes of state that keep the properties which hold at all times (O3 to O11), whichever of them hold. -/

namespace Sys2Proof.Machine

theorem frostConsistent_iff (s : State) : FrostConsistent s ↔ (control s).Frost ∧ ReductionFollows s := by
  constructor
  · rintro ⟨seen, run, stop, power, defrost, same, most⟩
    exact ⟨⟨seen, run, stop, power, most⟩, defrost, same⟩
  · rintro ⟨⟨seen, run, stop, power, most⟩, defrost, same⟩
    exact ⟨seen, run, stop, power, defrost, same, most⟩

theorem heatInterlocked_iff (s : State) :
    HeatInterlocked s ↔ (control s).seen = (control s).runState ∧ HeatCurrent s ∧ HeatFlagged s := Iff.rfl

/-- A change of state that keeps each of the properties, whichever of them hold. -/
structure Preserves (s t : State) : Prop where
  demandBounded : DemandBounded s → DemandBounded t
  demandCurrent : DemandCurrent s ∧ UnjudgedSlotsQuiet s → DemandCurrent t ∧ UnjudgedSlotsQuiet t
  heat : HeatInterlocked s → HeatInterlocked t
  still : TargetsStopped s ∧ FansUndriven s → TargetsStopped t ∧ FansUndriven t
  allowance : AllowanceBounded s → AllowanceBounded t
  frost : FrostConsistent s → FrostConsistent t
  hold : HoldExclusive s → HoldExclusive t
  events : QueueBounded s ∧ AlarmFollows s → QueueBounded t ∧ AlarmFollows t
  slots : SlotsConsistent s ∧ BanksConsistent s ∧ StoreWhole s → SlotsConsistent t ∧ BanksConsistent t ∧ StoreWhole t

theorem Preserves.refl (s : State) : Preserves s s := ⟨id, id, id, id, id, id, id, id, id⟩

theorem Preserves.trans {s t u : State} (h : Preserves s t) (g : Preserves t u) : Preserves s u :=
  ⟨g.demandBounded ∘ h.demandBounded, g.demandCurrent ∘ h.demandCurrent, g.heat ∘ h.heat, g.still ∘ h.still,
    g.allowance ∘ h.allowance, g.frost ∘ h.frost, g.hold ∘ h.hold, g.events ∘ h.events, g.slots ∘ h.slots⟩

theorem Preserves.ite {p : Prop} [Decidable p] {s t u : State} (yes : p → Preserves s t) (no : ¬p → Preserves s u) :
    Preserves s (if p then t else u) := by
  split
  · exact yes ‹_›
  · exact no ‹_›

/-! ### Cascades -/

theorem Beat.weaken {heat : Prop} {s t : State} (h : Beat True s t) : Beat heat s t := by
  cases h with
  | report k src => exact .report k src
  | demand d same => exact .demand d same
  | recompute d f a b c e g => exact .recompute d f a b c e g
  | filter f a b => exact .filter f a b
  | governor g a b => exact .governor g a b
  | frost f g a b c d e h i => exact .frost f g a b c d e h i
  | loops l a b => exact .loops l a fun _ => b trivial
  | settle f l fm a b c d e g h i => exact .settle f l fm a b c d e g h i
  | lamp b => exact .lamp b

theorem Cascade.weaken {heat : Prop} {s t : State} (h : Cascade True s t) : Cascade heat s t :=
  Relation.ReflTransGen.mono (fun _ _ => Beat.weaken) _ _ h

/-- A cascade from a consistent state; of the heater output only its end is said. -/
theorem Preserves.of_end {heat : Prop} {s t : State} (h : Cascade heat s t) (keeps : Keeps (control s) (control t))
    (current : HeatCurrent s → HeatCurrent t) : Preserves s t where
  demandBounded := h.keeps Beat.demandBounded
  demandCurrent := fun ⟨demand, quiet⟩ => ⟨h.keeps Beat.demandCurrent demand, h.keeps Beat.quiet quiet⟩
  heat := fun ⟨seen, output, flagged⟩ => ⟨keeps.seen seen, current output, h.keeps Beat.flagged flagged⟩
  still := fun ⟨targets, still⟩ => ⟨keeps.targets targets, h.keeps Beat.fansUndriven still⟩
  allowance := h.keeps Beat.allowance
  frost := by
    rw [frostConsistent_iff, frostConsistent_iff]
    exact fun ⟨frost, reduction⟩ => ⟨keeps.frost frost, h.keeps Beat.reduction reduction⟩
  hold := keeps.hold
  events := fun ⟨queue, alarm⟩ => ⟨h.keeps Beat.queue queue, h.keeps Beat.alarm alarm⟩
  slots := fun ⟨slots, banks, store⟩ =>
    ⟨h.keeps Beat.slots slots, h.keeps Beat.banks banks, h.keeps Beat.storeWhole store⟩

theorem Preserves.of_cascade {s t : State} (h : Cascade True s t) (keeps : Keeps (control s) (control t)) :
    Preserves s t :=
  .of_end h keeps (h.keeps Beat.current)

/-- A beat that leaves the view as it is. -/
theorem Preserves.of_view {s t : State} (h : Cascade True s t) (same : control t = control s) : Preserves s t :=
  .of_cascade h (.of_eq same)

theorem report_preserves (k : EventKind) (src : Source) (s : State) : Preserves s (report k src s) :=
  .of_view (report_cascade k src s) (control_report k src s)

theorem reportAll_preserves (os : List (EventKind × Source)) (s : State) : Preserves s (reportAll os s) :=
  .of_view (reportAll_cascade os s) (control_reportAll os s)

/-! ### What no property reads -/

/-- The measurement unit, the link port but for its not-empty report, the lines but for their function levels, the
reset-second count and the records of the bus are read by none of the properties. -/
theorem Preserves.aside {s : State} (m : Measurement) (k : Link) (u : Lines) (b : Bus) (n : Nat)
    (shown : k.queueNotEmpty = s.link.queueNotEmpty) (alarm : u.alarm = s.lines.alarm) (heater : u.heater = s.lines.heater)
    (empty : ∀ i ∈ Slot.all, ((b.slots.get i).state = .empty ↔ (s.bus.slots.get i).state = .empty))
    (enrolling : ∀ i ∈ Slot.all, (b.slots.get i).state = .enrolling → (s.bus.slots.get i).state = .enrolling) :
    Preserves s { s with measurement := m, link := k, lines := u, bus := b, events := { s.events with seconds := n } } where
  demandBounded := id
  demandCurrent := by
    refine fun ⟨current, quiet⟩ => ⟨current, fun i listed unjudged => quiet i listed ?_⟩
    obtain gone | enrols := unjudged
    · exact .inl ((empty i listed).mp gone)
    · exact .inr (enrolling i listed enrols)
  heat := fun ⟨seen, output, hto, on⟩ => ⟨seen, output, hto, heater.trans on⟩
  still := id
  allowance := id
  frost := id
  hold := id
  events := fun ⟨⟨most, few, ntf, held⟩, severe, follows⟩ => ⟨⟨most, few, ntf, shown.trans held⟩, severe, alarm.trans follows⟩
  slots := by
    refine fun ⟨⟨distinct, agree⟩, banks, store⟩ => ⟨⟨distinct, fun i listed => (agree i listed).trans ?_⟩, banks, store⟩
    simp only [occupied, bne, Bool.not_inj_iff, beq_eq_beq]
    exact (empty i listed).symm

theorem Preserves.link {s : State} (k : Link) (shown : k.queueNotEmpty = s.link.queueNotEmpty) :
    Preserves s { s with link := k } :=
  .aside s.measurement k s.lines s.bus s.events.seconds shown rfl rfl (fun _ _ => Iff.rfl) fun _ _ => id

theorem Preserves.measurement {s : State} (m : Measurement) : Preserves s { s with measurement := m } :=
  .aside m s.link s.lines s.bus s.events.seconds rfl rfl rfl (fun _ _ => Iff.rfl) fun _ _ => id

theorem Preserves.lines {s : State} (u : Lines) (alarm : u.alarm = s.lines.alarm) (heater : u.heater = s.lines.heater) :
    Preserves s { s with lines := u } :=
  .aside s.measurement s.link u s.bus s.events.seconds rfl alarm heater (fun _ _ => Iff.rfl) fun _ _ => id

theorem Preserves.seconds {s : State} (n : Nat) : Preserves s { s with events := { s.events with seconds := n } } :=
  .aside s.measurement s.link s.lines s.bus n rfl rfl rfl (fun _ _ => Iff.rfl) fun _ _ => id

theorem Preserves.bus {s : State} (b : Bus)
    (empty : ∀ i ∈ Slot.all, ((b.slots.get i).state = .empty ↔ (s.bus.slots.get i).state = .empty))
    (enrolling : ∀ i ∈ Slot.all, (b.slots.get i).state = .enrolling → (s.bus.slots.get i).state = .enrolling) :
    Preserves s { s with bus := b } :=
  .aside s.measurement s.link s.lines b s.events.seconds rfl rfl rfl empty enrolling

/-- A slot's record replaced by one that is EMPTY just with it and no more ENROLLING (R131 to R136). -/
theorem setSlot_preserves {k : Slot} {r : SlotRec} {s : State}
    (empty : r.state = .empty ↔ (s.bus.slots.get k).state = .empty)
    (enrolling : r.state = .enrolling → (s.bus.slots.get k).state = .enrolling) : Preserves s (setSlot k r s) := by
  refine .bus { s.bus with slots := s.bus.slots.set k r } ?_ ?_
  all_goals
    intro i _
    rw [PerSlot.get_set]
    split
    · rename_i same
      subst same
      assumption
    · simp

/-- The supply and the queue of commands are read by none of the properties. -/
theorem Preserves.outside {s : State} (powered : Bool) (pending : List Instr) :
    Preserves s { s with powered := powered, pending := pending } := ⟨id, id, id, id, id, id, id, id, id⟩

/-! ### Settings replaced -/

section
variable {s : State} {set : Settings}

theorem allSettings_settings {P : Settings → Prop} (new : P s.settings → P set) :
    (∀ c ∈ allSettings s, P c) → ∀ c ∈ allSettings { s with settings := set }, P c := by
  intro all c listed
  obtain rfl | stored := List.mem_cons.mp listed
  · exact new (all _ (by simp [allSettings]))
  · exact all _ (List.mem_cons_of_mem _ stored)

theorem demandBounded_settings (fMin : set.fMin = s.settings.fMin) (fMax : set.fMax = s.settings.fMax)
    (bounded : DemandBounded s) : DemandBounded { s with settings := set } := by
  obtain ⟨ordered, low, high⟩ := bounded
  have new : clampOrdered s.settings → clampOrdered set := fun old => by simpa [clampOrdered, fMin, fMax] using old
  exact ⟨allSettings_settings new ordered, fMin.le.trans low, high.trans fMax.ge⟩

theorem humidityDemand_settings (increment : ∀ r, incrementOf set r = incrementOf s.settings r)
    (ceiling : set.humidCeiling = s.settings.humidCeiling) (slots : set.slots = s.settings.slots) :
    humidityDemand { s with settings := set } = humidityDemand s := by
  have same : slotIncrement { s with settings := set } = slotIncrement s := by
    funext k
    simp [slotIncrement, increment, slots]
  rw [humidityDemand, humidityDemand, same, ceiling]

theorem demandCurrent_settings (level : ∀ l, levelFlow set l = levelFlow s.settings l)
    (fMin : set.fMin = s.settings.fMin) (fMax : set.fMax = s.settings.fMax) (fRef : set.fRef = s.settings.fRef)
    (h : humidityDemand { s with settings := set } = humidityDemand s) (current : DemandCurrent s) :
    DemandCurrent { s with settings := set } := by
  have high : set.highFlow = s.settings.highFlow := level .high
  have same : demandOf { s with settings := set } = demandOf s := by
    simp [demandOf, demandInput, levelFlowNow, boostFlow, pullDemand, level, fMin, fMax, fRef, high]
  obtain ⟨d, handed, flow, formed, hHanded⟩ := current
  exact ⟨d.trans same.symm, handed, flow.trans (level _).symm, formed.trans h.symm, hHanded⟩

theorem heatInterlocked_settings (fHmin : set.fHmin = s.settings.fHmin) (heat : HeatInterlocked s) :
    HeatInterlocked { s with settings := set } := by
  have same : interlock { s with settings := set } = interlock s := by simp [interlock, fHmin]
  obtain ⟨seen, output, flagged⟩ := heat
  exact ⟨seen, by rw [same]; exact output, flagged⟩

theorem frostConsistent_settings (hMax : set.hMax = s.settings.hMax) (frost : FrostConsistent s) :
    FrostConsistent { s with settings := set } := by
  obtain ⟨seen, run, stop, power, defrost, same, most⟩ := frost
  exact ⟨seen, run, stop, power, defrost, same, most.trans hMax.ge⟩

theorem events_settings (threshold : set.threshold = s.settings.threshold) (events : QueueBounded s ∧ AlarmFollows s) :
    QueueBounded { s with settings := set } ∧ AlarmFollows { s with settings := set } := by
  obtain ⟨⟨most, few, ntf, held⟩, alarm⟩ := events
  exact ⟨⟨most, few, by rw [threshold]; exact ntf, held⟩, alarm⟩

theorem slotsConsistent_settings (slots : set.slots = s.settings.slots) (consistent : SlotsConsistent s) :
    SlotsConsistent { s with settings := set } := by
  obtain ⟨distinct, agree⟩ := consistent
  refine ⟨allSettings_settings (P := fun c => (enrolledAddresses c).Nodup) ?_ distinct, ?_⟩
  · simp [enrolledAddresses, slots]
  · intro k listed
    rw [slots]
    exact agree k listed

/-- Settings in which only figures change that the properties do not read. -/
structure Unread (a b : Settings) : Prop where
  fMin : b.fMin = a.fMin
  fMax : b.fMax = a.fMax
  level : ∀ l, levelFlow b l = levelFlow a l
  fRef : b.fRef = a.fRef
  increment : ∀ r, incrementOf b r = incrementOf a r
  humidCeiling : b.humidCeiling = a.humidCeiling
  slots : b.slots = a.slots
  fHmin : b.fHmin = a.fHmin
  hMax : b.hMax = a.hMax
  aMax : b.aMax = a.aMax
  threshold : b.threshold = a.threshold

theorem Preserves.settings (same : Unread s.settings set) : Preserves s { s with settings := set } where
  demandBounded := demandBounded_settings same.fMin same.fMax
  demandCurrent := And.imp_left (demandCurrent_settings same.level same.fMin same.fMax same.fRef
    (humidityDemand_settings same.increment same.humidCeiling same.slots))
  heat := heatInterlocked_settings same.fHmin
  still := id
  allowance := fun ⟨within, carry⟩ => ⟨within.trans same.aMax.ge, carry⟩
  frost := frostConsistent_settings same.hMax
  hold := id
  events := events_settings same.threshold
  slots := And.imp_left (slotsConsistent_settings same.slots)

end

end Sys2Proof.Machine
end

section
/-! The commands of the air blocks, the frost guard, the controller and the filter monitor keep the properties. -/

namespace Sys2Proof.Machine

/-! ### Inputs of D changed, and D recomputed -/

/-- The settings, the inputs of D, the humidity response or the slot table changed, and D formed again. -/
theorem Preserves.of_inputs {s t : State} {set : Settings} {d : Demand} {hum : Humidity} {b : Bus}
    (h : Cascade True { s with settings := set, demand := d, humidity := hum, bus := b } t)
    (keeps : Keeps (control s) (control t)) (fHmin : set.fHmin = s.settings.fHmin) (aMax : set.aMax = s.settings.aMax)
    (threshold : set.threshold = s.settings.threshold)
    (slots : SlotsConsistent s → SlotsConsistent { s with settings := set, demand := d, humidity := hum, bus := b })
    (bounded : DemandBounded s → DemandBounded t)
    (current : DemandCurrent s ∧ UnjudgedSlotsQuiet s → DemandCurrent t ∧ UnjudgedSlotsQuiet t) : Preserves s t where
  demandBounded := bounded
  demandCurrent := current
  heat := by
    rintro ⟨seen, output, flagged⟩
    have same : interlock { s with settings := set, demand := d, humidity := hum, bus := b } = interlock s := by
      simp [interlock, fHmin]
    have before : HeatCurrent { s with settings := set, demand := d, humidity := hum, bus := b } := by
      rw [HeatCurrent, same]
      exact output
    exact ⟨keeps.seen seen, h.keeps Beat.current before, h.keeps Beat.flagged flagged⟩
  still := fun ⟨targets, still⟩ => ⟨keeps.targets targets, h.keeps Beat.fansUndriven still⟩
  allowance := fun ⟨within, carry⟩ => h.keeps Beat.allowance ⟨within.trans aMax.ge, carry⟩
  frost := by
    rw [frostConsistent_iff, frostConsistent_iff]
    exact fun ⟨frost, reduction⟩ => ⟨keeps.frost frost, h.keeps Beat.reduction reduction⟩
  hold := keeps.hold
  events := by
    rintro ⟨⟨most, few, ntf, held⟩, alarm⟩
    exact ⟨h.keeps Beat.queue ⟨most, few, by rw [threshold]; exact ntf, held⟩, h.keeps Beat.alarm alarm⟩
  slots := fun ⟨table, banks, store⟩ =>
    ⟨h.keeps Beat.slots (slots table), h.keeps Beat.banks banks, h.keeps Beat.storeWhole store⟩

/-- A recomputed D lies between F_min and F_max, whatever it was before (R59). -/
theorem recomputeDemand_bounded {s : State} (ordered : ∀ set ∈ allSettings s, clampOrdered set) :
    DemandBounded (recomputeDemand s) := by
  have clamp := demandOf_bounds s (ordered s.settings (by simp [allSettings]))
  have sets : allSettings (recomputeDemand s) = allSettings s := by simp [allSettings]
  exact ⟨sets ▸ ordered, by simpa using clamp⟩

/-- An input of D other than H and the level changed in the controller, and D recomputed (R60). -/
theorem recompute_preserves {s : State} (d : Demand) (same : d.d = s.demand.d) (h : d.h = s.demand.h)
    (level : d.level = s.demand.level) (run : d.runState = s.demand.runState) (hold : d.hold = s.demand.hold)
    (inForce : d.captureInForce = s.demand.captureInForce) :
    Preserves s (recomputeDemand { s with demand := d }) := by
  refine .of_view (.single (.recompute d s.filter same h level (fun follows => by rw [inForce]; exact follows) id)) ?_
  rw [control_recomputeDemand, control_demand, run, hold, inForce]
  rfl

/-! ### The measurement unit -/

theorem judgeAll_eq (s : State) : judgeAll s = { s with measurement := (judgeAll s).measurement } := by
  unfold judgeAll countQuiet judgeEffectiveness
  split <;> rfl

theorem judgeClosed_preserves (s : State) : Preserves s (judgeClosed s) := by
  unfold judgeClosed
  dsimp only
  refine .trans ?_ (.of_cascade (leaveStartup_cascade _) (leaveStartup_keeps _))
  refine .trans ?_ (.of_cascade (reportChanges_cascade _ _ _) (reportChanges_keeps _ _ _))
  refine .trans ?_ (reportAll_preserves _ _)
  rw [judgeAll_eq]
  exact .measurement _

theorem secondEnd_preserves (s : State) : Preserves s (secondEnd s) :=
  .ite (fun _ => judgeClosed_preserves s) fun _ => .refl s

theorem sampleAll_preserves (codes : PerChannel Code) (s : State) : Preserves s (sampleAll codes s) :=
  (secondEnd_preserves s).trans (.measurement _)

/-! ### The fan loops -/

/-- A loop's figures changed that no property reads. -/
theorem setLoop_preserves {x : Stream} {l : LoopRec} {s : State} (state : l.state = (s.loops.get x).state)
    (drive : l.drive = (s.loops.get x).drive) (flow : l.flow = (s.loops.get x).flow)
    (offered : l.offered = (s.loops.get x).offered) : Preserves s (setLoop x l s) := by
  refine .of_view (.single (.loops (s.loops.set x l) (setLoop_undriven ?_) fun _ => ?_)) ?_
  · rw [state, drive]
    exact id
  · cases x
    · exact ⟨state, flow⟩
    · exact ⟨rfl, rfl⟩
  · rw [control_setLoop offered]
    cases x <;> simp [control, anyLoopFailed, PerStream.set, PerStream.get] at state ⊢ <;> rw [state]

theorem acceptEdge_keeps (time : Nat) (l : LoopRec) :
    (acceptEdge time l).state = l.state ∧ (acceptEdge time l).drive = l.drive ∧ (acceptEdge time l).flow = l.flow
      ∧ (acceptEdge time l).offered = l.offered := by
  unfold acceptEdge
  split
  · exact ⟨rfl, rfl, rfl, rfl⟩
  split <;> exact ⟨rfl, rfl, rfl, rfl⟩

theorem tachEdge_preserves (x : Stream) (time : Nat) (s : State) :
    Preserves s (setLoop x (acceptEdge time (s.loops.get x)) s) := by
  obtain ⟨state, drive, flow, offered⟩ := acceptEdge_keeps time (s.loops.get x)
  exact setLoop_preserves state drive flow offered

/-- A loop that is not driven while it is STOPPED, STALLED or FAILED (R36 to R38). -/
def StillLoop (l : LoopRec) : Prop := undriven l.state → l.drive = 0

theorem enterStall_still (l : LoopRec) : StillLoop (enterStall l) := by
  intro _
  unfold enterStall
  split <;> rfl

/-- A loop in a state that is driven is still in the sense of no property. -/
theorem StillLoop.of_driven {l : LoopRec} (driven : ¬undriven l.state) : StillLoop l := fun no => absurd no driven

theorem stoppedEnd_still (c : LoopSettings) {l : LoopRec} (still : StillLoop l) : StillLoop (stoppedEnd c l) := by
  unfold stoppedEnd
  split
  · exact .of_driven (by simp [enterStarting, undriven])
  · exact still

theorem startingEnd_still {l : LoopRec} (still : StillLoop l) : StillLoop (startingEnd l) := by
  unfold startingEnd
  split
  · exact still
  split
  · exact .of_driven (by simp [undriven])
  · exact enterStall_still l

theorem settlingEnd_still (b : LockBand) {l : LoopRec} (still : StillLoop l) : StillLoop (settlingEnd b l) := by
  unfold settlingEnd
  dsimp only
  split
  · exact .of_driven (by simp [enterLocked, undriven])
  split
  · exact .of_driven (by simp [enterUnlocked, undriven])
  · exact still

theorem lockedEnd_still (b : LockBand) (before : Nat) {l : LoopRec} (still : StillLoop l) :
    StillLoop (lockedEnd b before l) := by
  unfold lockedEnd
  dsimp only
  split
  · exact .of_driven (by simp [resettle, undriven])
  split
  · exact .of_driven (by simp [enterUnlocked, undriven])
  · exact still

theorem unlockedEnd_still (b : LockBand) {l : LoopRec} (still : StillLoop l) : StillLoop (unlockedEnd b l) := by
  unfold unlockedEnd
  dsimp only
  split
  · exact .of_driven (by simp [enterLocked, undriven])
  · exact still

theorem stalledEnd_still (c : LoopSettings) {l : LoopRec} (stalled : l.state = .stalled) (still : StillLoop l) :
    StillLoop (stalledEnd c l) := by
  unfold stalledEnd
  split
  · exact still
  split
  · exact .of_driven (by simp [enterStarting, undriven])
  · exact fun _ => still (by simp [stalled, undriven])

theorem transition_still (b : LockBand) (c : LoopSettings) (before : Nat) {l : LoopRec} (still : StillLoop l) :
    StillLoop (transition b c before l) := by
  have counted : StillLoop { l with noEdge := noEdgeAfter c l } := still
  unfold transition
  dsimp only
  split
  · exact enterStall_still _
  split
  · exact stoppedEnd_still _ counted
  · exact startingEnd_still counted
  · exact settlingEnd_still _ counted
  · exact lockedEnd_still _ _ counted
  · exact unlockedEnd_still _ counted
  · exact stalledEnd_still _ ‹_› counted
  · exact counted

theorem updateDrive_still (c : LoopSettings) {l : LoopRec} (still : StillLoop l) : StillLoop (updateDrive c l) := by
  unfold updateDrive
  split
  · rename_i runs
    refine .of_driven fun no => ?_
    have halted : undriven l.state := no
    obtain halted | halted | halted := halted <;> simp [running, halted] at runs
  · exact still

theorem windowLoop_still (set : Settings) (c : LoopSettings) (dp : Nat) {l : LoopRec} (still : StillLoop l) :
    StillLoop (windowLoop set c dp l) :=
  transition_still _ _ _ (updateDrive_still c (l := measureWindow set c dp l) still)

/-- After the frost guard has been told, the heater output follows the interlock again (R75). -/
theorem handWindowEnd_supply_current (s : State) : HeatCurrent (handWindowEnd .supply s) :=
  (filterPost_cascade (heat := True) _ (by simp)).keeps Beat.current (reevaluate_current (governorStep s))

theorem windowEnd_preserves (x : Stream) (s : State) : Preserves s (windowEnd x s) := by
  have worked : Cascade False s
      (setLoop x (windowLoop s.settings (s.settings.loops.get x) (loopPressure s x) (s.loops.get x)) s) :=
    .single (.loops _ (setLoop_undriven (windowLoop_still _ _ _)) fun no => no.elim)
  refine .of_end (worked.trans (windowEnd_cascade x s)) (windowEnd_keeps x s) fun current => ?_
  cases x with
  | supply => exact handWindowEnd_supply_current _
  | extract =>
    exact (windowEnd_cascade (heat := True) .extract s).keeps Beat.current
      (current.congr (by rfl) (by rfl) (by rfl) (by rfl) (by rfl) (by rfl))

theorem serveFanRead_preserves (fan : Byte) (s : State) : Preserves s (serveFanRead fan s).2 := by
  unfold serveFanRead
  split
  · exact setLoop_preserves rfl rfl rfl rfl
  · exact .refl s

/-! ### The frost guard -/

theorem takeExhaustion_preserves (s : State) : Preserves s (takeExhaustion s) :=
  .of_cascade (takeExhaustion_cascade s) (takeExhaustion_keeps s)

theorem frostPeriod_preserves (s : State) : Preserves s (frostPeriod s) :=
  .of_cascade (frostPeriod_cascade s) (frostPeriod_keeps s)

theorem endOnTime_preserves (s : State) : Preserves s (endOnTime s) :=
  .of_cascade (endOnTime_cascade s) (endOnTime_keeps s)

theorem endDefrost_preserves (s : State) : Preserves s (endDefrost s) :=
  .of_cascade (endDefrost_cascade s) (endDefrost_keeps s)

theorem endFrostStop_preserves (s : State) : Preserves s (endFrostStop s) :=
  .of_cascade (endFrostStop_cascade s) (endFrostStop_keeps s)

/-! ### The controller -/

theorem setPullTimer_preserves (n : Nat) (s : State) : Preserves s (setPullTimer n s) :=
  recompute_preserves { s.demand with pullTimer := n } rfl rfl rfl rfl rfl rfl

theorem boostExpired_preserves (s : State) : Preserves s (boostExpired s) :=
  recompute_preserves { s.demand with boost := none } rfl rfl rfl rfl rfl rfl

theorem demandSecond_preserves (s : State) : Preserves s (demandSecond s) := by
  have counted := recompute_preserves (s := s)
    { s.demand with boost := boostSecond s.demand.boost, pullTimer := s.demand.pullTimer - 1 } rfl rfl rfl rfl rfl rfl
  unfold demandSecond
  dsimp only
  refine .ite (fun _ => ?_) fun _ => counted
  split <;> exact counted.trans (report_preserves _ _ _)

theorem releaseHold_preserves (c : HoldCause) (s : State) : Preserves s (releaseHold c s) := by
  refine .of_cascade (releaseHold_cascade c s) ?_
  rw [control_releaseHold]
  exact Control.keeps_release _

theorem silenceExpired_preserves (s : State) : Preserves s (silenceExpired s) :=
  .ite (fun _ => releaseHold_preserves _ s) fun _ => .refl s

theorem serveBoost_preserves (flow : Half) (minutes : Byte) (s : State) : Preserves s (serveBoost flow minutes s).2 := by
  unfold serveBoost
  split
  · exact .refl s
  · exact recompute_preserves { s.demand with boost := boostRecord flow.toNat minutes.toNat } rfl rfl rfl rfl rfl rfl

theorem serveHoldTake_preserves (flow : Half) (s : State) : Preserves s (serveHoldTake flow s).2 := by
  unfold serveHoldTake
  split
  · exact .refl s
  split
  · rename_i allowed
    refine .of_cascade (.single (.recompute { s.demand with hold := some flow.toNat } s.filter rfl rfl rfl id id)) ?_
    simp only [holdAllowed, Bool.and_eq_true] at allowed
    obtain ⟨⟨⟨run, alone⟩, defrost⟩, stop⟩ := allowed
    rw [control_recomputeDemand, control_demand]
    have inRun : s.demand.runState = .run := by simpa using run
    have uncaptured : s.demand.captureInForce = false := by simpa using alone
    have thawed : s.frost.mode ≠ .defrost := by simpa using defrost
    have unstopped : s.frost.mode ≠ .frostStop := by simpa using stop
    exact ⟨id, id, id, fun ⟨_, capture⟩ => ⟨fun _ => ⟨inRun, uncaptured, thawed, unstopped⟩, capture⟩⟩
  · exact .refl s

/-! ### The filter monitor -/

theorem answerTo_preserves (to' : Option ReplyTo) (a : Answer) (restart : Bool) (s : State) :
    Preserves s (answerTo to' a restart s) := by
  cases to' with
  | none => exact .link _ rfl
  | some r => exact .link _ rfl

/-- The monitor's records, its marks and its pending accrual changed. -/
theorem Preserves.filter {s : State} (f : FilterMonitor) (capture : f.capture.state = s.filter.capture.state)
    (store : s.filter.store.length = 50 → f.store.length = 50) : Preserves s { s with filter := f } :=
  .of_view (.single (.filter f capture store)) (control_filter capture)

theorem serveFilter_preserves (req : FilterRequest) (s : State) : Preserves s (serveFilter req s).2 := by
  cases req with
  | read b =>
    show Preserves s (serveFilterRead b s).2
    unfold serveFilterRead
    split <;> exact .refl s
  | changed b =>
    refine .of_cascade ?_ (serveFilter_keeps (.changed b) s)
    show Cascade True s (serveFilterChanged b s).2
    unfold serveFilterChanged
    split
    · split
      · exact startCapture_cascade _ s
      · exact .refl
    · exact .refl
  | startReport =>
    refine .ite (fun _ => .refl s) fun _ => ?_
    exact .filter (s := s) _ rfl id

theorem filterTake_preserves (e : FilterEvent) (s : State) : Preserves s (filterTake e s) := by
  have own (not : ∀ to' req, e ≠ .request to' req) : Preserves s (filterTake e s) :=
    .of_cascade (filterTake_cascade s not) (filterTake_keeps e s)
  cases e with
  | request replyTo req => exact (serveFilter_preserves req s).trans (answerTo_preserves _ _ _ _)
  | _ => exact own (by simp)

theorem filterPost_preserves (e : FilterEvent) (s : State) : Preserves s (filterPost e s) :=
  .ite (fun _ => .filter _ rfl id) fun _ => filterTake_preserves e s

theorem drainHeld_preserves (es : List FilterEvent) (s : State) : Preserves s (drainHeld es s) := by
  induction es generalizing s with
  | nil => exact .refl s
  | cons e es ih => exact .ite (fun _ => .filter _ rfl id) fun _ => (filterTake_preserves e s).trans (ih _)

theorem endRewrite_preserves (s : State) : Preserves s (endRewrite s) := by
  refine .ite (fun _ => ?_) fun _ => .refl s
  refine .trans ?_ (drainHeld_preserves _ _)
  exact .filter _ rfl fun _ => storeImage_length _

theorem handToFilter_preserves (to' : Option ReplyTo) (req : FilterRequest) (s : State) :
    Preserves s (handToFilter to' req s) := by
  refine .trans ?_ (filterPost_preserves _ _)
  refine .ite (fun _ => ?_) fun _ => .refl s
  exact .link _ rfl

end Sys2Proof.Machine
end

section
/-! LEVEL SET, RESUME, the humidity response and the slot table keep the properties. -/

namespace Sys2Proof.Machine

/-! ### H formed -/

/-- H reads the records and the level flow of the humidity response, not the H it was (R154). -/
theorem humidityDemand_of_records {s t : State} (settings : t.settings = s.settings)
    (slots : t.humidity.slots = s.humidity.slots) (level : t.humidity.levelFlow = s.humidity.levelFlow) :
    humidityDemand t = humidityDemand s := by
  have increment : slotIncrement t = slotIncrement s := by
    funext k
    rw [slotIncrement, slotIncrement, settings, slots]
  rw [humidityDemand, humidityDemand, settings, slots, level, increment]

/-- H formed again touches H on both sides and recomputes D (R154, R155). -/
theorem formHumidity_cascade (s : State) : ∃ h h' : Nat,
    Cascade True { s with demand := { s.demand with h := h }, humidity := { s.humidity with h := h' } }
      (formHumidity s) := by
  unfold formHumidity
  split
  · exact ⟨s.demand.h, s.humidity.h, .refl⟩
  · refine ⟨humidityDemand s, humidityDemand s, ?_⟩
    exact recompute_cascade (s := { s with
      demand := { s.demand with h := humidityDemand s }, humidity := { s.humidity with h := humidityDemand s } })
      _ rfl rfl rfl rfl

theorem control_formHumidity (s : State) : control (formHumidity s) = control s := by
  unfold formHumidity
  split
  · rfl
  · rw [control_recomputeDemand]
    rfl

/-- What forming H leaves of the response: everything but H, which is what R154 gives. -/
theorem formHumidity_humidity (s : State) :
    (formHumidity s).humidity = { s.humidity with h := humidityDemand s } := by
  unfold formHumidity
  split
  · rename_i same
    rw [same]
  · simp

theorem recomputeDemand_handed {s : State} (handed : s.frost.dHanded = s.demand.d) :
    (recomputeDemand s).frost.dHanded = demandOf s := by
  unfold recomputeDemand
  split
  · rename_i same
    rw [same, handed]
  · simp

/-- What forming H leaves of the controller: D and H. -/
theorem formHumidity_demand (s : State) :
    (formHumidity s).demand = { s.demand with d := (formHumidity s).demand.d, h := (formHumidity s).demand.h } := by
  unfold formHumidity
  split
  · rfl
  · simp

/-- Where the controller had H and the guard had D, they have them after H is formed again (R155). -/
theorem formHumidity_handed {s : State} (handed : s.frost.dHanded = s.demand.d) (same : s.demand.h = s.humidity.h) :
    (formHumidity s).frost.dHanded = (formHumidity s).demand.d
      ∧ (formHumidity s).demand.h = (formHumidity s).humidity.h := by
  unfold formHumidity
  split
  · exact ⟨handed, same⟩
  · exact ⟨(recomputeDemand_handed (s := { s with
      humidity := { s.humidity with h := humidityDemand s }, demand := { s.demand with h := humidityDemand s } })
      handed).trans (by simp), by simp⟩

theorem formHumidity_formed (s : State) : (formHumidity s).humidity.h = humidityDemand (formHumidity s) := by
  rw [humidityDemand_of_records (s := s) (by simp) (by simp [formHumidity_humidity]) (by simp [formHumidity_humidity]),
    formHumidity_h]

/-- D and H are current after H is formed, when D was what the demand rule gives of the H found (R155, R60). -/
theorem formHumidity_current {s : State} (d : s.demand.d = demandOf s) (handed : s.frost.dHanded = s.demand.d)
    (level : s.humidity.levelFlow = levelFlowNow s) (same : s.demand.h = s.humidity.h) :
    DemandCurrent (formHumidity s) := by
  obtain ⟨handed', same'⟩ := formHumidity_handed handed same
  have demand := formHumidity_demand s
  refine ⟨?_, handed', ?_, formHumidity_formed s, same'⟩
  · unfold formHumidity
    split
    · exact d
    · simp
  · rw [formHumidity_humidity]
    simp only [levelFlowNow, (formHumidity_frame s).2.1]
    rw [demand]
    exact level

/-- D and H are current after H is formed and D recomputed, whatever else of D's inputs had changed (R60). -/
theorem formed_recomputed_current {s : State} (handed : s.frost.dHanded = s.demand.d)
    (level : s.humidity.levelFlow = levelFlowNow s) (same : s.demand.h = s.humidity.h) :
    DemandCurrent (recomputeDemand (formHumidity s)) := by
  obtain ⟨handed', same'⟩ := formHumidity_handed handed same
  have demand := formHumidity_demand s
  refine recomputeDemand_current handed' ?_ (formHumidity_formed s) same'
  rw [formHumidity_humidity]
  simp only [levelFlowNow, (formHumidity_frame s).2.1]
  rw [demand]
  exact level

theorem formHumidity_bounded {s : State} (bounded : DemandBounded s) : DemandBounded (formHumidity s) := by
  unfold formHumidity
  split
  · exact bounded
  · exact recomputeDemand_bounded bounded.1

theorem formHumidity_quiet {s : State} (quiet : UnjudgedSlotsQuiet s) : UnjudgedSlotsQuiet (formHumidity s) := by
  simpa [UnjudgedSlotsQuiet, formHumidity_humidity] using quiet

/-! ### The humidity minute -/

theorem raiseFlag_humidity (k : EventKind) (s : State) (hum : Humidity) :
    raiseFlag k { s with humidity := hum } = { raiseFlag k s with humidity := hum } := by
  unfold raiseFlag judgeSevere
  dsimp only
  split <;> rfl

/-- An occurrence does not read the humidity response. -/
theorem report_humidity (k : EventKind) (src : Source) (s : State) (hum : Humidity) :
    report k src { s with humidity := hum } = { report k src s with humidity := hum } := by
  unfold report
  rw [raiseFlag_humidity]
  dsimp only
  split <;> rfl

theorem reportAll_humidity (os : List (EventKind × Source)) (s : State) (hum : Humidity) :
    reportAll os { s with humidity := hum } = { reportAll os s with humidity := hum } := by
  induction os generalizing s with
  | nil => rfl
  | cons o os ih =>
    have first : reportAll (o :: os) { s with humidity := hum } =
        reportAll os (report o.1 o.2 { s with humidity := hum }) := rfl
    rw [first, report_humidity, ih]
    rfl

/-- Slots that a humidity minute does not judge keep their records (R144, R153). -/
theorem humidMinuteSlot_quiet {s : State} (limit : Nat) {k : Slot} {r : HumidRec}
    (unjudged : (s.bus.slots.get k).state = .empty ∨ (s.bus.slots.get k).state = .enrolling) :
    humidMinuteSlot s limit k r = r := by
  unfold humidMinuteSlot
  obtain gone | enrols := unjudged
  · simp [gone, judgedSlot]
  · simp [enrols, judgedSlot]

/-- The humidity response changed but for its H and its level flow, and H formed (R144, R154). -/
theorem formHumidity_preserves {s : State} (hum : Humidity) (h : hum.h = s.humidity.h)
    (level : hum.levelFlow = s.humidity.levelFlow)
    (quiet : UnjudgedSlotsQuiet s → UnjudgedSlotsQuiet { s with humidity := hum }) :
    Preserves s (formHumidity { s with humidity := hum }) := by
  obtain ⟨_, _, cascade⟩ := formHumidity_cascade { s with humidity := hum }
  refine .of_inputs (set := s.settings) (b := s.bus) cascade (.of_eq (control_formHumidity _)) rfl rfl rfl id
    (fun bounded => formHumidity_bounded (s := { s with humidity := hum }) bounded) ?_
  rintro ⟨⟨d, handed, flow, formed, same⟩, unjudged⟩
  refine ⟨formHumidity_current ?_ handed (level.trans flow) (same.trans h.symm), formHumidity_quiet (quiet unjudged)⟩
  exact d

theorem humidityMinute_preserves (s : State) : Preserves s (humidityMinute s) := by
  unfold humidityMinute
  dsimp only
  rw [reportAll_humidity]
  refine (reportAll_preserves _ s).trans (formHumidity_preserves _ (by simp) (by simp) fun quiet k listed unjudged => ?_)
  have known : (s.bus.slots.get k).state = .empty ∨ (s.bus.slots.get k).state = .enrolling := by simpa using unjudged
  have was := quiet k listed unjudged
  simpa [humidMinuteSlot_quiet _ known] using was

/-! ### LEVEL SET and RESUME -/

theorem control_tellLevelFlow (s : State) : control (tellLevelFlow s) = control s := control_formHumidity _

/-- The humidity response told of the level flow of the new level, and D recomputed (R54, R60). -/
theorem levelTold_preserves {s : State} (set : Settings) (level : Level) (fHmin : set.fHmin = s.settings.fHmin)
    (aMax : set.aMax = s.settings.aMax) (hMax : set.hMax = s.settings.hMax)
    (threshold : set.threshold = s.settings.threshold) (slots : set.slots = s.settings.slots)
    (clamp : clampOrdered s.settings → clampOrdered set) :
    Preserves s (recomputeDemand (tellLevelFlow { s with settings := set, demand := { s.demand with level := level } })) := by
  obtain ⟨_, _, cascade⟩ := formHumidity_cascade
    { s with
      settings := set, demand := { s.demand with level := level }
      humidity := { s.humidity with levelFlow := levelFlow set level } }
  have recomputed (u : State) : Cascade True u (recomputeDemand u) :=
    recompute_cascade u.demand rfl rfl rfl rfl
  refine .of_inputs (set := set) (b := s.bus) (cascade.trans (recomputed _)) (.of_eq ?_) fHmin aMax threshold ?_ ?_ ?_
  · refine (control_recomputeDemand _).trans ((control_tellLevelFlow _).trans ?_)
    simp [control, anyLoopFailed, hMax]
  · exact slotsConsistent_settings slots
  · rintro ⟨ordered, _⟩
    refine recomputeDemand_bounded ?_
    have sets : allSettings (tellLevelFlow { s with settings := set, demand := { s.demand with level := level } }) =
        allSettings { s with settings := set } := by simp [allSettings]
    rw [sets]
    exact allSettings_settings clamp ordered
  · rintro ⟨⟨_, handed, _, _, same⟩, quiet⟩
    refine ⟨formed_recomputed_current handed rfl same, ?_⟩
    exact (recomputed _).keeps Beat.quiet (formHumidity_quiet (s := { s with
      settings := set, demand := { s.demand with level := level }
      humidity := { s.humidity with levelFlow := levelFlow set level } }) quiet)

theorem runStateForLevel_keeps {level : Level} {s : State} :
    Keeps (control s) (control (changeRunState (runStateForLevel level s.demand.runState) s)) := by
  have moves (live : s.demand.runState = .run ∨ s.demand.runState = .rest) :
      Keeps (control s) (control (changeRunState (if level = .off then .rest else .run) s)) := by
    refine ventilate_keeps ?_ (.inr live)
    split <;> simp
  cases state : s.demand.runState with
  | run => exact moves (.inl state)
  | rest => exact moves (.inr state)
  | startup | frostStop | smokeStop | faultStop =>
    refine .of_eq ?_
    unfold changeRunState
    rw [changeRunStateWith_same (by rw [state]; rfl)]

theorem setLevel_preserves (level : Level) (s : State) : Preserves s (setLevel level s) := by
  unfold setLevel
  dsimp only
  refine .ite (fun _ => .refl s) fun _ => ?_
  refine (levelTold_preserves s.settings level rfl rfl rfl rfl rfl id).trans ?_
  exact .of_cascade (changeRunState_cascade _ _) runStateForLevel_keeps

theorem serveLevelSet_preserves (level : Byte) (s : State) : Preserves s (serveLevelSet level s).2 := by
  unfold serveLevelSet
  split
  · exact setLevel_preserves _ s
  · exact .refl s

theorem orderOut_offered (l : LoopRec) : (orderOut l).offered = l.offered := by
  unfold orderOut
  split <;> rfl

theorem orderOut_free (l : LoopRec) : (orderOut l).state ≠ .failed := by
  unfold orderOut
  split
  · simp [stopped]
  · assumption

theorem control_orderOutLoop (x : Stream) (s : State) :
    control (orderOutLoop x s) = { control s with failed := anyLoopFailed (setLoop x (orderOut (s.loops.get x)) s) } := by
  unfold orderOutLoop
  dsimp only
  rw [control_reportLoopChange, control_setLoop (orderOut_offered _)]

theorem orderOutLoop_loops (x : Stream) (s : State) :
    (orderOutLoop x s).loops = s.loops.set x (orderOut (s.loops.get x)) := by
  simp [orderOutLoop]

/-- Both loops ordered out of FAILED (R53). -/
def orderedOut (s : State) : State := orderOutLoop .extract (orderOutLoop .supply s)

theorem orderedOut_loops (s : State) : (orderedOut s).loops = ⟨orderOut s.loops.supply, orderOut s.loops.extract⟩ := by
  simp [orderedOut, orderOutLoop_loops]
  rfl

theorem orderedOut_free (s : State) : anyLoopFailed (orderedOut s) = false := by
  simp [anyLoopFailed, orderedOut_loops, orderOut_free]

theorem control_orderedOut (s : State) : control (orderedOut s) = { control s with failed := false } := by
  have free := orderedOut_free s
  have viewed : control (orderedOut s) = { control s with failed := (control (orderedOut s)).failed } := by
    unfold orderedOut
    rw [control_orderOutLoop, control_orderOutLoop]
  rw [viewed]
  exact congrArg (fun b => ({ control s with failed := b } : Control)) free

theorem smokeSource_preserves (source : Option Line) (s : State) :
    Preserves s { s with demand := { s.demand with smokeSource := source } } :=
  .of_view (demand_cascade ⟨rfl, rfl, rfl, rfl, rfl, rfl, rfl⟩) rfl

theorem serveResume_preserves (s : State) : Preserves s (serveResume s).2 := by
  unfold serveResume
  split
  · rename_i smoke
    split
    · refine (smokeSource_preserves none s).trans (.of_cascade (changeRunState_cascade _ _) ?_)
      unfold afterSmoke
      by_cases failed : anyLoopFailed s = true
      · rw [if_pos failed]
        exact faultStop_keeps [] _
      · rw [if_neg failed]
        refine changeRunStateWith_keeps [] ?_ ?_ (by simp [smoke]) fun _ down => absurd down failed
        all_goals obtain rest | rest := ventilating_cases s <;> simp [rest]
    · exact .refl s
  · rename_i fault
    have ordered : Preserves s (orderedOut s) := by
      refine .of_cascade ((orderOutLoop_cascade _ _).trans (orderOutLoop_cascade _ _)) ?_
      rw [control_orderedOut]
      exact (control s).keeps_failed (by simp)
    have resumes := ventilating_cases (orderedOut s)
    show Preserves s (changeRunState (ventilating (orderedOut s)) (orderedOut s))
    generalize ventilating (orderedOut s) = rs at resumes ⊢
    refine ordered.trans (.of_cascade (changeRunState_cascade _ _) ?_)
    have run : (orderedOut s).demand.runState = .faultStop :=
      (congrArg Control.runState (control_orderedOut s)).trans fault
    refine changeRunStateWith_keeps [] ?_ ?_ (by simp [run]) fun _ down => absurd down (by simp [orderedOut_free])
    all_goals obtain rfl | rfl := resumes <;> simp
  all_goals exact .refl s

end Sys2Proof.Machine
end

section
/-! The slot table keeps the properties: enrolment, drop, and the end of a poll. -/

namespace Sys2Proof.Machine

theorem mem_slots (k : Slot) : k ∈ Slot.all := by
  cases k <;> decide

theorem slots_nodup : Slot.all.Nodup := by decide

/-- No two entries of a set hold one address (R137). -/
def DistinctAddresses (set : Settings) : Prop :=
  ∀ i j e e', set.slots.get i = some e → set.slots.get j = some e' → e.address = e'.address → i = j

theorem enrolledAddresses_nodup (set : Settings) : (enrolledAddresses set).Nodup ↔ DistinctAddresses set := by
  have addresses : enrolledAddresses set = Slot.all.filterMap fun k => (set.slots.get k).map SlotEntry.address := by
    simp [enrolledAddresses, List.map_filterMap]
  rw [addresses, List.Nodup, List.pairwise_filterMap]
  constructor
  · intro apart i j e e' first second same
    by_contra other
    have symmetric : Std.Symm fun a a' : Slot => ∀ b, (set.slots.get a).map SlotEntry.address = some b →
        ∀ b', (set.slots.get a').map SlotEntry.address = some b' → b ≠ b' :=
      ⟨fun a a' h b hb b' hb' => (h b' hb' b hb).symm⟩
    exact apart.forall (mem_slots i) (mem_slots j) other e.address (by simp [first]) e'.address
      (by simp [second]) same
  · intro distinct
    refine slots_nodup.pairwise_of_forall_ne fun i _ j _ other b first b' second same => other ?_
    obtain ⟨e, found, rfl⟩ := Option.map_eq_some_iff.mp first
    obtain ⟨e', found', rfl⟩ := Option.map_eq_some_iff.mp second
    exact distinct i j e e' found found' same

/-- The slot table and the working set, slot by slot. -/
theorem slotsConsistent_iff (s : State) : SlotsConsistent s ↔
    (∀ set ∈ allSettings s, DistinctAddresses set) ∧ ∀ k, (s.settings.slots.get k).isSome = occupied s k := by
  simp only [SlotsConsistent, enrolledAddresses_nodup, mem_slots, true_implies]

/-! ### Enrolment -/

/-- The table of an occupied slot and the working set, replaced together for one slot (R137, R138). -/
theorem slotsConsistent_entry {s : State} (k : Slot) (e : Option SlotEntry) (r : SlotRec)
    (agree : e.isSome = (r.state != .empty))
    (fresh : ∀ entry, e = some entry → ∀ j entry', j ≠ k → s.settings.slots.get j = some entry' →
      entry'.address ≠ entry.address)
    (consistent : SlotsConsistent s) : SlotsConsistent (setSlotEntry k e (setSlot k r s)) := by
  rw [slotsConsistent_iff] at consistent ⊢
  obtain ⟨distinct, shown⟩ := consistent
  refine ⟨allSettings_settings (s := setSlot k r s) (P := DistinctAddresses) (fun old => ?_) distinct, fun j => ?_⟩
  · intro i j entry entry' first second same
    simp only [setSlot_settings, PerSlot.get_set] at first second
    split at first
    · split at second
      · simp_all
      · exact absurd same.symm (fresh entry first j entry' ‹_› second)
    · split at second
      · exact absurd same (fresh entry' second i entry ‹_› first)
      · exact old i j entry entry' first second same
  · simp only [setSlotEntry_settings_slots, setSlot_settings, occupied, setSlotEntry_bus, setSlot_bus_slots, PerSlot.get_set]
    split
    · exact agree
    · exact shown j

theorem humidityDemand_of_counts {s t : State}
    (counts : ∀ j, countsTowardH (t.humidity.slots.get j) = countsTowardH (s.humidity.slots.get j))
    (increments : ∀ j, slotIncrement t j = slotIncrement s j) (ceiling : t.settings.humidCeiling = s.settings.humidCeiling)
    (level : t.humidity.levelFlow = s.humidity.levelFlow) : humidityDemand t = humidityDemand s := by
  simp only [humidityDemand, counts, ceiling, level, funext increments]

theorem slotIncrement_of_uncounted {s : State} {k : Slot} (quiet : countsTowardH (s.humidity.slots.get k) = false) :
    slotIncrement s k = 0 := by
  simp [slotIncrement, quiet]

theorem atReset_uncounted : countsTowardH HumidRec.atReset = false := rfl

theorem incrementOf_setSlotEntry (k : Slot) (e : Option SlotEntry) (s : State) (r : RoomKind) :
    incrementOf (setSlotEntry k e s).settings r = incrementOf s.settings r := by
  cases r <;> rfl

/-- The records of the humidity response replaced by records of the same H (R154). -/
theorem demandCurrent_humidity {s : State} (hum : Humidity) (h : hum.h = s.humidity.h)
    (level : hum.levelFlow = s.humidity.levelFlow)
    (formed : humidityDemand { s with humidity := hum } = humidityDemand s) (current : DemandCurrent s) :
    DemandCurrent { s with humidity := hum } := by
  obtain ⟨d, handed, flow, was, same⟩ := current
  exact ⟨d, handed, level.trans flow, (h.trans was).trans formed.symm, same.trans h.symm⟩

/-- An entry of a slot whose record adds nothing to H touches no input of D (R59, R154). -/
theorem setSlotEntry_current {s : State} (k : Slot) (e : Option SlotEntry) (b : Bus)
    (quiet : countsTowardH (s.humidity.slots.get k) = false) (current : DemandCurrent s) :
    DemandCurrent { setSlotEntry k e s with bus := b } := by
  refine demandCurrent_settings (s := { s with bus := b }) (fun l => by cases l <;> rfl) rfl rfl rfl ?_ current
  refine humidityDemand_of_counts (fun _ => rfl) (fun j => ?_) rfl rfl
  by_cases same : j = k
  · subst same
    simp [slotIncrement, quiet]
  · simp [slotIncrement, PerSlot.get_set_other, same, incrementOf_setSlotEntry]

theorem setSlotEntry_bounded {s : State} (k : Slot) (e : Option SlotEntry) (b : Bus) (bounded : DemandBounded s) :
    DemandBounded { setSlotEntry k e s with bus := b } :=
  demandBounded_settings (s := { s with bus := b }) rfl rfl bounded

theorem takeSlot_preserves {k : Slot} {address : Nat} {kind : RoomKind} {s : State} (empty : occupied s k = false)
    (free : addressHeld s address = false) : Preserves s (takeSlot k address kind s) := by
  have gone : (s.bus.slots.get k).state = .empty := by simpa [occupied] using empty
  refine .of_inputs (hum := s.humidity) (d := s.demand) .refl (.of_eq rfl) rfl rfl rfl (fun consistent => ?_)
    (setSlotEntry_bounded k _ _) ?_
  · refine slotsConsistent_entry k _ _ rfl ?_ consistent
    rintro entry same j entry' _ found held
    cases same
    have shown := ((slotsConsistent_iff s).mp consistent).2 j
    rw [found] at shown
    simp only [addressHeld, List.any_eq_false] at free
    have unheld := free j (mem_slots j)
    simp [← shown, slotAddress, found, held] at unheld
  · rintro ⟨current, quiet⟩
    refine ⟨setSlotEntry_current k _ _ (quiet k (mem_slots k) (.inl gone)) current, fun j listed unjudged => ?_⟩
    by_cases same : j = k
    · subst same
      exact quiet j listed (.inl gone)
    · refine quiet j listed ?_
      simpa [takeSlot, PerSlot.get_set_other, same] using unjudged

theorem serveNodeEnrol_preserves (address kind : Byte) (s : State) : Preserves s (serveNodeEnrol address kind s).2 := by
  unfold serveNodeEnrol
  split
  · split
    · exact .refl s
    split
    · exact .refl s
    rename_i free
    split
    · rename_i k first
      have empty := List.find?_some first
      exact takeSlot_preserves (by simpa using empty) (by simpa using free)
    · exact .refl s
  · exact .refl s

/-! ### A slot emptied -/

/-- A slot emptied whose record adds nothing to H touches no input of D (R154). -/
theorem uncounted_emptied_current {s : State} {k : Slot} (plain : countsTowardH (s.humidity.slots.get k) = false)
    (current : DemandCurrent s) :
    DemandCurrent (setHumid k HumidRec.atReset (setSlotEntry k none (setSlot k SlotRec.cleared s))) := by
  refine demandCurrent_humidity (s := setSlotEntry k none (setSlot k SlotRec.cleared s)) _ rfl rfl ?_
    (setSlotEntry_current k none _ plain current)
  refine humidityDemand_of_counts (fun j => ?_) (fun j => ?_) rfl rfl
  all_goals by_cases same : j = k
  · subst same
    simp [plain, atReset_uncounted]
  · simp [PerSlot.get_set_other, same]
  · subst same
    simp [slotIncrement, plain, atReset_uncounted]
  · simp [slotIncrement, PerSlot.get_set_other, same]

theorem emptySlot_current {s : State} (k : Slot) (current : DemandCurrent s) : DemandCurrent (emptySlot k s) := by
  unfold emptySlot humidityEmptied
  dsimp only
  split
  · obtain ⟨d, handed, flow, _, same⟩ := current
    exact formHumidity_current d handed flow same
  next uncounted => exact uncounted_emptied_current (by simpa using uncounted) current

theorem emptySlot_preserves (k : Slot) (s : State) : Preserves s (emptySlot k s) := by
  have emptied (consistent : SlotsConsistent s) :
      SlotsConsistent (setHumid k HumidRec.atReset (setSlotEntry k none (setSlot k SlotRec.cleared s))) :=
    slotsConsistent_entry k none SlotRec.cleared rfl (by simp) consistent
  have quieted (quiet : UnjudgedSlotsQuiet s) :
      UnjudgedSlotsQuiet (setHumid k HumidRec.atReset (setSlotEntry k none (setSlot k SlotRec.cleared s))) := by
    intro j listed unjudged
    by_cases same : j = k
    · subst same
      simp [atReset_uncounted]
    · have was := quiet j listed (by simpa [PerSlot.get_set_other, same] using unjudged)
      simpa [PerSlot.get_set_other, same] using was
  unfold emptySlot humidityEmptied
  dsimp only
  refine .ite (fun counted => ?_) fun uncounted => ?_
  · obtain ⟨_, _, cascade⟩ := formHumidity_cascade
      (setHumid k HumidRec.atReset (setSlotEntry k none (setSlot k SlotRec.cleared s)))
    refine .of_inputs cascade (.of_eq ((control_formHumidity _).trans rfl)) rfl rfl rfl emptied
      (fun bounded => formHumidity_bounded (s := setHumid k HumidRec.atReset (setSlotEntry k none (setSlot k SlotRec.cleared s)))
        (setSlotEntry_bounded k none (setSlot k SlotRec.cleared s).bus bounded)) ?_
    rintro ⟨⟨d, handed, flow, _, same⟩, quiet⟩
    exact ⟨formHumidity_current d handed flow same, formHumidity_quiet (quieted quiet)⟩
  · refine .of_inputs (d := s.demand) .refl (.of_eq rfl) rfl rfl rfl emptied
      (fun bounded => setSlotEntry_bounded k none (setSlot k SlotRec.cleared s).bus bounded) ?_
    rintro ⟨current, quiet⟩
    exact ⟨uncounted_emptied_current (by simpa using uncounted) current, quieted quiet⟩

/-! ### Polls -/

/-- The round, the poll period and the bytes sent are read by no property. -/
theorem round_preserves {s : State} (b : Bus) (slots : b.slots = s.bus.slots) : Preserves s { s with bus := b } :=
  .bus b (fun _ _ => by rw [slots]) fun _ _ => by rw [slots]; exact id

theorem pollPeriodStart_preserves (s : State) : Preserves s (pollPeriodStart s) := round_preserves _ rfl

theorem sendPoll_preserves (s : State) : Preserves s (sendPoll s) := by
  unfold sendPoll
  split
  · split
    · exact .refl s
    · exact round_preserves _ rfl
  · exact .refl s

theorem discardPoll_preserves (k : Slot) (s : State) : Preserves s (discardPoll k s) := by
  unfold discardPoll
  split
  · split
    · exact round_preserves _ rfl
    · exact .refl s
  · exact .refl s

theorem serveNodeDrop_preserves (slot : Byte) (s : State) : Preserves s (serveNodeDrop slot s).2 := by
  unfold serveNodeDrop
  split
  · split
    · exact (discardPoll_preserves _ s).trans (emptySlot_preserves _ _)
    · exact .refl s
  · exact .refl s

theorem serveNodeRead_preserves (slot : Byte) (s : State) : Preserves s (serveNodeRead slot s).2 := by
  unfold serveNodeRead
  split <;> exact .refl s

theorem serveInjectSlot_preserves (slot count : Byte) (s : State) : Preserves s (serveInjectSlot slot count s).2 := by
  unfold serveInjectSlot
  split
  · split
    · exact .refl s
    split
    · exact setSlot_preserves Iff.rfl id
    · exact .refl s
  · exact .refl s

theorem holdExpired_preserves (k : Slot) (s : State) : Preserves s (holdExpired k s) := by
  unfold holdExpired
  dsimp only
  refine .ite (fun _ => .refl s) fun _ => .ite (fun _ => ?_) fun _ => ?_
  · exact setSlot_preserves Iff.rfl id
  · exact setSlot_preserves Iff.rfl id

/-- A miss of an occupied slot (R133). -/
theorem missSlot_preserves {k : Slot} {r : SlotRec} {s : State} (state : r.state = (s.bus.slots.get k).state)
    (present : occupied s k = true) : Preserves s (missSlot k r s) := by
  have kept (q : SlotRec) (same : q.state = r.state) : Preserves s (setSlot k q s) :=
    setSlot_preserves (by rw [same, state]) (by rw [same, state]; exact id)
  have alive : (s.bus.slots.get k).state ≠ .empty := by simpa [occupied] using present
  unfold missSlot
  refine .ite (fun _ => ?_) fun _ => kept _ rfl
  split
  case h_1 | h_2 =>
    refine .trans ?_ (report_preserves _ _ _)
    exact setSlot_preserves (by simp [enterSilent, alive]) (by simp [enterSilent])
  case h_3 => exact (report_preserves _ _ s).trans (emptySlot_preserves _ _)
  case h_4 | h_5 => exact kept _ rfl

theorem goodSlot_preserves {k : Slot} {answer : List BusByte} {r : SlotRec} {s : State}
    (present : occupied s k = true) : Preserves s (goodSlot k answer r s) := by
  have alive : (s.bus.slots.get k).state ≠ .empty := by simpa [occupied] using present
  have faulty : Preserves s (setSlot k (faultyAnswer s.events.seconds r) s) :=
    setSlot_preserves (by simp [faultyAnswer, alive]) (by simp [faultyAnswer])
  unfold goodSlot
  dsimp only
  refine .ite (fun _ => .ite (fun _ => faulty) fun _ => faulty.trans (report_preserves _ _ _)) fun _ => ?_
  exact setSlot_preserves (by simp [soundAnswer, alive]) (by simp [soundAnswer])

theorem applyOutcome_preserves {p : Poll} {s : State} (present : occupied s p.slot = true) :
    Preserves s (applyOutcome p s) := by
  unfold applyOutcome
  dsimp only
  split
  · exact goodSlot_preserves present
  · refine (report_preserves _ _ s).trans (missSlot_preserves (by simp) ?_)
    simpa [occupied] using present
  all_goals exact missSlot_preserves rfl present

theorem endPoll_preserves (p : Poll) (s : State) : Preserves s (endPoll p s) := by
  unfold endPoll nextPoll
  refine .trans (t := if p.discard || !occupied s p.slot then s else applyOutcome p s) ?_ (round_preserves _ rfl)
  refine .ite (fun _ => .refl s) fun judged => applyOutcome_preserves ?_
  simp only [Bool.or_eq_true, not_or, Bool.not_eq_true, Bool.not_eq_false'] at judged
  exact judged.2

theorem receiveBusByte_preserves (s : State) (b : BusByte) : Preserves s (receiveBusByte s b) := by
  unfold receiveBusByte
  split
  · dsimp only
    split
    · exact .refl s
    split
    · exact endPoll_preserves _ s
    · exact round_preserves _ rfl
  · exact .refl s

theorem answer_preserves (bytes : List BusByte) (s : State) : Preserves s (bytes.foldl receiveBusByte s) := by
  induction bytes generalizing s with
  | nil => exact .refl s
  | cons b bytes ih => exact (receiveBusByte_preserves s b).trans (ih _)

theorem closeWindow_preserves (s : State) : Preserves s (closeWindow s) := by
  unfold closeWindow
  split
  · split
    · exact endPoll_preserves _ s
    · exact .refl s
  · exact .refl s

end Sys2Proof.Machine
end

section
/-! The lines, the event unit, the settings store and the link port keep the properties. -/

namespace Sys2Proof.Machine

/-! ### The lines -/

theorem advanceTimers_preserves (s : State) : Preserves s (advanceTimers s) := by
  refine .of_view (?_ : Cascade True s (advanceTimers s)) (control_congr rfl rfl rfl rfl rfl rfl rfl rfl rfl rfl rfl)
  have controller : Cascade True s { s with demand := (advanceTimers s).demand } :=
    demand_cascade ⟨rfl, rfl, rfl, rfl, rfl, rfl, rfl⟩
  have guard : Cascade True { s with demand := (advanceTimers s).demand }
      { s with demand := (advanceTimers s).demand, frost := (advanceTimers s).frost } :=
    frost_cascade _ rfl rfl rfl rfl rfl rfl rfl
  exact (controller.trans guard).trans (filter_cascade _ rfl rfl)

theorem pullSwitchReport_preserves (c : LineConfig) (before after : LineRec) (s : State) :
    Preserves s (pullSwitchReport c before after s) := by
  unfold pullSwitchReport
  split
  · split
    · exact setPullTimer_preserves _ s
    · exact .refl s
  · exact .refl s

theorem smokeActiveReport_preserves (l : Line) (s : State) : Preserves s (smokeActiveReport l s) :=
  .of_cascade (smokeActiveReport_cascade l s) (smokeActiveReport_keeps l s)

theorem smokeInactiveReport_preserves (l : Line) (s : State) : Preserves s (smokeInactiveReport l s) :=
  .of_view (smokeInactiveReport_cascade l s) (control_smokeInactiveReport l s)

theorem smokeReport_preserves (c : LineConfig) (l : Line) (before after : LineRec) (s : State) :
    Preserves s (smokeReport c l before after s) := by
  unfold smokeReport
  split
  · split
    · split
      · exact smokeActiveReport_preserves l s
      split
      · exact smokeInactiveReport_preserves l s
      · exact .refl s
    · exact .refl s
  · exact .refl s

theorem inputReports_preserves (cfg : PerLine LineConfig) (before after : PerLine LineRec) (ls : List Line) (s : State) :
    Preserves s (ls.foldl (inputReport cfg before after) s) := by
  induction ls generalizing s with
  | nil => exact .refl s
  | cons l ls ih =>
    exact ((pullSwitchReport_preserves _ _ _ s).trans (smokeReport_preserves _ _ _ _ _)).trans (ih _)

theorem auxSample_preserves (pins : PerLine PinLevel) (s : State) : Preserves s (auxSample pins s) := by
  unfold auxSample
  dsimp only
  refine .trans ?_ (inputReports_preserves _ _ _ _ _)
  refine .trans ?_ (reportAll_preserves _ _)
  refine (advanceTimers_preserves s).trans (.lines { (advanceTimers s).lines with table := sampleLines pins s } rfl rfl)

theorem configureLine_preserves (l : Line) (c : LineConfig) (s : State) : Preserves s (configureLine l c s) := by
  have written : Preserves s (setLineConfig l c s) :=
    .settings ⟨rfl, rfl, fun k => by cases k <;> rfl, rfl, fun k => by cases k <;> rfl, rfl, rfl, rfl, rfl, rfl, rfl⟩
  have driven (r : LineRec) : Preserves s (setLine l r (setLineConfig l c s)) := written.trans (.lines _ rfl rfl)
  unfold configureLine
  dsimp only
  exact .ite (fun _ => .ite (fun _ => (driven _).trans (smokeInactiveReport_preserves _ _)) fun _ => driven _)
    fun _ => written

theorem serveLineSet_preserves (line function polarity edge : Byte) (s : State) :
    Preserves s (serveLineSet line function polarity edge s).2 := by
  unfold serveLineSet
  split
  · split
    · exact .refl s
    · exact configureLine_preserves _ _ s
  · exact .refl s

theorem serveLineWrite_preserves (line value : Byte) (s : State) : Preserves s (serveLineWrite line value s).2 := by
  unfold serveLineWrite
  split
  · exact .lines _ rfl rfl
  · exact .refl s

theorem serveLineRead_preserves (line : Byte) (s : State) : Preserves s (serveLineRead line s).2 := by
  unfold serveLineRead
  split <;> exact .refl s

/-! ### The event unit -/

/-- The event unit, the lines and the not-empty report changed. -/
theorem Preserves.of_events {s : State} (e : Events) (u : Lines) (k : Link) (heater : u.heater = s.lines.heater)
    (consistent : QueueBounded s ∧ AlarmFollows s →
      QueueBounded { s with events := e, lines := u, link := k } ∧ AlarmFollows { s with events := e, lines := u, link := k }) :
    Preserves s { s with events := e, lines := u, link := k } :=
  ⟨id, id, fun ⟨seen, output, hto, on⟩ => ⟨seen, output, hto, heater.trans on⟩, id, id, id, id, consistent, id⟩

theorem takeNotices_preserves (s : State) : Preserves s (takeNotices s) := by
  refine .of_events _ s.lines _ rfl ?_
  rintro ⟨⟨most, few, _, _⟩, alarm⟩
  have dropped : (s.events.queue.drop 4).Sublist s.events.queue := List.drop_sublist 4 _
  exact ⟨⟨(dropped.countP_le).trans most, (dropped.countP_le).trans few, rfl, rfl⟩, alarm⟩

theorem judgeSevere_eq (s : State) :
    judgeSevere s = { s with events := (judgeSevere s).events, lines := (judgeSevere s).lines } := by
  unfold judgeSevere
  split <;> rfl

theorem judgeSevere_heater (s : State) : (judgeSevere s).lines.heater = s.lines.heater := by
  unfold judgeSevere
  split <;> rfl

/-- The flags changed, and the severe summary judged again (R173, R174). -/
theorem flags_preserves (flags : BitVec 25) (s : State) :
    Preserves s (judgeSevere { s with events := { s.events with flags := flags } }) := by
  rw [judgeSevere_eq]
  refine .of_events _ _ s.link (judgeSevere_heater _) ?_
  rintro ⟨queue, _, follows⟩
  refine ⟨?_, ?_, ?_⟩
  · rw [judgeSevere_events]
    exact queue
  · rw [judgeSevere_events]
  · rw [judgeSevere_events]
    exact judgeSevere_alarm { s with events := { s.events with flags := flags } } follows

theorem clearFailReports_preserves (s : State) : Preserves s (clearFailReports s) := by
  have supply : Preserves s (setLoop .supply { s.loops.supply with failReport := false } s) :=
    setLoop_preserves rfl rfl rfl rfl
  refine supply.trans ?_
  exact setLoop_preserves (x := .extract) (l := { s.loops.extract with failReport := false }) rfl rfl rfl rfl

theorem clearFlags_preserves (kinds : BitVec 25) (s : State) : Preserves s (clearFlags kinds s) := by
  unfold clearFlags
  dsimp only
  split
  · exact (clearFailReports_preserves s).trans (flags_preserves _ _)
  · exact flags_preserves _ s

theorem serveFlagsClear_preserves (kinds : Word) (s : State) : Preserves s (serveFlagsClear kinds s).2 := by
  unfold serveFlagsClear
  split
  · exact .refl s
  · exact clearFlags_preserves _ s

theorem serveEventSet_preserves (code enable level : Byte) (s : State) :
    Preserves s (serveEventSet code enable level s).2 := by
  unfold serveEventSet
  split
  · split
    · exact .refl s
    · exact .settings ⟨rfl, rfl, fun k => by cases k <;> rfl, rfl, fun k => by cases k <;> rfl, rfl, rfl, rfl, rfl, rfl, rfl⟩
  · exact .refl s

/-- Settings that change only figures that no property reads, but for the threshold, and NTF judged (R181). -/
theorem threshold_preserves (threshold : Nat) (s : State) :
    Preserves s (judgeNtf { s with settings := { s.settings with threshold := threshold } }) where
  demandBounded := demandBounded_settings (set := { s.settings with threshold := threshold }) rfl rfl
  demandCurrent := And.imp_left (demandCurrent_settings (set := { s.settings with threshold := threshold })
    (fun k => by cases k <;> rfl) rfl rfl rfl (humidityDemand_settings (fun k => by cases k <;> rfl) rfl rfl))
  heat := heatInterlocked_settings (set := { s.settings with threshold := threshold }) rfl
  still := id
  allowance := id
  frost := frostConsistent_settings (set := { s.settings with threshold := threshold }) rfl
  hold := id
  events := fun ⟨⟨most, few, _, held⟩, alarm⟩ => ⟨⟨most, few, rfl, held⟩, alarm⟩
  slots := And.imp_left (slotsConsistent_settings (set := { s.settings with threshold := threshold }) rfl)

theorem serveThresholdSet_preserves (threshold : Byte) (s : State) : Preserves s (serveThresholdSet threshold s).2 := by
  unfold serveThresholdSet
  split
  · exact .refl s
  · exact threshold_preserves _ s

/-! ### SETTING WRITE -/

theorem recomputed_cascade (s : State) : Cascade True s (recomputeDemand s) :=
  recompute_cascade s.demand rfl rfl rfl rfl

/-- Settings in which nothing changes that the heater, the allowance, the requested power, NTF and the slot table read. -/
structure SameOutside (a b : Settings) : Prop where
  fHmin : b.fHmin = a.fHmin
  aMax : b.aMax = a.aMax
  hMax : b.hMax = a.hMax
  threshold : b.threshold = a.threshold
  slots : b.slots = a.slots

theorem control_settings {s : State} {set : Settings} (hMax : set.hMax = s.settings.hMax) :
    control { s with settings := set } = control s := by
  simp [control, anyLoopFailed, hMax]

/-- F_min, F_max, F_ref or a level flow not in use written, and D recomputed (R60, R195). -/
theorem recomputed_preserves {s : State} {set : Settings} (same : SameOutside s.settings set)
    (clamp : clampOrdered s.settings → clampOrdered set)
    (level : levelFlow set s.demand.level = levelFlow s.settings s.demand.level)
    (increment : ∀ r, incrementOf set r = incrementOf s.settings r)
    (ceiling : set.humidCeiling = s.settings.humidCeiling) :
    Preserves s (recomputeDemand { s with settings := set }) := by
  refine .of_inputs (d := s.demand) (hum := s.humidity) (b := s.bus) (recomputed_cascade _) (.of_eq ?_) same.fHmin same.aMax
    same.threshold (slotsConsistent_settings same.slots) ?_ ?_
  · rw [control_recomputeDemand, control_settings same.hMax]
  · exact fun bounded => recomputeDemand_bounded (allSettings_settings clamp bounded.1)
  · rintro ⟨⟨_, handed, flow, formed, hHanded⟩, quiet⟩
    have h := humidityDemand_settings (s := s) increment ceiling same.slots
    refine ⟨recomputeDemand_current handed (flow.trans level.symm) (formed.trans h.symm) hHanded, ?_⟩
    exact (recomputed_cascade { s with settings := set }).keeps Beat.quiet quiet

/-- An increment or the humidity ceiling written, and H formed (R154, R195). -/
theorem formed_preserves {s : State} {set : Settings} (same : SameOutside s.settings set)
    (fMin : set.fMin = s.settings.fMin) (fMax : set.fMax = s.settings.fMax)
    (level : ∀ l, levelFlow set l = levelFlow s.settings l) (fRef : set.fRef = s.settings.fRef) :
    Preserves s (formHumidity { s with settings := set }) := by
  obtain ⟨_, _, cascade⟩ := formHumidity_cascade { s with settings := set }
  refine .of_inputs (set := set) (b := s.bus) cascade (.of_eq ?_) same.fHmin same.aMax same.threshold
    (slotsConsistent_settings same.slots) ?_ ?_
  · rw [control_formHumidity, control_settings same.hMax]
  · exact fun bounded => formHumidity_bounded (demandBounded_settings fMin fMax bounded)
  · rintro ⟨⟨d, handed, flow, _, hHanded⟩, quiet⟩
    have demand : demandOf { s with settings := set } = demandOf s := by
      have high : set.highFlow = s.settings.highFlow := level .high
      simp [demandOf, demandInput, levelFlowNow, boostFlow, pullDemand, level, fMin, fMax, fRef, high]
    exact ⟨formHumidity_current (d.trans demand.symm) handed (flow.trans (level _).symm) hHanded,
      formHumidity_quiet (s := { s with settings := set }) quiet⟩

/-- A_max, H_max or F_Hmin written, with what each does at its write (R71, R96, R75). -/
theorem Preserves.after_settings {s t : State} {set : Settings} (base : Preserves { s with settings := set } t)
    (same : Unread s.settings
      { set with fHmin := s.settings.fHmin, hMax := s.settings.hMax, aMax := s.settings.aMax })
    (heat : HeatInterlocked s → HeatInterlocked t) (allowance : AllowanceBounded s → AllowanceBounded t)
    (frost : FrostConsistent s → FrostConsistent t) : Preserves s t where
  demandBounded := fun bounded => base.demandBounded (demandBounded_settings same.fMin same.fMax bounded)
  demandCurrent := fun ⟨current, quiet⟩ => base.demandCurrent ⟨demandCurrent_settings
    (fun l => (by cases l <;> rfl : levelFlow set l = _).trans (same.level l)) same.fMin same.fMax same.fRef
    (humidityDemand_settings (fun r => (by cases r <;> rfl : incrementOf set r = _).trans (same.increment r))
      same.humidCeiling same.slots) current, quiet⟩
  heat := heat
  still := base.still
  allowance := allowance
  frost := frost
  hold := base.hold
  events := fun events => base.events (events_settings same.threshold events)
  slots := fun ⟨table, stores⟩ => base.slots ⟨slotsConsistent_settings same.slots table, stores⟩

theorem ceilingWritten_cascade (s : State) : Cascade True s (ceilingWritten s) := by
  unfold ceilingWritten
  dsimp only
  have lowered : Cascade True s { s with governor := { s.governor with allowance := s.settings.aMax } } :=
    .single (.governor _ rfl fun ⟨_, carry⟩ => ⟨le_rfl, carry⟩)
  exact .ite (fun _ => .ite (fun _ => lowered.trans (exhausted_cascade _)) fun _ => lowered) fun _ => .refl

theorem control_ceilingWritten (s : State) : control (ceilingWritten s) = control s := by
  unfold ceilingWritten
  dsimp only
  split
  · split
    · exact exhausted_control _
    · rfl
  · rfl

theorem ceilingWritten_allowance (s : State) :
    (ceilingWritten s).settings = s.settings
      ∧ (ceilingWritten s).governor = { s.governor with allowance := min s.settings.aMax s.governor.allowance } := by
  unfold ceilingWritten
  dsimp only
  split
  · rename_i above
    rw [Nat.min_eq_left above.le]
    split <;> simp
  · rename_i within
    rw [Nat.min_eq_right (Nat.le_of_not_lt within)]
    exact ⟨rfl, rfl⟩

theorem allowanceCeiling_preserves (aMax : Nat) (s : State) :
    Preserves s (ceilingWritten { s with settings := { s.settings with aMax := aMax } }) := by
  have base := Preserves.of_view (ceilingWritten_cascade { s with settings := { s.settings with aMax := aMax } })
    (control_ceilingWritten _)
  refine base.after_settings (by constructor <;> intros <;> rfl) ?_ ?_ ?_
  · exact fun heat => base.heat (heatInterlocked_settings rfl heat)
  · rintro ⟨_, carry⟩
    obtain ⟨settings, governor⟩ := ceilingWritten_allowance { s with settings := { s.settings with aMax := aMax } }
    exact ⟨by rw [settings, governor]; exact Nat.min_le_left _ _, by rw [governor]; exact carry⟩
  · exact fun frost => base.frost (frostConsistent_settings rfl frost)

theorem heaterMaximum_preserves (hMax : Nat) (s : State) :
    Preserves s (heaterMaximumWritten { s with settings := { s.settings with hMax := hMax } }) := by
  generalize hp : (if s.frost.mode = .blind then hMax / 2 else min s.frost.requested hMax) = p
  have within : p ≤ hMax := by
    rw [← hp]
    split
    · exact Nat.div_le_self _ _
    · exact Nat.min_le_right _ _
  have written : heaterMaximumWritten { s with settings := { s.settings with hMax := hMax } } =
      setRequested p { s with settings := { s.settings with hMax := hMax } } := by
    rw [← hp]
    rfl
  have cascade := setRequested_cascade (heat := True) p { s with settings := { s.settings with hMax := hMax } }
  have viewed : control (setRequested p { s with settings := { s.settings with hMax := hMax } }) =
      { control s with most := hMax, requested := p } := by
    rw [control_setRequested]
    rfl
  have frost : (control s).seen = (control s).runState ∧
      ((control s).mode = .preheat ∨ (control s).mode = .defrost → (control s).runState = .run) ∧
      ((control s).mode = .frostStop ↔ (control s).runState = .frostStop) ∧
      (asksNoPower (control s).mode → (control s).requested = 0) →
      (control (setRequested p { s with settings := { s.settings with hMax := hMax } })).Frost := by
    rintro ⟨seen, run, stop, power⟩
    rw [viewed]
    refine ⟨seen, run, stop, fun no => ?_, within⟩
    have awake : s.frost.mode ≠ .blind := by
      intro blind
      have asks : asksNoPower s.frost.mode := no
      simp [blind, asksNoPower] at asks
    have zero : s.frost.requested = 0 := power no
    rw [← hp, if_neg awake, zero, Nat.zero_min]
  rw [written]
  have base := Preserves.of_cascade cascade ⟨by rw [viewed]; exact id, fun ⟨seen, run, stop, power, _⟩ => frost ⟨seen, run, stop, power⟩,
    by rw [viewed]; exact id, by rw [viewed]; exact id⟩
  refine base.after_settings (by constructor <;> intros <;> rfl) ?_ ?_ ?_
  · rintro ⟨seen, _, flagged⟩
    refine ⟨?_, reevaluate_current _, cascade.keeps Beat.flagged flagged⟩
    simpa using seen
  · exact base.allowance
  · rw [frostConsistent_iff, frostConsistent_iff]
    exact fun ⟨⟨seen, run, stop, power, _⟩, reduction⟩ =>
      ⟨frost ⟨seen, run, stop, power⟩, cascade.keeps Beat.reduction reduction⟩

theorem interlockFlow_preserves (fHmin : Nat) (s : State) :
    Preserves s (reevaluate { s with settings := { s.settings with fHmin := fHmin } }) := by
  have cascade := reevaluate_cascade (heat := True) { s with settings := { s.settings with fHmin := fHmin } }
  have base := Preserves.of_view cascade (control_reevaluate _)
  refine base.after_settings (by constructor <;> intros <;> rfl) ?_ base.allowance base.frost
  rintro ⟨seen, _, flagged⟩
  refine ⟨?_, reevaluate_current _, cascade.keeps Beat.flagged flagged⟩
  simpa using seen

/-- A level flow written (R54, R57). -/
theorem levelEntry_preserves {s : State} {set : Settings} (l : Level) (same : SameOutside s.settings set)
    (clamp : clampOrdered s.settings → clampOrdered set) (level : ∀ m, m ≠ l → levelFlow set m = levelFlow s.settings m)
    (increment : ∀ r, incrementOf set r = incrementOf s.settings r)
    (ceiling : set.humidCeiling = s.settings.humidCeiling) :
    Preserves s (levelEntryWritten l { s with settings := set }) := by
  unfold levelEntryWritten
  by_cases current : l = s.demand.level
  · rw [if_pos current]
    exact levelTold_preserves set s.demand.level same.fHmin same.aMax same.hMax same.threshold same.slots clamp
  · rw [if_neg current]
    exact recomputed_preserves same clamp (level _ (Ne.symm current)) increment ceiling

/-- A write that is accepted leaves F_min not above F_max (R60). -/
theorem clampWritten {s : State} {i : SettingId} {v : Int} (fits : valueRefused s.settings i v = false)
    (ordered : clampOrdered s.settings) : clampOrdered (settingPut s.settings i v) := by
  simp only [valueRefused, Bool.or_eq_false_iff] at fits
  obtain ⟨inRange, uncrossed⟩ := fits
  cases i with
  | fMin =>
    simp [crossesClamp] at uncrossed
    simp only [clampOrdered, settingPut]
    omega
  | fMax =>
    simp [crossesClamp] at uncrossed
    simp only [clampOrdered, settingPut]
    omega
  | increment r => cases r <;> exact ordered
  | _ => exact ordered

/-- A write of no level flow leaves the level table, and one of an entry leaves the others (R54). -/
theorem levelFlow_settingPut {i : SettingId} {m : Level} (other : levelOfSetting i ≠ some m) (set : Settings) (v : Int) :
    levelFlow (settingPut set i v) m = levelFlow set m := by
  cases i with
  | awayFlow | lowFlow | normalFlow | highFlow => cases m <;> simp_all [levelOfSetting, levelFlow, settingPut]
  | increment r => cases r <;> cases m <;> rfl
  | _ => cases m <;> rfl

/-- A write of another setting than a room kind's increment leaves it (R154). -/
theorem incrementOf_settingPut {i : SettingId} {r : RoomKind} (other : i ≠ .increment r) (set : Settings) (v : Int) :
    incrementOf (settingPut set i v) r = incrementOf set r := by
  cases i with
  | increment q => cases q <;> cases r <;> simp_all [incrementOf, settingPut, putIncrement]
  | _ => cases r <;> rfl

theorem settingWritten_preserves {s : State} {i : SettingId} {v : Int} (fits : valueRefused s.settings i v = false) :
    Preserves s (settingWritten i { s with settings := settingPut s.settings i v }) := by
  have clamp := clampWritten (s := s) fits
  have levels (l : Level) (same : SameOutside s.settings (settingPut s.settings i v)) (entry : levelOfSetting i = some l)
      (plain : ∀ r, i ≠ .increment r)
      (ceiling : (settingPut s.settings i v).humidCeiling = s.settings.humidCeiling) :
      Preserves s (settingWritten i { s with settings := settingPut s.settings i v }) := by
    unfold settingWritten
    rw [entry]
    exact levelEntry_preserves l same clamp
      (fun m no => levelFlow_settingPut (by rw [entry]; simpa using Ne.symm no) _ _)
      (fun r => incrementOf_settingPut (plain r) _ _) ceiling
  cases i with
  | awayFlow | lowFlow | normalFlow | highFlow => exact levels _ ⟨rfl, rfl, rfl, rfl, rfl⟩ rfl (by simp) rfl
  | fMin | fMax | fRef =>
    exact recomputed_preserves ⟨rfl, rfl, rfl, rfl, rfl⟩ clamp (levelFlow_settingPut (by simp [levelOfSetting]) _ _)
      (fun r => incrementOf_settingPut (by simp) _ _) rfl
  | aMax => exact allowanceCeiling_preserves _ s
  | hMax => exact heaterMaximum_preserves _ s
  | fHmin => exact interlockFlow_preserves _ s
  | increment r =>
    refine formed_preserves ?_ ?_ ?_ (fun l => levelFlow_settingPut (by simp [levelOfSetting]) _ _) ?_
    · cases r <;> exact ⟨rfl, rfl, rfl, rfl, rfl⟩
    all_goals cases r <;> rfl
  | humidCeiling =>
    exact formed_preserves ⟨rfl, rfl, rfl, rfl, rfl⟩ rfl rfl (fun l => levelFlow_settingPut (by simp [levelOfSetting]) _ _) rfl
  | threshold => exact threshold_preserves _ s
  | _ =>
    exact .settings ⟨rfl, rfl, fun l => levelFlow_settingPut (by simp [levelOfSetting]) _ _, rfl,
      fun r => incrementOf_settingPut (by simp) _ _, rfl, rfl, rfl, rfl, rfl, rfl⟩

theorem serveSettingWrite_preserves (id : Half) (value : Word) (s : State) :
    Preserves s (serveSettingWrite id value s).2 := by
  unfold serveSettingWrite
  split
  · split
    · exact .refl s
    split
    · exact .refl s
    · rename_i fits _
      exact settingWritten_preserves (by simpa using fits)
  · exact .refl s

theorem serveSettingRead_preserves (id : Half) (s : State) : Preserves s (serveSettingRead id s).2 := by
  unfold serveSettingRead
  split <;> exact .refl s

/-! ### The settings store -/

/-- The stores replaced by images that the part held already, or by its working set. -/
theorem Preserves.of_store {s : State} (st : SettingsStore)
    (held : ∀ set ∈ storedImages st, set ∈ allSettings s)
    (banks : BanksConsistent s → BanksConsistent { s with store := st }) : Preserves s { s with store := st } := by
  have all {P : Settings → Prop} (each : ∀ set ∈ allSettings s, P set) :
      ∀ set ∈ allSettings { s with store := st }, P set := by
    intro set listed
    obtain rfl | stored := List.mem_cons.mp listed
    · exact each _ (by simp [allSettings])
    · exact each _ (held _ stored)
  exact ⟨fun ⟨ordered, bounds⟩ => ⟨all ordered, bounds⟩, id, id, id, id, id, id, id,
    fun ⟨⟨distinct, agree⟩, consistent, store⟩ => ⟨⟨all distinct, agree⟩, banks consistent, store⟩⟩

theorem serveSettingsSave_preserves (s : State) : Preserves s (serveSettingsSave s).2 := by
  unfold serveSettingsSave
  split
  · exact .refl s
  · refine .of_store _ ?_ id
    intro set listed
    simp only [storedImages, List.mem_append, Option.toList, List.mem_singleton] at listed
    simp only [allSettings, storedImages, List.mem_cons, List.mem_append]
    tauto

/-- The images of a store in which one bank is written and the save has ended. -/
theorem storedImages_putBank {i : BankId} {b : Bank} {st : SettingsStore} {current : Option BankId} {set : Settings}
    (listed : set ∈ storedImages { putBank i b st with current := current, saving := none }) :
    set ∈ validImage b ∨ set ∈ storedImages st := by
  simp only [storedImages, List.mem_append] at listed ⊢
  cases i <;> simp only [putBank, Option.toList, List.not_mem_nil, or_false] at listed <;> tauto

theorem bankWritten_images {st : SettingsStore} {image : Settings} (saving : st.saving = some image) {set : Settings}
    (listed : set ∈ storedImages (bankWritten image st)) : set ∈ storedImages st := by
  obtain whole | stored := storedImages_putBank listed
  · have same : set = image := by
      rw [validImage, wholeBank_valid] at whole
      exact List.mem_singleton.mp whole
    simp [storedImages, saving, same]
  · exact stored

theorem storeCut_images {st : SettingsStore} {image : Settings} {touched : Bool} {set : Settings}
    (listed : set ∈ storedImages (storeCut touched image st)) : set ∈ storedImages st := by
  cases touched with
  | true =>
    obtain cut | stored := storedImages_putBank (current := (putBank (targetBank st) (cutBank image (nextGeneration st)) st).current) listed
    · simp [validImage] at cut
    · exact stored
  | false =>
    simp only [storeCut, Bool.false_eq_true, if_false, storedImages, Option.toList, List.append_nil, List.mem_append] at listed ⊢
    exact .inl listed

theorem saveComplete_preserves (s : State) : Preserves s (saveComplete s) := by
  unfold saveComplete
  split
  · rename_i image saving
    refine .trans (.of_store _ ?_ ?_) (report_preserves _ _ _)
    · exact fun set listed => List.mem_cons_of_mem _ (bankWritten_images saving listed)
    · intro _ none
      simp [bankWritten] at none
  · exact .refl s

/-- A cut save leaves no bank valid that was not (R197). -/
theorem storeCut_banks {s : State} (touched : Bool) (image : Settings) (banks : BanksConsistent s) :
    BanksConsistent { s with store := storeCut touched image s.store } := by
  intro none
  cases touched with
  | true =>
    have current : s.store.current = .none := by
      cases target : targetBank s.store <;> simpa [storeCut, putBank, target] using none
    obtain ⟨first, second⟩ := banks current
    have target : targetBank s.store = .bank0 := by simp [targetBank, current]
    simp [storeCut, target, putBank, second]
  | false => exact banks none

theorem cutSave_preserves (touched : Bool) (s : State) : Preserves s (cutSave touched s) := by
  unfold cutSave
  split
  · exact .of_store _ (fun set listed => List.mem_cons_of_mem _ (storeCut_images listed)) (storeCut_banks touched _)
  · exact .refl s

theorem finishSave_preserves (s : State) : Preserves s (finishSave s) := by
  unfold finishSave
  split
  · rename_i image saving
    refine .of_store _ (fun set listed => List.mem_cons_of_mem _ (bankWritten_images saving listed)) ?_
    intro _ none
    simp [bankWritten] at none
  · exact .refl s

theorem finishRewrite_preserves (s : State) : Preserves s (finishRewrite s) :=
  .ite (fun _ => .filter _ rfl fun _ => storeImage_length _) fun _ => .refl s

theorem storeAfterLoss_length (vbkHolds : Bool) (written : Nat) {f : FilterMonitor} (whole : f.store.length = 50) :
    (storeAfterLoss vbkHolds written f).length = 50 := by
  unfold storeAfterLoss
  split
  · exact blankStore_check.1
  split
  · exact cutImage_length _ _ _ whole
  · exact whole

theorem supplyLoss_preserves (vbkHolds : Bool) (written : Nat) (touched : Bool) (s : State) :
    Preserves s (supplyLoss vbkHolds written touched s) := by
  have cut := cutSave_preserves touched s
  refine cut.trans (.trans (.filter
    { (cutSave touched s).filter with
      store := storeAfterLoss vbkHolds written (cutSave touched s).filter, rewriting := false }
    rfl (storeAfterLoss_length vbkHolds written)) ?_)
  exact .outside false _

/-! ### The link port -/

theorem serveStateRead_preserves (page : Byte) (s : State) : Preserves s (serveStateRead page s).2 := by
  unfold serveStateRead
  split <;> exact .refl s

theorem serveTraceSet_preserves (period : Byte) (s : State) : Preserves s (serveTraceSet period s).2 := by
  unfold serveTraceSet
  split
  · exact .refl s
  · exact .link _ rfl

theorem serveInjectChannel_preserves (channel count : Byte) (s : State) :
    Preserves s (serveInjectChannel channel count s).2 := by
  unfold serveInjectChannel
  split
  · split
    · exact .measurement _
    · exact .refl s
  · exact .refl s

theorem serveInject_preserves (target count : Byte) (s : State) : Preserves s (serveInject target count s).2 := by
  unfold serveInject
  split
  · exact serveInjectChannel_preserves _ _ s
  split
  · exact serveInjectSlot_preserves _ _ s
  · exact .refl s

theorem serveByBlock_preserves (kind : Nat) (p : List Byte) (s : State) : Preserves s (serveByBlock kind p s).2 := by
  unfold serveByBlock
  split
  · exact serveStateRead_preserves _ s
  · exact serveFanRead_preserves _ s
  · exact serveLevelSet_preserves _ s
  · exact serveBoost_preserves _ _ s
  · exact serveHoldTake_preserves _ s
  · exact serveResume_preserves s
  · exact serveNodeEnrol_preserves _ _ s
  · exact serveNodeDrop_preserves _ s
  · exact serveNodeRead_preserves _ s
  · exact serveLineSet_preserves _ _ _ _ s
  · exact serveLineWrite_preserves _ _ s
  · exact serveLineRead_preserves _ s
  · exact takeNotices_preserves s
  · exact .refl s
  · exact serveFlagsClear_preserves _ s
  · exact serveEventSet_preserves _ _ _ s
  · exact serveThresholdSet_preserves _ s
  · exact serveTraceSet_preserves _ s
  · exact serveInject_preserves _ _ s
  · exact serveSettingWrite_preserves _ _ s
  · exact serveSettingRead_preserves _ s
  · exact serveSettingsSave_preserves s
  · exact .refl s

theorem handOver_preserves (r : ReplyTo) (p : List Byte) (s : State) : Preserves s (handOver r p s) := by
  unfold handOver
  split
  · exact handToFilter_preserves _ _ s
  · exact .ite (fun _ => answerTo_preserves _ _ _ s)
      fun _ => (serveByBlock_preserves _ _ s).trans (answerTo_preserves _ _ _ _)

theorem serveRequest_preserves (r : HeldRequest) (s : State) : Preserves s (serveRequest r s) := by
  have marked : Preserves s (judgeHoldMark r.flags s) := .ite (fun _ => .refl s) fun _ => releaseHold_preserves _ s
  unfold serveRequest
  dsimp only
  refine marked.trans ?_
  split
  · exact answerTo_preserves _ _ _ _
  · exact .ite (fun _ => answerTo_preserves _ _ _ _) fun _ => handOver_preserves _ _ _

theorem serveHeld_preserves (s : State) : Preserves s (serveHeld s) := by
  unfold serveHeld
  split
  · exact .trans (.link { s.link with holder := none } rfl) (serveRequest_preserves _ _)
  · exact .refl s

theorem discardFrame_preserves (next : Receiver) (s : State) : Preserves s (discardFrame next s) :=
  .ite (fun _ => .link _ rfl) fun _ => .trans (.link { s.link with receiver := next, checkErrorSeen := true } rfl)
    (report_preserves _ _ _)

theorem enterHolder_preserves (r : HeldRequest) (s : State) : Preserves s (enterHolder r s) := by
  unfold enterHolder
  dsimp only
  exact .ite (fun _ => .trans (.link { s.link with holder := some r, overrunSeen := true } rfl) (report_preserves _ _ _))
    fun _ => .link _ rfl

theorem validFrame_preserves (r : HeldRequest) (s : State) : Preserves s (validFrame r s) := by
  have idle : Preserves s { s with link := { s.link with receiver := .idle } } := .link _ rfl
  have heard (u : State) : Preserves u { u with demand := { u.demand with silence := 0 } } :=
    .of_view (demand_cascade ⟨rfl, rfl, rfl, rfl, rfl, rfl, rfl⟩) rfl
  have entered := (idle.trans (heard _)).trans (enterHolder_preserves r _)
  unfold validFrame
  dsimp only
  exact .ite (fun _ => idle) fun _ => .ite (fun _ => entered.trans (serveHeld_preserves _)) fun _ => entered

theorem receiveLinkByte_preserves (b : Byte) (stopGood : Bool) (s : State) :
    Preserves s (receiveLinkByte b stopGood s) := by
  unfold receiveLinkByte
  split
  · exact .ite (fun _ => .link _ rfl) fun _ => discardFrame_preserves _ s
  · exact .ite (fun _ => .link _ rfl) fun _ => .refl s
  · unfold frameByte
    dsimp only
    exact .ite (fun _ => discardFrame_preserves _ s) fun _ =>
      .ite (fun _ => .ite (fun _ => validFrame_preserves _ s) fun _ => discardFrame_preserves _ s) fun _ => .link _ rfl

theorem gapTimeout_preserves (s : State) : Preserves s (gapTimeout s) := by
  unfold gapTimeout
  split
  · exact discardFrame_preserves _ s
  all_goals exact .refl s

theorem huntTimeout_preserves (s : State) : Preserves s (huntTimeout s) := by
  unfold huntTimeout
  split
  · exact .link _ rfl
  all_goals exact .refl s

theorem frameReceived_preserves (kind tag flags : Byte) (payload : List Byte) (s : State) :
    Preserves s (frameReceived kind tag flags payload s) :=
  .ite (fun _ => discardFrame_preserves _ s) fun _ => validFrame_preserves _ s

theorem startTrace_preserves (n : Nat) (s : State) : Preserves s (startTrace n s) := .link _ rfl

theorem transmitterFreed_preserves (s : State) : Preserves s (transmitterFreed s) := by
  have idle : Preserves s { s with link := { s.link with tx := .idle } } := .link _ rfl
  unfold transmitterFreed
  dsimp only
  refine .ite (fun _ => idle) fun _ => .ite (fun _ => idle.trans (serveHeld_preserves _)) fun _ => ?_
  split
  · exact .trans (.link { s.link with tx := .idle, traceWait := none } rfl) (startTrace_preserves _ _)
  · exact idle

theorem transmitEnd_preserves (s : State) : Preserves s (transmitEnd s) := by
  unfold transmitEnd
  split
  · exact .refl s
  · exact .link _ rfl
  all_goals exact transmitterFreed_preserves s

theorem traceDue_preserves (s : State) : Preserves s (traceDue s) := by
  unfold traceDue
  dsimp only
  exact .ite (fun _ => .refl s) fun _ => .ite (fun _ => .trans
    (.link { s.link with traceNumber := nextTraceNumber s.link.traceNumber } rfl) (startTrace_preserves _ _))
    fun _ => .link _ rfl

theorem restartRow_preserves (s : State) : Preserves s (restartRow s) := .link _ rfl

end Sys2Proof.Machine
end

section
/-! Every command keeps the properties, and so does every step (O3 to O11). -/

namespace Sys2Proof.Machine

/-! ### Resets -/

theorem validImage_of_valid {b : Bank} (valid : bankValid b = true) : b.image ∈ validImage b := by
  simp [validImage, valid]

/-- A load takes the image of a valid bank, or the defaults (R197). -/
theorem loadedSettings_mem (st : SettingsStore) :
    loadedSettings st = Settings.defaults ∨ loadedSettings st ∈ validImage st.bank0 ++ validImage st.bank1 := by
  have loaded := loadBank_of_valid st _ _ rfl rfl
  unfold loadedSettings loadedImage
  rw [loaded]
  cases first : bankValid st.bank0 with
  | true =>
    cases second : bankValid st.bank1 with
    | true =>
      right
      cases laterBank st.bank0.generation st.bank1.generation <;> simp [chosenBank, bankOf, validImage, first, second]
    | false => exact .inr (by simp [chosenBank, bankOf, validImage, first])
  | false =>
    cases second : bankValid st.bank1 with
    | true => exact .inr (by simp [chosenBank, bankOf, validImage, second])
    | false => exact .inl rfl

/-- What a reset holds of settings it finds in the banks, the defaults apart (R197). -/
theorem allSettings_blocksReset {P : Settings → Prop} {kind : ResetKind} {s : State} (defaults : P Settings.defaults)
    (all : ∀ set ∈ allSettings s, P set) : ∀ set ∈ allSettings (blocksReset kind s), P set := by
  have stored (set : Settings) (listed : set ∈ validImage s.store.bank0 ++ validImage s.store.bank1) : P set :=
    all set (by simp only [allSettings, storedImages, List.mem_cons, List.mem_append] at listed ⊢; tauto)
  intro set listed
  have cases : set = loadedSettings s.store ∨ set ∈ validImage s.store.bank0 ++ validImage s.store.bank1 := by
    simpa [allSettings, storedImages, blocksReset, storeLoaded] using listed
  obtain rfl | held := cases
  · obtain same | held := loadedSettings_mem s.store
    · rw [same]
      exact defaults
    · exact stored _ held
  · exact stored _ held

theorem chosenBank_none {first second : Bool} {later : BankId} (none : chosenBank first second later = .none) :
    first = false ∧ second = false := by
  cases first <;> cases second <;> simp_all [chosenBank]

theorem blocksReset_blocks (kind : ResetKind) (s : State) :
    (blocksReset kind s).settings = loadedSettings s.store
      ∧ (blocksReset kind s).demand = demandAtReset (loadedSettings s.store)
      ∧ (blocksReset kind s).governor = governorAtReset (loadedSettings s.store)
      ∧ (blocksReset kind s).frost = frostAtReset (loadedSettings s.store)
      ∧ (blocksReset kind s).humidity = humidityAtReset (loadedSettings s.store) := by
  simp [blocksReset]

/-- D and H at their reset values are current, and no slot counts toward H (R73, R158). -/
theorem demandCurrent_atReset {set : Settings} {t : State} (settings : t.settings = set)
    (demand : t.demand = demandAtReset set) (frost : t.frost = frostAtReset set)
    (humidity : t.humidity = humidityAtReset set) : DemandCurrent t ∧ UnjudgedSlotsQuiet t := by
  have uncounted (k : Slot) : countsTowardH (t.humidity.slots.get k) = false := by
    simp [humidity, humidityAtReset, atReset_uncounted]
  refine ⟨⟨?_, ?_, ?_, ?_, ?_⟩, fun k _ _ => uncounted k⟩
  · simp [settings, demand, demandAtReset, demandAtResetD, demandOf, demandInput, levelFlowNow, boostFlow, pullDemand]
  · simp [demand, demandAtReset, frost, frostAtReset]
  · simp [humidity, settings, humidityAtReset, levelFlowNow, demand, demandAtReset]
  · simp [humidityDemand, uncounted]
    simp [humidity, humidityAtReset]
  · simp [humidity, demand, humidityAtReset, demandAtReset]

theorem allowanceBounded_atReset {set : Settings} {t : State} (settings : t.settings = set)
    (governor : t.governor = governorAtReset set) : AllowanceBounded t := by
  rw [AllowanceBounded, settings, governor]
  exact ⟨le_rfl, Nat.zero_le _⟩

theorem blocksReset_preserves (kind : ResetKind) (s : State) : Preserves s (blocksReset kind s) where
  demandBounded := by
    rintro ⟨ordered, _⟩
    have sets := allSettings_blocksReset (P := clampOrdered) (kind := kind) (by decide) ordered
    have loaded : clampOrdered (loadedSettings s.store) := sets _ (by simp [allSettings, blocksReset])
    refine ⟨sets, ?_⟩
    simp only [blocksReset, driveLines_frame, demandAtReset, demandAtResetD, clampNat]
    constructor <;> (repeat' split) <;> omega
  demandCurrent := by
    intro _
    obtain ⟨settings, demand, _, frost, humidity⟩ := blocksReset_blocks kind s
    exact demandCurrent_atReset settings demand frost humidity
  heat := by
    intro _
    refine ⟨?_, ?_, ?_, ?_⟩ <;> simp [blocksReset, frostAtReset, demandAtReset, linesAtReset]
  still := by
    intro _
    simp [blocksReset, TargetsStopped, FansUndriven, demandAtReset, governorAtReset, anyLoopFailed, LoopRec.atReset]
  allowance := by
    intro _
    obtain ⟨settings, _, governor, _⟩ := blocksReset_blocks kind s
    exact allowanceBounded_atReset settings governor
  frost := by
    intro _
    simp [FrostConsistent, asksNoPower, blocksReset, frostAtReset, demandAtReset, governorAtReset]
  hold := by
    intro _
    simp [HoldExclusive, blocksReset, demandAtReset, filterAtReset, Capture.empty]
  events := by
    intro _
    simp [QueueBounded, AlarmFollows, blocksReset, eventsAtReset, linkAtReset, linesAtReset, ordinaryCount]
  slots := by
    rintro ⟨⟨distinct, _⟩, _, whole⟩
    refine ⟨⟨allSettings_blocksReset (P := fun c => (enrolledAddresses c).Nodup) (by decide) distinct, ?_⟩, ?_, ?_⟩
    · intro k _
      simp only [blocksReset, driveLines_frame, occupied, busAtReset, PerSlot.get_update]
      cases (loadedSettings s.store).slots.get k <;> rfl
    · intro none
      have unloaded : loadBank s.store = .none := by simpa [blocksReset, storeLoaded] using none
      simpa [blocksReset, storeLoaded] using chosenBank_none unloaded
    · have kept : (blocksReset kind s).filter.store = s.filter.store := by simp [blocksReset, filterAtReset]
      rw [StoreWhole, kept]
      exact whole

theorem resetTo_preserves (kind : ResetKind) (s : State) : Preserves s (resetTo kind s) :=
  (blocksReset_preserves kind s).trans (reportAll_preserves _ _)

/-! ### Commands -/

theorem whilePowered_preserves {f : State → State} {s t : State} (run : whilePowered f s = .next t)
    (keeps : Preserves s (f s)) : Preserves s t := by
  cases powered : s.powered with
  | true =>
    rw [whilePowered_on f s powered] at run
    cases run
    exact keeps
  | false =>
    rw [whilePowered_off f s powered] at run
    cases run
    exact .refl s

theorem whileOpen_preserves {f : State → State} {s t : State} (run : whileOpen f s = .next t)
    (keeps : Preserves s (f s)) : Preserves s t :=
  whilePowered_preserves run (.ite (fun _ => .refl s) fun _ => keeps)

theorem serveRow_preserves {serve : State → Answer × State} {s t : State} (run : serveRow serve s = .next t)
    (keeps : Preserves s (serve s).2) : Preserves s t :=
  whileOpen_preserves run (keeps.trans (answerTo_preserves _ _ _ _))

theorem exec_preserves {c : Instr} {s t : State} (run : exec c s = .next t) : Preserves s t := by
  cases c with
  | powerUp =>
    cases run
    exact resetTo_preserves _ s
  | resetLine touched =>
    exact whilePowered_preserves (f := fun s => resetTo .resetLine (cutSave touched (finishRewrite s))) run
      (((finishRewrite_preserves s).trans (cutSave_preserves _ _)).trans (resetTo_preserves _ _))
  | sampleEvent codes => exact whilePowered_preserves run (sampleAll_preserves codes s)
  | secondEnd => exact whilePowered_preserves run (secondEnd_preserves s)
  | tachEdge fan time => exact whilePowered_preserves run (tachEdge_preserves fan time s)
  | windowEnd fan => exact whilePowered_preserves run (windowEnd_preserves fan s)
  | exhaustionSignal => exact whilePowered_preserves run (takeExhaustion_preserves s)
  | frostPeriod => exact whilePowered_preserves run (frostPeriod_preserves s)
  | htoOnTimeEnd => exact whilePowered_preserves run (endOnTime_preserves s)
  | defrostMaximumExpiry => exact whilePowered_preserves run (endDefrost_preserves s)
  | stopTimerExpiry => exact whilePowered_preserves run (endFrostStop_preserves s)
  | demandSecond => exact whilePowered_preserves run (demandSecond_preserves s)
  | hostBoostExpiry => exact whilePowered_preserves run (boostExpired_preserves s)
  | pullSwitchTimerExpiry => exact whilePowered_preserves run (setPullTimer_preserves 0 s)
  | silenceExpiry => exact whilePowered_preserves run (silenceExpired_preserves s)
  | filterMinute => exact whilePowered_preserves run (filterPost_preserves _ s)
  | rewriteEnd => exact whilePowered_preserves run (endRewrite_preserves s)
  | captureWaitTimeout => exact whilePowered_preserves run (filterPost_preserves _ s)
  | captureRunEnd => exact whilePowered_preserves run (filterPost_preserves _ s)
  | lockOutExpiry fan => exact whilePowered_preserves run (filterPost_preserves _ s)
  | pollPeriodStart => exact whilePowered_preserves run (pollPeriodStart_preserves s)
  | poll => exact whilePowered_preserves run (sendPoll_preserves s)
  | answerComplete bytes =>
    exact whilePowered_preserves (f := fun s => bytes.foldl receiveBusByte s) run (answer_preserves bytes s)
  | answerWindowClose => exact whilePowered_preserves run (closeWindow_preserves s)
  | holdExpiry slot => exact whilePowered_preserves run (holdExpired_preserves slot s)
  | humidityMinute => exact whilePowered_preserves run (humidityMinute_preserves s)
  | auxSampleEvent pins => exact whilePowered_preserves run (auxSample_preserves pins s)
  | resetSecondTick => exact whilePowered_preserves run (.seconds _)
  | frameReceived kind tag flags payload =>
    exact whilePowered_preserves run (frameReceived_preserves kind tag flags payload s)
  | frameDiscard => exact whilePowered_preserves run (discardFrame_preserves _ s)
  | frameGapTimeout => exact whilePowered_preserves run (gapTimeout_preserves s)
  | huntTimeout => exact whilePowered_preserves run (huntTimeout_preserves s)
  | transmitEnd => exact whilePowered_preserves run (transmitEnd_preserves s)
  | traceDue => exact whilePowered_preserves run (traceDue_preserves s)
  | stateRead page => exact serveRow_preserves run (serveStateRead_preserves page s)
  | fanRead fan => exact serveRow_preserves run (serveFanRead_preserves fan s)
  | levelSet level => exact serveRow_preserves run (serveLevelSet_preserves level s)
  | boost flow minutes => exact serveRow_preserves run (serveBoost_preserves flow minutes s)
  | holdTake flow => exact serveRow_preserves run (serveHoldTake_preserves flow s)
  | resume => exact serveRow_preserves run (serveResume_preserves s)
  | filterRead filter => exact whileOpen_preserves run (handToFilter_preserves _ _ s)
  | filterChanged filter => exact whileOpen_preserves run (handToFilter_preserves _ _ s)
  | nodeEnrol address kind => exact serveRow_preserves run (serveNodeEnrol_preserves address kind s)
  | nodeDrop slot => exact serveRow_preserves run (serveNodeDrop_preserves slot s)
  | nodeRead slot => exact serveRow_preserves run (serveNodeRead_preserves slot s)
  | lineSet line function polarity edge =>
    exact serveRow_preserves run (serveLineSet_preserves line function polarity edge s)
  | lineWrite line value => exact serveRow_preserves run (serveLineWrite_preserves line value s)
  | lineRead line => exact serveRow_preserves run (serveLineRead_preserves line s)
  | noticesTake => exact serveRow_preserves run (takeNotices_preserves s)
  | flagsRead => exact serveRow_preserves run (.refl s)
  | flagsClear kinds => exact serveRow_preserves run (serveFlagsClear_preserves kinds s)
  | eventSet code enable level => exact serveRow_preserves run (serveEventSet_preserves code enable level s)
  | thresholdSet threshold => exact serveRow_preserves run (serveThresholdSet_preserves threshold s)
  | traceSet period => exact serveRow_preserves run (serveTraceSet_preserves period s)
  | injectChannel channel count => exact serveRow_preserves run (serveInjectChannel_preserves channel count s)
  | injectSlot slot count => exact serveRow_preserves run (serveInjectSlot_preserves slot count s)
  | settingWrite id value => exact serveRow_preserves run (serveSettingWrite_preserves id value s)
  | settingRead id => exact serveRow_preserves run (serveSettingRead_preserves id s)
  | settingsSave => exact serveRow_preserves run (serveSettingsSave_preserves s)
  | saveComplete => exact whilePowered_preserves run (saveComplete_preserves s)
  | startReport => exact whileOpen_preserves run (handToFilter_preserves _ _ s)
  | restart => exact whileOpen_preserves run (restartRow_preserves s)
  | restartReset =>
    refine whilePowered_preserves run (.ite (fun _ => ?_) fun _ => .refl s)
    exact ((finishRewrite_preserves s).trans (finishSave_preserves _)).trans (resetTo_preserves _ _)
  | linkByteReceived byte stopGood => exact whilePowered_preserves run (receiveLinkByte_preserves byte stopGood s)
  | sensorBusByteReceived byte stopGood =>
    exact whilePowered_preserves (f := fun s => receiveBusByte s { value := byte, stopGood := stopGood }) run
      (receiveBusByte_preserves s _)
  | coreSupplyLoss vbkHolds written touched =>
    exact whilePowered_preserves run (supplyLoss_preserves vbkHolds written touched s)

theorem step_preserves {s t : State} (run : step s = .next t) : Preserves s t := by
  unfold step at run
  split at run
  · cases run
    exact .refl s
  · rename_i c rest _
    exact (Preserves.outside s.powered rest).trans (exec_preserves run)

/-- Settles O3: every command recomputes D within its clamp or leaves it, and keeps the clamps in order. -/
theorem demandStaysBounded : Obligations.DemandStaysBounded := by
  unfold Obligations.DemandStaysBounded
  exact fun _ _ bounded run => (step_preserves run).demandBounded bounded

/-- Settles O4: every change of an input of D or of H is followed by their rules. -/
theorem demandStaysCurrent : Obligations.DemandStaysCurrent := by
  unfold Obligations.DemandStaysCurrent
  exact fun _ _ current run => (step_preserves run).demandCurrent current

/-- Settles O5: every change of the interlock or of the requested power is followed by a re-evaluation. -/
theorem heatStaysInterlocked : Obligations.HeatStaysInterlocked := by
  unfold Obligations.HeatStaysInterlocked
  exact fun _ _ heat run => (step_preserves run).heat heat

/-- Settles O6: a change of run state sets the targets, and a stopped, stalled or failed loop its drive. -/
theorem stoppedFansStayStill : Obligations.StoppedFansStayStill := by
  unfold Obligations.StoppedFansStayStill
  exact fun _ _ still run => (step_preserves run).still still

/-- Settles O7: a step of the governor keeps the allowance and its carry in bounds, and a new A_max lowers it. -/
theorem allowanceStaysBounded : Obligations.AllowanceStaysBounded := by
  unfold Obligations.AllowanceStaysBounded
  exact fun _ _ bounded run => (step_preserves run).allowance bounded

/-- Settles O8: the guard's transitions and the run state's changes keep the view consistent, and R its owner. -/
theorem frostStaysConsistent : Obligations.FrostStaysConsistent := by
  unfold Obligations.FrostStaysConsistent
  exact fun _ _ consistent run => (step_preserves run).frost consistent

/-- Settles O9: whatever ends RUN, enters DEFROST or FROST STOP, or takes a capture up, releases or refuses the hold. -/
theorem holdStaysExclusive : Obligations.HoldStaysExclusive := by
  unfold Obligations.HoldStaysExclusive
  exact fun _ _ exclusive run => (step_preserves run).hold exclusive

/-- Settles O10: an occurrence keeps the queue's bounds, and each change of the flags is judged. -/
theorem eventsStayConsistent : Obligations.EventsStayConsistent := by
  unfold Obligations.EventsStayConsistent
  exact fun _ _ consistent run => (step_preserves run).events consistent

/-- Settles O11: enrolment, drop and failed enrolment change slot and entry together, and every image is a set of
settings that the part has held. -/
theorem slotsAndBanksStayConsistent : Obligations.SlotsAndBanksStayConsistent := by
  unfold Obligations.SlotsAndBanksStayConsistent
  exact fun _ _ consistent run => (step_preserves run).slots consistent

end Sys2Proof.Machine
end

section
/-! The request rows and commands of one block that touch few figures: INJECT, edges, FAN READ, the start report, the bus
outside a poll's end, saves and the link port's own requests (O23, O24, O30, O44, O45, O46, O60, O58). -/

namespace Sys2Proof.Machine

@[ext] theorem State.ext {s t : State} (powered : s.powered = t.powered) (settings : s.settings = t.settings)
    (store : s.store = t.store) (measurement : s.measurement = t.measurement) (loops : s.loops = t.loops)
    (demand : s.demand = t.demand) (governor : s.governor = t.governor) (frost : s.frost = t.frost)
    (filter : s.filter = t.filter) (bus : s.bus = t.bus) (humidity : s.humidity = t.humidity) (lines : s.lines = t.lines)
    (events : s.events = t.events) (link : s.link = t.link) (pending : s.pending = t.pending) : s = t := by
  cases s
  cases t
  simp_all

/-! ### A command of a powered part, a request row, a request that reaches the filter monitor -/

theorem exec_powered {c : Instr} {f : State → State} {s : State} (powered : s.powered = true)
    (arm : exec c s = whilePowered f s) : exec c s = .next (f s) :=
  arm.trans (whilePowered_on f s powered)

theorem exec_row {c : Instr} {serve : State → Answer × State} {s : State} (powered : s.powered = true)
    (opened : s.link.closed = false) (arm : exec c s = serveRow serve s) :
    exec c s = .next (replied (serve s).1 (serve s).2) :=
  arm.trans (serveRow_replied powered opened rfl)

/-- With no rewrite in progress a request that came by no frame is served at once by the filter monitor (R100, log 8). -/
theorem exec_filterRow {c : Instr} {req : FilterRequest} {s : State} (powered : s.powered = true)
    (opened : s.link.closed = false) (free : s.filter.rewriting = false)
    (arm : exec c s = whileOpen (handToFilter none req) s) :
    exec c s = .next (replied (serveFilter req s).1 (serveFilter req s).2) := by
  have taken : handToFilter none req s = filterTake (.request none req) s := by simp [handToFilter, filterPost, free]
  rw [arm, whileOpen_on _ s powered opened, taken]
  rfl

/-! ### INJECT (R15, R136) -/

/-- Settles O23: by the code of the target, then by the count. -/
theorem injectSetsTheCount : Obligations.InjectSetsTheCount := by
  unfold Obligations.InjectSetsTheCount
  refine ⟨fun channel count s powered opened => ?_, fun slot count s powered opened => ?_⟩
  · refine (exec_row powered opened rfl).trans (congrArg _ ?_)
    unfold serveInjectChannel
    cases channelOfCode channel.toNat with
    | none => rfl
    | some ch =>
      by_cases bad : count.toNat = 0 ∨ 15 < count.toNat
      · have refused : ¬(1 ≤ count.toNat ∧ count.toNat ≤ 15) := by omega
        simp only [refused, bad, if_false, if_true]
      · have taken : 1 ≤ count.toNat ∧ count.toNat ≤ 15 := by omega
        simp only [taken, bad, and_self, if_false, if_true]
  · refine (exec_row powered opened rfl).trans (congrArg _ ?_)
    unfold serveInjectSlot
    cases slotOfNumber slot.toNat with
    | none => rfl
    | some k =>
      by_cases bad : count.toNat = 0 ∨ 15 < count.toNat
      · simp only [bad, if_true]
      · by_cases empty : (s.bus.slots.get k).state = .empty <;> simp [bad, occupied, empty]

/-! ### Tachometer edges (R21) -/

theorem setLoop_self (x : Stream) (s : State) : setLoop x (s.loops.get x) s = s := by
  cases x <;> rfl

/-- Settles O24: by whether the edge is a glitch, then by whether it is the window's first. -/
theorem tachEdgeCounts : Obligations.TachEdgeCounts := by
  unfold Obligations.TachEdgeCounts
  intro fan time s powered l
  have arm : exec (.tachEdge fan time) s = .next (setLoop fan (acceptEdge time l) s) := exec_powered powered rfl
  refine ⟨?_, ?_⟩
  · rintro ⟨p, last, near⟩
    have glitch : acceptEdge time l = l := by simp [acceptEdge, isGlitch, last, Config.glitchTime, near]
    rw [arm, glitch]
    exact congrArg _ (setLoop_self fan s)
  · intro clear
    have accepted : isGlitch l time = false := by
      obtain none | ⟨p, last, far⟩ := clear
      · simp [isGlitch, none]
      · have late : decide (time < p + Config.glitchTime) = false := decide_eq_false (Nat.not_lt.mpr far)
        simpa only [isGlitch, last] using late
    rw [arm]
    unfold acceptEdge
    rw [accepted]
    by_cases first : l.edges = 0 <;> simp [first]

/-! ### FAN READ (R41) -/

/-- Settles O30: by the code of the fan. -/
theorem fanReadAnswers : Obligations.FanReadAnswers := by
  unfold Obligations.FanReadAnswers
  intro fan s powered opened
  refine (exec_row powered opened rfl).trans (congrArg _ ?_)
  unfold serveFanRead
  cases streamOfCode fan.toNat with
  | none => rfl
  | some x => rfl

/-! ### START REPORT and FILTER READ (R107, R123, R199) -/

/-- Settles O44: the start report by the gate, FILTER READ by the code of the filter. -/
theorem startReportAndFilterReadAnswer : Obligations.StartReportAndFilterReadAnswer := by
  unfold Obligations.StartReportAndFilterReadAnswer
  intro s powered opened free first report
  have served := exec_filterRow (c := .startReport) (req := .startReport) powered opened free rfl
  refine ⟨fun gate => ?_, fun gate => ?_, fun filter => ?_⟩
  · refine served.trans (congrArg _ ?_)
    simp only [serveFilter, serveStartReport, startReportPayload, report, first, gate]
    rfl
  · refine ⟨_, served, ?_, fun x => ?_⟩
    · simp only [serveFilter, serveStartReport, startReportPayload, report, first, gate]
      rfl
    · simp only [serveFilter, serveStartReport, gate]
      cases x <;> rfl
  · refine (exec_filterRow powered opened free rfl).trans (congrArg _ ?_)
    simp only [serveFilter, serveFilterRead]
    cases streamOfCode filter.toNat with
    | none => rfl
    | some x => rfl

/-! ### Poll periods, POLL, hold expiries and bytes on the bus (R125 to R129, R134) -/

/-- The lowest occupied slot of all is the lowest above the number 0. -/
theorem occupiedAbove_zero (s : State) :
    occupiedAbove s 0 = Slot.all.find? (fun k => decide ((s.bus.slots.get k).state ≠ .empty)) := by
  have same (k : Slot) : (decide (0 < slotNumber k) && occupied s k) = decide ((s.bus.slots.get k).state ≠ .empty) := by
    have above : 0 < slotNumber k := by cases k <;> decide
    cases state : (s.bus.slots.get k).state <;> simp [above, occupied, state]
  exact congrArg (fun f => Slot.all.find? f) (funext same)

/-- Settles O45: the chosen poll by the lowest occupied slot, POLL by the round, the expiry by the slot's state. -/
theorem roundsPollAndHoldsExpire : Obligations.RoundsPollAndHoldsExpire := by
  unfold Obligations.RoundsPollAndHoldsExpire
  intro s powered
  have poll : exec .poll s = .next (sendPoll s) := exec_powered powered rfl
  refine ⟨?_, fun none => ?_, fun p round sent => ?_, fun p round unsent => ?_, fun k => ?_⟩
  · refine (exec_powered powered rfl : exec .pollPeriodStart s = .next (pollPeriodStart s)).trans (congrArg _ ?_)
    unfold pollPeriodStart
    rw [occupiedAbove_zero]
    cases Slot.all.find? (fun k => decide ((s.bus.slots.get k).state ≠ .empty)) with
    | none => rfl
    | some k => rfl
  · simp [poll, sendPoll, none]
  · simp [poll, sendPoll, round, sent]
  · simp [poll, sendPoll, round, unsent]
    rfl
  · refine (exec_powered powered rfl : exec (.holdExpiry k) s = .next (holdExpired k s)).trans (congrArg _ ?_)
    simp only [holdExpired, Option.isNone_iff_eq_none]

/-- Bytes received one after another are what ANSWER_COMPLETE with them is (log 9). -/
theorem runCommands_busBytes (bytes : List BusByte) (s : State) (powered : s.powered = true) :
    runCommands (bytes.map (fun b => .sensorBusByteReceived b.value b.stopGood)) s
      = .next (bytes.foldl receiveBusByte s) := by
  induction bytes generalizing s with
  | nil => rfl
  | cons b bytes ih =>
    have one : exec (.sensorBusByteReceived b.value b.stopGood) s = .next (receiveBusByte s b) :=
      exec_powered (f := fun s => receiveBusByte s b) powered rfl
    rw [List.map_cons, runCommands, one, List.foldl_cons]
    exact ih _ (by simp [powered])

/-- Settles O46: by the round, the window and the answer so far. -/
theorem answerBytesAreCollected : Obligations.AnswerBytesAreCollected := by
  unfold Obligations.AnswerBytesAreCollected
  intro s powered
  have byte (b : Byte) (good : Bool) :
      exec (.sensorBusByteReceived b good) s = .next (receiveBusByte s { value := b, stopGood := good }) :=
    exec_powered (f := fun s => receiveBusByte s { value := b, stopGood := good }) powered rfl
  refine ⟨fun b good none => ?_, fun p round b good skipped => ?_, fun p round b good opened taken short => ?_,
    fun closed => ?_, fun bytes => ?_⟩
  · simp [byte, receiveBusByte, none]
  · have skip : (!p.windowOpen || (p.answer.isEmpty && !beginsAnswer { value := b, stopGood := good })) = true := by
      obtain shut | ⟨empty, other⟩ := skipped
      · simp [shut]
      · have no : beginsAnswer { value := b, stopGood := good } = false := by
          simpa [beginsAnswer, Config.busStart, imp_iff_not_or] using other
        simp [empty, no]
    simp [byte, receiveBusByte, round, skip]
  · have take : (!p.windowOpen || (p.answer.isEmpty && !beginsAnswer { value := b, stopGood := good })) = false := by
      obtain started | ⟨rfl, rfl⟩ := taken
      · simp [opened, started]
      · simp [opened, beginsAnswer, Config.busStart]
    have unfinished : ¬readingLength ≤ p.answer.length + 1 := by
      simp only [readingLength]
      omega
    simp [byte, receiveBusByte, round, take, unfinished]
  · have close : exec .answerWindowClose s = .next (closeWindow s) := exec_powered powered rfl
    obtain none | ⟨p, round, shut⟩ := closed
    · simp [close, closeWindow, none]
    · simp [close, closeWindow, round, shut]
  · exact ⟨_, exec_powered (f := fun s => bytes.foldl receiveBusByte s) powered rfl,
      runCommands_busBytes bytes s powered⟩

/-! ### Saves (R196) -/

theorem bankValid_eq (b : Bank) :
    bankValid b = (b.crc == crc16 (SettingId.all.flatMap (fun i => i32 (settingGet b.image i)) ++ u16 b.generation)) := by
  unfold bankValid bankCrc bankBytes
  rfl

theorem settingId_mem_all (i : SettingId) : i ∈ SettingId.all := by
  have field (f : LoopField) : f ∈ LoopField.all := by cases f <;> decide
  have slot (k : Slot) : k ∈ Slot.all := by cases k <;> decide
  have line (l : Line) : l ∈ Line.all := by cases l <;> decide
  have kind (k : EventKind) : k ∈ allKinds := by cases k <;> decide
  unfold SettingId.all
  cases i with
  | loop x f => cases x <;> simp [field]
  | slotEntry k => simp [slot]
  | lineConfig l => simp [line]
  | enable k => simp [kind]
  | level k => simp [kind]
  | increment r => cases r <;> simp
  | _ => simp

/-- Settles O60: by whether a save is in progress, its completion by the current bank. -/
theorem savesGoToTheOtherBank : Obligations.SavesGoToTheOtherBank := by
  unfold Obligations.SavesGoToTheOtherBank
  refine ⟨bankValid_eq, settingId_mem_all,
    fun s powered => ⟨fun opened busy => ?_, fun opened idle => ?_, fun idle => ?_, fun image saving => ?_⟩⟩
  · refine (exec_row powered opened rfl).trans (congrArg _ ?_)
    simp [serveSettingsSave, busy]
  · refine (exec_row powered opened rfl).trans (congrArg _ ?_)
    simp [serveSettingsSave, idle]
  · have complete : exec .saveComplete s = .next (saveComplete s) := exec_powered powered rfl
    simp [complete, saveComplete, idle]
  · have complete : exec .saveComplete s = .next (saveComplete s) := exec_powered powered rfl
    rw [saveComplete, saving] at complete
    refine ⟨_, wholeBank image (nextGeneration s.store), complete, ?_, ?_, report_flagRaised _ _ _, rfl, ?_,
      wholeBank_valid _ _, ?_⟩
    · ext1 <;> simp
    · exact report_reportsOnly _ _ _
    · unfold nextGeneration
      cases s.store.current with
      | none => rfl
      | some i => cases i <;> rfl
    · simp only [report_frame]
      unfold bankWritten targetBank
      rcases s.store.current with _ | _ | _ <;> rfl

/-! ### The link port's own requests (R72, R18, R97, R190, R192, R200) -/



theorem smokeSourceCode_eq (l : Option Line) : smokeSourceCode l = (l.map lineNumber).getD 0 := by
  cases l <;> rfl

theorem serveRow_whileOpen (serve : State → Answer × State) : ∃ f, ∀ s, serveRow serve s = whileOpen f s :=
  ⟨_, fun _ => rfl⟩

theorem handToFilter_whileOpen (req : FilterRequest) :
    ∃ f, ∀ s, whileOpen (handToFilter none req) s = whileOpen f s :=
  ⟨_, fun _ => rfl⟩

/-- Every request row is served by the open port of a powered part alone (R200). -/
theorem request_row {c : Instr} (request : isRequest c = true) : ∃ f, ∀ s, exec c s = whileOpen f s := by
  cases c with
  | stateRead page => exact serveRow_whileOpen (serveStateRead page)
  | fanRead fan => exact serveRow_whileOpen (serveFanRead fan)
  | levelSet level => exact serveRow_whileOpen (serveLevelSet level)
  | boost flow minutes => exact serveRow_whileOpen (serveBoost flow minutes)
  | holdTake flow => exact serveRow_whileOpen (serveHoldTake flow)
  | resume => exact serveRow_whileOpen serveResume
  | filterRead filter => exact handToFilter_whileOpen (.read filter)
  | filterChanged filter => exact handToFilter_whileOpen (.changed filter)
  | nodeEnrol address kind => exact serveRow_whileOpen (serveNodeEnrol address kind)
  | nodeDrop slot => exact serveRow_whileOpen (serveNodeDrop slot)
  | nodeRead slot => exact serveRow_whileOpen (serveNodeRead slot)
  | lineSet line function polarity switch => exact serveRow_whileOpen (serveLineSet line function polarity switch)
  | lineWrite line value => exact serveRow_whileOpen (serveLineWrite line value)
  | lineRead line => exact serveRow_whileOpen (serveLineRead line)
  | noticesTake => exact serveRow_whileOpen serveNoticesTake
  | flagsRead => exact serveRow_whileOpen serveFlagsRead
  | flagsClear flags => exact serveRow_whileOpen (serveFlagsClear flags)
  | eventSet code enable level => exact serveRow_whileOpen (serveEventSet code enable level)
  | thresholdSet level => exact serveRow_whileOpen (serveThresholdSet level)
  | traceSet period => exact serveRow_whileOpen (serveTraceSet period)
  | injectChannel channel count => exact serveRow_whileOpen (serveInjectChannel channel count)
  | injectSlot slot count => exact serveRow_whileOpen (serveInjectSlot slot count)
  | settingWrite id value => exact serveRow_whileOpen (serveSettingWrite id value)
  | settingRead id => exact serveRow_whileOpen (serveSettingRead id)
  | settingsSave => exact serveRow_whileOpen serveSettingsSave
  | startReport => exact handToFilter_whileOpen .startReport
  | restart => exact ⟨restartRow, fun _ => rfl⟩
  | _ => cases request

/-- No request row is served by the closed port (R200). -/
theorem request_closed {c : Instr} {s : State} (request : isRequest c = true) (closed : s.link.closed = true) :
    exec c s = .next s := by
  obtain ⟨f, row⟩ := request_row request
  exact (row s).trans (whileOpen_closed f s closed)

/-- Settles O58: the closed port by the rows, STATE READ by the page. -/
theorem linkPortServesItsOwnRequests : Obligations.LinkPortServesItsOwnRequests := by
  unfold Obligations.LinkPortServesItsOwnRequests
  refine ⟨fun c s request closed => ?_, fun s powered opened => ⟨fun page => ?_, fun period => ?_, ?_, ?_⟩⟩
  · exact request_closed request closed
  · refine (exec_row powered opened rfl).trans (congrArg _ ?_)
    unfold serveStateRead
    match page.toNat with
    | 0 =>
      simp only [statePage0, smokeSourceCode_eq]
      cases s.demand.boost <;> rfl
    | 1 => rfl
    | 2 => simp only [statePage2, historyBytes, List.append_assoc]
    | _ + 3 => rfl
  · refine (exec_row powered opened rfl).trans (congrArg _ ?_)
    unfold serveTraceSet
    by_cases long : 60 < period.toNat <;> simp [long]
  · exact whileOpen_on restartRow s powered opened
  · refine (exec_powered powered rfl : exec .restartReset s = .next (restartReset s)).trans (congrArg _ ?_)
    simp [restartReset, opened]

end Sys2Proof.Machine
end

section
/-! The event unit: its tick and requests, the placement of an occurrence, the enables and levels (O53, O54). -/

namespace Sys2Proof.Machine

/-! ### Placing an occurrence (R177, R178) -/

theorem severeKind_eq (k : EventKind) : severeKind k = decide (kindCode k ≤ 7) := rfl

/-- What is lost goes to the OVERFLOW record, formed at the tail when none is held (R178). -/
theorem addOverflow_eq (losses : Nat) (severe : Bool) (now : Nat) (q : List Notice) :
    addOverflow losses severe now q =
      if q.any (fun n => n.kind.isNone) then
        q.map (fun n =>
          if n.kind.isSome then n
          else { n with count := min 255 (n.count + losses), severe := n.severe || severe, last := now })
      else
        q ++ [{ kind := none, source := .none, severe := severe, level := 7, count := min 255 losses, first := now,
                last := now }] := by
  simp only [addOverflow, ordinary, saturate, Option.not_isSome]
  rfl

section Placement

variable {set : Settings} {k : EventKind} {src : Source} {now : Nat} {q : List Notice}

theorem placeNotice_merged {newest : Notice} (last : q.getLast? = some newest) (merging : merges k src newest = true) :
    placeNotice set k src now q = q.dropLast ++ [mergeInto now newest] := by
  simp [placeNotice, last, merging]

/-- An occurrence that merges with no record, by the cases 2 to 4 of R177. -/
theorem placeNotice_apart (apart : ∀ n, q.getLast? = some n → merges k src n = false) :
    placeNotice set k src now q =
      if ordinaryCount q < 15 then q ++ [newNotice set k src now]
      else if severeKind k then
        match q.find? evictable with
        | some old => addOverflow old.count false now (q.eraseP evictable) ++ [newNotice set k src now]
        | none => addOverflow 1 true now q
      else addOverflow 1 false now q := by
  unfold placeNotice
  cases last : q.getLast? with
  | none =>
    have empty : q = [] := List.getLast?_eq_none_iff.mp last
    simp [empty, ordinaryCount]
  | some newest =>
    simp only [apart newest last, Config.maxNotices]
    rfl

theorem placeNotice_appended (apart : ∀ n, q.getLast? = some n → merges k src n = false)
    (room : ordinaryCount q < 15) : placeNotice set k src now q = q ++ [newNotice set k src now] := by
  rw [placeNotice_apart apart, if_pos room]

theorem find?_evictable {older newer : List Notice} {old : Notice} (kept : ∀ n ∈ older, evictable n = false)
    (out : evictable old = true) : (older ++ old :: newer).find? evictable = some old := by
  have before : older.find? evictable = none := by simpa [List.find?_eq_none] using kept
  simp [List.find?_append, before, out]

theorem eraseP_evictable {older newer : List Notice} {old : Notice} (kept : ∀ n ∈ older, evictable n = false)
    (out : evictable old = true) : (older ++ old :: newer).eraseP evictable = older ++ newer := by
  rw [List.eraseP_append_right _ (by simpa using kept), List.eraseP_cons_of_pos out]

theorem placeNotice_evicts {older newer : List Notice} {old : Notice}
    (apart : ∀ n, q.getLast? = some n → merges k src n = false) (full : 15 ≤ ordinaryCount q)
    (severe : severeKind k = true) (found : q = older ++ old :: newer) (kept : ∀ n ∈ older, evictable n = false)
    (out : evictable old = true) :
    placeNotice set k src now q = addOverflow old.count false now (older ++ newer) ++ [newNotice set k src now] := by
  rw [placeNotice_apart apart, if_neg (Nat.not_lt.mpr full), if_pos severe, found, find?_evictable kept out,
    eraseP_evictable kept out]

theorem placeNotice_lost (apart : ∀ n, q.getLast? = some n → merges k src n = false) (full : 15 ≤ ordinaryCount q)
    (stuck : severeKind k = false ∨ ∀ n ∈ q, evictable n = false) :
    placeNotice set k src now q = addOverflow 1 (severeKind k) now q := by
  rw [placeNotice_apart apart, if_neg (Nat.not_lt.mpr full)]
  cases severe : severeKind k with
  | false => simp
  | true =>
    have kept : ∀ n ∈ q, evictable n = false := stuck.resolve_left (by simp [severe])
    have none_found : q.find? evictable = none := by simpa [List.find?_eq_none] using kept
    simp [none_found]

end Placement

theorem merges_iff (k : EventKind) (src : Source) (n : Notice) :
    merges k src n = true ↔ decide (kindCode k ≤ 7) = false ∧ n.kind = some k ∧ n.source = src := by
  simp [merges, severeKind_eq, and_assoc]

/-- The NTF and the link port after an occurrence of an enabled kind (R177, R181). -/
theorem report_placed {k : EventKind} {s : State} (src : Source) (enabled : kindEnabled s.settings k = true) :
    (report k src s).events.ntf = (report k src s).events.queue.any (fun n => decide (s.settings.threshold < n.level))
      ∧ (report k src s).link = { s.link with queueNotEmpty := true } := by
  simp [report, enabled, placeOccurrence, judgeNtf]

theorem report_disabled {k : EventKind} {s : State} (src : Source) (disabled : kindEnabled s.settings k = false) :
    (report k src s).events.queue = s.events.queue ∧ (report k src s).events.ntf = s.events.ntf
      ∧ (report k src s).link = s.link := by
  simp [report, disabled]

/-! ### Enables and levels (R175) -/

theorem kindIndex_inj {j k : EventKind} (same : (kindIndex j).val = (kindIndex k).val) : j = k :=
  kindIndex_injective (Fin.ext same)

theorem kindEnabled_putEnable (set : Settings) (k j : EventKind) (on : Bool) :
    kindEnabled (putEnable set k on) j = if j = k then on else kindEnabled set j := by
  have bit : (1#25 <<< (kindIndex k).val).getLsbD (kindIndex j).val = decide (j = k) := by
    by_cases same : j = k
    · subst same
      simp
    · have apart : (kindIndex j).val ≠ (kindIndex k).val := fun e => same (kindIndex_inj e)
      simp [same]
      omega
  have within := (kindIndex j).isLt
  unfold kindEnabled putEnable
  simp only [BitVec.getLsb, BitVec.testBit_toNat]
  cases on with
  | true =>
    rw [if_pos rfl, BitVec.getLsbD_or, bit]
    by_cases same : j = k <;> simp only [same, decide_true, decide_false, Bool.or_true, Bool.or_false, if_true, if_false]
  | false =>
    rw [if_neg Bool.false_ne_true, BitVec.getLsbD_and, BitVec.getLsbD_not, bit]
    by_cases same : j = k <;>
      simp only [same, within, decide_true, decide_false, Bool.not_true, Bool.not_false, Bool.and_true, Bool.and_false,
        if_true, if_false]

theorem kindLevel_putLevel (set : Settings) (k j : EventKind) {v : Nat} (within : v ≤ 7) :
    kindLevel (putLevel set k v) j = if j = k then v else kindLevel set j := by
  unfold kindLevel putLevel
  by_cases same : j = k
  · subst same
    simp
    omega
  · have apart : (kindIndex k).val ≠ (kindIndex j).val := fun e => same (kindIndex_inj e.symm)
    simp [same, apart]

theorem kindOfCode_kindCode (k : EventKind) : kindOfCode (kindCode k) = some k := by
  cases k <;> rfl

theorem kindOfCode_unlisted {n : Nat} (unlisted : n = 0 ∨ 25 < n) : kindOfCode n = none := by
  unfold kindOfCode
  obtain rfl | large := unlisted
  · rfl
  · have beyond : allKinds.length ≤ n - 1 := by
      have length : allKinds.length = 25 := rfl
      omega
    simp [List.getElem?_eq_none beyond]

theorem enableOfCode_unlisted {n : Nat} (unlisted : 1 < n) : enableOfCode n = none := by
  unfold enableOfCode
  split
  case h_1 | h_2 => omega
  case h_3 => rfl

theorem enableOfCode_listed {n : Nat} (listed : n ≤ 1) : enableOfCode n = some (decide (n = 0)) := by
  interval_cases n <;> rfl

theorem serveEventSet_refused {code enable level : Byte} (s : State)
    (bad : code.toNat = 0 ∨ 25 < code.toNat ∨ 1 < enable.toNat ∨ 7 < level.toNat) :
    serveEventSet code enable level s = (refusal .range, s) := by
  unfold serveEventSet
  obtain zero | large | unlisted | high := bad
  · rw [kindOfCode_unlisted (.inl zero)]
  · rw [kindOfCode_unlisted (.inr large)]
  · rw [enableOfCode_unlisted unlisted]
    cases kindOfCode code.toNat <;> rfl
  · split
    · rw [if_pos high]
    · rfl

theorem serveEventSet_done {code enable level : Byte} {k : EventKind} (s : State) (named : kindCode k = code.toNat)
    (listed : enable.toNat ≤ 1) (low : level.toNat ≤ 7) :
    serveEventSet code enable level s =
      (doneWith [],
        { s with settings := putLevel (putEnable s.settings k (decide (enable.toNat = 0))) k level.toNat }) := by
  rw [serveEventSet, ← named, kindOfCode_kindCode, enableOfCode_listed listed]
  exact if_neg (Nat.not_lt.mpr low)

/-- Settles O54: EVENT SET by whether it is refused, THRESHOLD SET likewise. -/
theorem eventSetAndThresholdSetWrite : Obligations.EventSetAndThresholdSetWrite := by
  unfold Obligations.EventSetAndThresholdSetWrite
  refine fun s powered opened => ⟨fun code enable level => ⟨fun bad => ?_, fun k named listed low => ?_⟩,
    fun threshold => ⟨fun high => ?_, fun low => ?_⟩⟩
  · exact serveRow_replied powered opened (serveEventSet_refused s bad)
  · have enabled (set : Settings) (v : Nat) (j : EventKind) : kindEnabled (putLevel set k v) j = kindEnabled set j := rfl
    have level' (set : Settings) (on : Bool) (j : EventKind) : kindLevel (putEnable set k on) j = kindLevel set j := rfl
    refine ⟨_, serveRow_replied powered opened (serveEventSet_done s named listed low), rfl, ?_, ?_, fun j other => ?_⟩
    · simp [replied, enabled, kindEnabled_putEnable]
    · simp [replied, kindLevel_putLevel _ _ _ low]
    · simp [replied, enabled, kindEnabled_putEnable, kindLevel_putLevel _ _ _ low, level', other]
  · exact serveRow_replied powered opened (by rw [serveThresholdSet, if_pos high])
  · exact serveRow_replied powered opened (by rw [serveThresholdSet, if_neg (Nat.not_lt.mpr low)]; rfl)

/-! ### Clearing flags (R174) -/

/-- A severe summary that stays leaves the lines; one that changes is ALARM OUT's new level (R165, R173). -/
theorem judgeSevere_lines (s : State) :
    ((s.events.flags &&& severeMask != 0) = s.events.severe → (judgeSevere s).lines = s.lines)
      ∧ ((s.events.flags &&& severeMask != 0) ≠ s.events.severe →
          judgeSevere s =
            setAlarm (s.events.flags &&& severeMask != 0)
              { s with events := { s.events with severe := s.events.flags &&& severeMask != 0 } }) := by
  refine ⟨fun same => ?_, fun changed => ?_⟩
  · rw [judgeSevere, if_pos same]
  · rw [judgeSevere, if_neg changed]

theorem setAlarm_line (b : Bool) (l : Line) (s : State) :
    (setAlarm b s).lines.table.get l =
      driveRec (setAlarm b s).lines (s.settings.lines.get l) (s.lines.table.get l) := by
  simp only [setAlarm, driveLines_line]
  rfl

theorem judgeSevere_records (s : State) (l : Line) :
    ((judgeSevere s).lines.table.get l).latch = (s.lines.table.get l).latch
      ∧ ((judgeSevere s).lines.table.get l).sample = (s.lines.table.get l).sample
      ∧ ((judgeSevere s).lines.table.get l).sampleRun = (s.lines.table.get l).sampleRun
      ∧ ((judgeSevere s).lines.table.get l).settled = (s.lines.table.get l).settled := by
  obtain ⟨same, changed⟩ := judgeSevere_lines s
  by_cases severe : (s.events.flags &&& severeMask != 0) = s.events.severe
  · rw [same severe]
    exact ⟨rfl, rfl, rfl, rfl⟩
  · rw [changed severe, setAlarm_line]
    simp

theorem clearFailReports_loop (x : Stream) (s : State) :
    (clearFailReports s).loops.get x = { s.loops.get x with failReport := false } := by
  cases x <;> rfl

/-- The state whose severe summary a clearing of flags judges. -/
def flagsCleared (kinds : BitVec 25) (s : State) : State :=
  { s with
    events := { s.events with flags := s.events.flags &&& ~~~kinds }
    loops := if kinds.getLsb (kindIndex .fanFail) then (clearFailReports s).loops else s.loops }

theorem clearFlags_eq (kinds : BitVec 25) (s : State) : clearFlags kinds s = judgeSevere (flagsCleared kinds s) := by
  unfold clearFlags flagsCleared
  split <;> rfl

/-- With FAN FAIL named, both fail-report marks are cleared (R43, R174). -/
theorem flagsCleared_loop (kinds : Word) (x : Stream) (s : State) :
    (flagsCleared (kinds.setWidth 25) s).loops.get x =
      { s.loops.get x with failReport := if kinds.getLsbD 0 then false else (s.loops.get x).failReport } := by
  have named : (kinds.setWidth 25).getLsb (kindIndex .fanFail) = kinds.getLsbD 0 := by
    rw [BitVec.getLsb, BitVec.testBit_toNat, BitVec.getLsbD_setWidth]
    rfl
  unfold flagsCleared
  rw [named]
  cases kinds.getLsbD 0 with
  | true => exact clearFailReports_loop x s
  | false => rfl

theorem flagsClear_served {kinds : Word} {s : State} (powered : s.powered = true) (opened : s.link.closed = false)
    (listed : kinds.toNat < 2 ^ 25) :
    exec (.flagsClear kinds) s = .next (replied (doneWith []) (clearFlags (kinds.setWidth 25) s)) := by
  refine (exec_row powered opened rfl).trans (congrArg _ ?_)
  rw [serveFlagsClear, if_neg (by omega)]

theorem severe_eq (flags : BitVec 25) : (flags &&& severeMask != 0) = decide (flags &&& 0x7F#25 ≠ 0) := by
  unfold severeMask
  by_cases zero : flags &&& 0x7F#25 = 0#25 <;> simp [zero]

/-- Settles O53: the requests by their servings, FLAGS CLEAR by the severe summary it leaves, the placement by the cases
of R177. -/
theorem eventUnitServesItsRequests : Obligations.EventUnitServesItsRequests := by
  unfold Obligations.EventUnitServesItsRequests
  refine ⟨fun s powered => exec_powered (f := secondTick) powered rfl, fun s powered opened => ⟨?take, ?read, fun kinds => ⟨?bad, ?clear⟩,
    ?discard⟩, fun k src s => ?place⟩
  case take => exact exec_row (serve := serveNoticesTake) powered opened rfl
  case read => exact exec_row (serve := serveFlagsRead) powered opened rfl
  case discard =>
    refine (exec_powered powered rfl : exec .frameDiscard s = .next (discardFrame .hunt s)).trans (congrArg _ ?_)
    simp [discardFrame, opened]
  case bad =>
    intro unlisted
    refine (exec_row powered opened rfl).trans (congrArg _ ?_)
    rw [serveFlagsClear, if_pos (by omega)]
  case clear =>
    intro listed flags severe
    let u := flagsCleared (kinds.setWidth 25) s
    have judged : (u.events.flags &&& severeMask != 0) = severe := severe_eq flags
    obtain ⟨steady, moved⟩ := judgeSevere_lines u
    rw [judged] at steady moved
    refine ⟨_, flagsClear_served powered opened listed, ?_, fun x => ?_, fun same => ?_, fun changed => ?_, ?_⟩
    all_goals rw [clearFlags_eq]
    · ext1
      case events => exact (judgeSevere_events u).trans (by rw [judged]; rfl)
      all_goals simp [replied, flagsCleared]
    · simp only [replied, judgeSevere_frame]
      exact flagsCleared_loop kinds x s
    · exact steady same
    · simp only [replied]
      rw [moved changed]
      refine ⟨rfl, rfl, rfl, fun l => ?_⟩
      rw [setAlarm_line]
      exact (driveRec_fields _ _ _).2.2.2.2
    · refine ⟨?_, ?_, judgeSevere_records u⟩ <;> simp [replied, flagsCleared]
  case place =>
    intro t q now severe fresh evictable' merges' merging full lose
    have count : ordinaryCount q = q.countP (fun n => n.kind.isSome) := rfl
    have losing (losses : Nat) (sev : Bool) (p : List Notice) : addOverflow losses sev now p = lose losses sev p :=
      addOverflow_eq losses sev now p
    have apart (no : ¬merging) (n : Notice) (last : q.getLast? = some n) : merges k src n = false :=
      Bool.eq_false_iff.mpr fun yes => no ⟨n, last, (merges_iff k src n).mp yes⟩
    obtain ⟨flags, _, seconds⟩ := report_events k src s
    refine ⟨flags, seconds, report_disabled src, fun enabled => ?_⟩
    have placed : t.events.queue = placeNotice s.settings k src now q := by
      rw [report_queue, if_pos enabled]
    obtain ⟨ntf, link⟩ := report_placed src enabled
    refine ⟨ntf, link, fun n last yes => ?_, fun no room => ?_, fun no some => ?_, fun no most stuck => ?_⟩
    · exact placed.trans (placeNotice_merged last ((merges_iff k src n).mpr yes))
    · exact placed.trans (placeNotice_appended (apart no) (Nat.not_le.mp room))
    · intro sev newer old older found kept out
      rw [placed, ← losing]
      exact placeNotice_evicts (apart no) some sev found kept out
    · rw [placed, ← losing]
      exact placeNotice_lost (apart no) most stuck

end Sys2Proof.Machine
end

section
/-! The sample event, and the demand controller's requests and timers that recompute D and do not move the run state (O21,
O32, O33, O35, O36), with the filter monitor's captures (O42, O43). -/

namespace Sys2Proof.Machine

/-! ### The sample event (R1, R2) -/

/-- A sample added to a channel's account, with the injection count as R2 and R15 say it. -/
theorem sampleChannel_eq (ch : Channel) (code : Nat) (r : ChannelRec) :
    sampleChannel ch code r =
      if 0 < r.injection then { r with bad := r.bad + 1, lastFault := .injected, injection := r.injection - 1 }
      else
        match convert ch code with
        | .good v => { r with sum := r.sum + v }
        | .bad cause => { r with bad := r.bad + 1, lastFault := cause } := by
  unfold sampleChannel sampleOf
  by_cases injecting : 0 < r.injection
  · simp only [injecting, if_true]
  · have spent : r.injection - 1 = r.injection := by omega
    cases convert ch code with
    | good v => simp [injecting, spent]
    | bad cause => simp [injecting, spent]

theorem setHeaterOutput_measurement (p : Nat) (s : State) :
    (setHeaterOutput p s).measurement = { s.measurement with quiet := (setHeaterOutput p s).measurement.quiet } := by
  unfold setHeaterOutput
  split
  · rfl
  · simp only [setHeaterEnable_frame]
    split <;> rfl

/-- No cascade of reports touches the measurement unit but for the heater-quiet count, which a rise of the heater output
restarts (R16). -/
theorem Beat.measurement {heat : Prop} {s t : State} (h : Beat heat s t) :
    t.measurement = { s.measurement with quiet := t.measurement.quiet } := by
  cases h with
  | settle f l fm => exact setHeaterOutput_measurement _ { s with frost := f, loops := l, filter := fm }
  | _ => simp

theorem Cascade.measurement {heat : Prop} {s t : State} (h : Cascade heat s t) :
    t.measurement = { s.measurement with quiet := t.measurement.quiet } := by
  induction h with
  | refl => rfl
  | tail _ b ih => exact b.measurement.trans (by rw [ih])

/-- After its six seconds are judged a second end is a cascade of reports (R12, R14, R47). -/
theorem judgeClosed_cascade (s : State) : Cascade True (judgeAll s) (judgeClosed s) :=
  ((reportAll_cascade _ _).trans (reportChanges_cascade _ _ _)).trans (leaveStartup_cascade _)

theorem secondEnd_closed {s : State} (closed : 4 ≤ s.measurement.samples) : secondEnd s = judgeClosed s :=
  if_pos (decide_eq_true closed)

theorem secondEnd_samples {s : State} (closed : 4 ≤ s.measurement.samples) : (secondEnd s).measurement.samples = 0 := by
  rw [secondEnd_closed closed, (judgeClosed_cascade s).measurement]
  simp [judgeAll]

/-- Settles O21: by whether the second is closed. -/
theorem sampleEventFillsAccounts : Obligations.SampleEventFillsAccounts := by
  unfold Obligations.SampleEventFillsAccounts
  intro codes s powered
  have sampled (u : State) (on : u.powered = true) : exec (.sampleEvent codes) u = .next (addSamples codes (secondEnd u)) :=
    exec_powered (f := sampleAll codes) on rfl
  refine ⟨fun started => ⟨_, sampled s powered, ?_, fun ch => ?_⟩, fun closed => ?_⟩
  · rw [secondEnd_open s started]
    rfl
  · rw [secondEnd_open s started]
    refine (PerChannel.get_update _ _ ch).trans ((sampleChannel_eq ch _ _).trans ?_)
    rfl
  · have none_left : (secondEnd s).measurement.samples = 0 := secondEnd_samples closed
    refine ⟨secondEnd s, exec_powered powered rfl, none_left, ?_⟩
    rw [sampled s powered, sampled (secondEnd s) (by simp [powered]), secondEnd_open (secondEnd s) (by omega)]

/-! ### D recomputed (R59, R60, R86) -/

/-- A recomputation, written out: a new D is handed to the frost guard, which in DEFROST has R follow it. -/
theorem recomputeDemand_eq (s : State) :
    recomputeDemand s =
      { s with
        demand := { s.demand with d := demandOf s }
        frost :=
          { s.frost with
            dHanded := if demandOf s = s.demand.d then s.frost.dHanded else demandOf s
            r :=
              if demandOf s ≠ s.demand.d ∧ s.frost.mode = .defrost then demandOf s * s.settings.reduction / 100
              else s.frost.r }
        governor :=
          { s.governor with
            r :=
              if demandOf s ≠ s.demand.d ∧ s.frost.mode = .defrost then demandOf s * s.settings.reduction / 100
              else s.governor.r } } := by
  unfold recomputeDemand handDemand
  by_cases same : demandOf s = s.demand.d
  · simp [same]
  · by_cases defrosting : s.frost.mode = .defrost <;> simp [same, defrosting, setReduction, reductionNow]

theorem recomputeDemand_steady {s : State} (same : demandOf s = s.demand.d) : recomputeDemand s = s := if_pos same

theorem recomputeDemand_moved {s : State} (moved : demandOf s ≠ s.demand.d) :
    let r := demandOf s * s.settings.reduction / 100
    (recomputeDemand s).frost.dHanded = demandOf s
      ∧ (recomputeDemand s).frost.r = (if s.frost.mode = .defrost then r else s.frost.r)
      ∧ (recomputeDemand s).governor.r = (if s.frost.mode = .defrost then r else s.governor.r) := by
  rw [recomputeDemand_eq]
  simp [moved]

theorem demandOf_report (k : EventKind) (src : Source) (s : State) : demandOf (report k src s) = demandOf s :=
  demandOf_congr (by simp) (by simp)

theorem demandOf_reportAll (os : List (EventKind × Source)) (s : State) : demandOf (reportAll os s) = demandOf s :=
  demandOf_congr (by simp) (by simp)

/-! ### BOOST and HOLD TAKE (R55, R61) -/

/-- Settles O32: by whether the fields are in range, then by the recomputation. -/
theorem boostSetsTheRecord : Obligations.BoostSetsTheRecord := by
  unfold Obligations.BoostSetsTheRecord
  intro flow minutes s powered opened
  refine ⟨fun bad => ?_, fun low short => ?_⟩
  · exact serveRow_replied powered opened (by rw [serveBoost, if_pos bad])
  · have good : ¬(2500 < flow.toNat ∨ 120 < minutes.toNat) := by omega
    let u : State := { s with demand := { s.demand with boost := boostRecord flow.toNat minutes.toNat } }
    have recorded (d : Nat) : demandOf u = d → (recomputeDemand u).demand.d = d := fun e => by simp [e]
    refine ⟨_, serveRow_replied powered opened (by rw [serveBoost, if_neg good]), ?_, ?_, recorded _ ?_,
      fun same => ?_, fun moved => ?_⟩
    · rw [recomputeDemand_eq]
      rfl
    · simp [replied, u, boostRecord]
    · have flows : boostFlow u = if minutes.toNat = 0 then 0 else flow.toNat := by
        simp only [boostFlow, u, boostRecord]
        by_cases cancelled : minutes.toNat = 0 <;> simp [cancelled]
      rw [demandOf, demandInput, flows]
      rfl
    · have steady : recomputeDemand u = u := recomputeDemand_steady (by simpa [u, replied] using same)
      simp only [replied]
      rw [steady]
      exact ⟨rfl, rfl⟩
    · have d : (recomputeDemand u).demand.d = demandOf u := by simp
      simp only [replied]
      rw [d]
      exact recomputeDemand_moved (s := u) (by simpa [u, replied] using moved)

/-- Settles O33: by whether the flow is in range, then by whether a hold may be taken. -/
theorem holdTakeIsAcceptedInRun : Obligations.HoldTakeIsAcceptedInRun := by
  unfold Obligations.HoldTakeIsAcceptedInRun
  intro flow s powered opened
  refine ⟨fun bad => ?_, fun some low refused => ?_, fun some low run free noDefrost noStop => ?_⟩
  · exact serveRow_replied powered opened (by rw [serveHoldTake, if_pos bad])
  · have good : ¬(flow.toNat = 0 ∨ 2500 < flow.toNat) := by omega
    have shut : holdAllowed s = false := by
      obtain h | h | h | h := refused <;> simp [holdAllowed, h]
    exact serveRow_replied powered opened (by rw [serveHoldTake, if_neg good, shut]; rfl)
  · have good : ¬(flow.toNat = 0 ∨ 2500 < flow.toNat) := by omega
    have allowed : holdAllowed s = true := by simp [holdAllowed, run, free, noDefrost, noStop]
    refine (serveRow_replied powered opened (by rw [serveHoldTake, if_neg good, if_pos allowed]) ).trans ?_
    rw [recomputeDemand_eq]
    simp [replied, demandOf, demandInput, free, noDefrost]

/-! ### The demand second and the timers' ends (R51, R56, R57, R63, R64) -/

/-- Settles O35: the counts by the boost record, the report by the run state and its flag. -/
theorem demandSecondCountsDown : Obligations.DemandSecondCountsDown := by
  unfold Obligations.DemandSecondCountsDown
  intro s powered
  let u := recomputeDemand
    { s with demand := { s.demand with boost := boostSecond s.demand.boost, pullTimer := s.demand.pullTimer - 1 } }
  have counted : Cascade True s u := recompute_cascade _ rfl rfl rfl rfl
  have demand : u.demand = { s.demand with boost := boostSecond s.demand.boost, pullTimer := s.demand.pullTimer - 1,
                                           d := demandOf u } := by simp [u]
  have run : u.demand.runState = s.demand.runState := by rw [demand]
  have raised (src : Source) : flagRaised (report .smokeStop src u) .smokeStop = true := report_flagRaised _ _ _
  have boost (b : HostBoost) (left : s.demand.boost = some b) :
      boostSecond s.demand.boost = if b.seconds ≤ 1 then none else some { b with seconds := b.seconds - 1 } := by
    rw [left, boostSecond]
  have counts : u.demand.pullTimer = s.demand.pullTimer - 1 ∧ (s.demand.boost = none → u.demand.boost = none)
      ∧ (∀ b, s.demand.boost = some b → 1 < b.seconds → u.demand.boost = some { b with seconds := b.seconds - 1 })
      ∧ ∀ b, s.demand.boost = some b → b.seconds ≤ 1 → u.demand.boost = none := by
    rw [demand]
    refine ⟨rfl, fun absent => ?_, fun b left long => ?_, fun b left short => ?_⟩
    · simp [absent, boostSecond]
    · exact (boost b left).trans (if_neg (Nat.not_le.mpr long))
    · exact (boost b left).trans (if_pos short)
  obtain ⟨pull, absent, long, short⟩ := counts
  have kept : u.demand = { s.demand with boost := u.demand.boost, pullTimer := u.demand.pullTimer, d := u.demand.d } := by
    rw [demand]
  have formed : u.demand.d = demandOf u := by rw [demand]
  have arm : exec .demandSecond s = .next (demandSecond s) := exec_powered powered rfl
  by_cases again : s.demand.runState = .smokeStop ∧ flagRaised s .smokeStop = false
  · obtain ⟨src, reported⟩ : ∃ src, demandSecond s = report .smokeStop src u := by
      unfold demandSecond
      dsimp only
      rw [if_pos ⟨run.trans again.1, again.2⟩]
      split
      · exact ⟨_, rfl⟩
      · exact ⟨_, rfl⟩
    have cascade : Cascade True s (report .smokeStop src u) := counted.trans (report_cascade .smokeStop src u)
    rw [reported] at arm
    refine ⟨_, arm, cascade.outer, cascade.reportsOnly, ?_⟩
    rw [(report_frame _ _ _).2.2.2.2.2.1, demandOf_report]
    refine ⟨by simp [u], by simp [u], by simp [u], kept, pull, absent, long, short, formed, ?_, fun _ _ => raised src⟩
    rintro (moving | standing)
    · exact absurd again.1 moving
    · exact absurd standing (by simp [again.2])
  · have silent : demandSecond s = u := by
      unfold demandSecond
      dsimp only
      exact if_neg fun both => again ⟨run.symm.trans both.1, both.2⟩
    rw [silent] at arm
    exact ⟨u, arm, counted.outer, counted.reportsOnly, by simp [u], by simp [u], by simp [u], kept, pull, absent, long,
      short, formed, fun _ => by simp [u], fun stopped clear => absurd ⟨stopped, clear⟩ again⟩

/-- Settles O36: by the recomputation, the silence timer by whether it has ended and a hold is in force. -/
theorem demandTimersExpire : Obligations.DemandTimersExpire := by
  unfold Obligations.DemandTimersExpire
  intro s powered
  refine ⟨⟨_, exec_powered powered rfl, ?_⟩, ⟨_, exec_powered powered rfl, ?_⟩, fun idle => ?_, fun held ended => ?_⟩
  · simp [boostExpired, OuterKept]
  · simp [pullExpired, setPullTimer, OuterKept]
  · have expire : exec .silenceExpiry s = .next (silenceExpired s) := exec_powered powered rfl
    rw [expire]
    obtain none | early := idle
    · simp [silenceExpired, releaseHold, none]
    · rw [silenceExpired_early s early]
  · obtain ⟨f, hold⟩ := Option.isSome_iff_exists.mp held
    have expire : exec .silenceExpiry s = .next (releaseHold .silence s) := by
      refine (exec_powered powered rfl : exec .silenceExpiry s = .next (silenceExpired s)).trans (congrArg _ ?_)
      exact if_pos ended
    have cascade : Cascade True s (releaseHold .silence s) := releaseHold_cascade _ s
    refine ⟨_, expire, cascade.outer, cascade.reportsOnly, by simp, by simp, ?_, ?_⟩
    · simp [releaseHold, hold, demandOf_report]
    · exact releaseHold_reports _ _ held

/-! ### Captures (R114 to R120) -/

theorem namedOfCode_listed {n : Nat} (listed : n ≤ 2) : namedOfCode n = some ⟨n ≠ 1, n ≠ 0⟩ := by
  interval_cases n <;> rfl

theorem namedOfCode_unlisted {n : Nat} (unlisted : 2 < n) : namedOfCode n = none := by
  unfold namedOfCode
  split
  case h_1 | h_2 | h_3 => omega
  case h_4 => rfl

theorem captureAllowed_iff (s : State) :
    captureAllowed s = true ↔
      s.filter.gateOpen = true ∧ s.demand.runState = .run
        ∧ (s.frost.mode = .idle ∨ s.frost.mode = .watch ∨ s.frost.mode = .preheat)
        ∧ s.demand.hold = none ∧ s.filter.capture.state = .none := by
  simp [captureAllowed, and_assoc, or_assoc]

/-- Settles O42: by the code, then by whether a capture may start. -/
theorem filterChangedStartsCapture : Obligations.FilterChangedStartsCapture := by
  unfold Obligations.FilterChangedStartsCapture
  intro filter s powered opened free allowed
  have served := exec_filterRow (c := .filterChanged filter) (req := .changed filter) powered opened free rfl
  refine ⟨fun high => ?_, fun low refused => ?_, fun low accepted => ?_⟩
  · simpa [serveFilter, serveFilterChanged, namedOfCode_unlisted high] using served
  · have shut : captureAllowed s = false := Bool.eq_false_iff.mpr fun yes => refused ((captureAllowed_iff s).mp yes)
    simpa [serveFilter, serveFilterChanged, namedOfCode_listed low, shut] using served
  · have yes : captureAllowed s = true := (captureAllowed_iff s).mpr accepted
    have calm : s.frost.mode ≠ .defrost := by
      obtain ⟨_, _, h | h | h, _⟩ := accepted <;> simp [h]
    simp only [serveFilter, serveFilterChanged, namedOfCode_listed low, yes, if_true] at served
    refine ⟨_, served, ?_, ?_, ?_, ?_⟩
    all_goals rw [startCapture, captureReport]
    · rw [recomputeDemand_eq]
      simp [replied, calm]
    · simp [replied, demandOf, demandInput]
    · intro moved
      simp only [replied, recomputeDemand_demand] at moved ⊢
      exact (recomputeDemand_moved moved).1
    · simp [replied, Capture.empty]

/-- An abort clears the capture record, has D follow and raises CAPTURE ABORTED (R120). -/
theorem abortCapture_effect {s : State} (c : CaptureCause) (present : s.filter.capture.state ≠ .none) :
    (abortCapture c s).filter = { s.filter with capture := Capture.empty }
      ∧ (abortCapture c s).demand = { s.demand with captureInForce := false, d := demandOf (abortCapture c s) }
      ∧ flagRaised (abortCapture c s) .captureAborted = true := by
  have aborted : abortCapture c s = report .captureAborted (.capture c)
      (captureReport false { s with filter := { s.filter with capture := Capture.empty } }) := if_neg present
  rw [aborted]
  refine ⟨by simp, ?_, report_flagRaised _ _ _⟩
  rw [demandOf_report, captureReport]
  simp

theorem report_lamp (k : EventKind) (src : Source) (s : State) : (report k src s).lines.lamp = s.lines.lamp := by
  unfold report raiseFlag judgeSevere
  split <;> split <;> simp

theorem reportAll_lamp (os : List (EventKind × Source)) (s : State) : (reportAll os s).lines.lamp = s.lines.lamp := by
  induction os generalizing s with
  | nil => rfl
  | cons o os ih => exact (ih _).trans (report_lamp _ _ _)

/-- FILTER LAMP follows the records (R165). -/
theorem reportLamp_lamp (s : State) : (reportLamp s).lines.lamp = lampWanted s.filter.records := by
  unfold reportLamp
  split
  · rename_i same
    exact same.symm
  · rfl

/-- The records that a completed capture leaves (R117). -/
def capturedRecords (s : State) : PerStream FilterRec :=
  let c := s.filter.capture
  { supply := recordAfterCapture c .supply s.filter.records.supply
    extract := recordAfterCapture c .extract s.filter.records.extract }

/-- A capture completed with samples of each named filter (R117, R165). -/
theorem endCaptureRun_effect {s : State} (running : s.filter.capture.state = .run)
    (complete : (lacksSamples s.filter.capture .supply || lacksSamples s.filter.capture .extract) = false) :
    let t := endCaptureRun s
    t.filter = { s.filter with capture := Capture.empty, records := capturedRecords s, rewriting := true }
      ∧ t.demand = { s.demand with captureInForce := false, d := demandOf t }
      ∧ t.lines.lamp = lampWanted (capturedRecords s)
      ∧ ∀ x, s.filter.capture.named.get x = true → flagRaised t .captureDone = true := by
  intro t
  let lit := reportLamp { s with filter := { s.filter with records := capturedRecords s, capture := Capture.empty } }
  let reports := doneReports s.filter.capture .supply ++ doneReports s.filter.capture .extract
  have ended : t = reportAll reports (captureReport false (orderRewrite lit)) := by
    simp only [t, endCaptureRun, complete, if_neg (not_not.mpr running)]
    rfl
  rw [ended]
  refine ⟨?_, ?_, ?_, fun x named => ?_⟩
  · simp [lit, orderRewrite]
  · rw [demandOf_reportAll, captureReport]
    simp [lit, orderRewrite]
  · rw [reportAll_lamp]
    simp only [captureReport_frame]
    exact reportLamp_lamp _
  · refine reportAll_flagRaised reports .captureDone (.filter x) _ (List.mem_append.mpr ?_)
    cases x
    · exact .inl (by simp [doneReports, named])
    · exact .inr (by simp [doneReports, named])

theorem lacksSamples_iff (c : Capture) :
    (lacksSamples c .supply || lacksSamples c .extract) = true ↔ ∃ x, c.named.get x = true ∧ c.count.get x = 0 := by
  simp only [lacksSamples, Bool.or_eq_true, Bool.and_eq_true, beq_iff_eq]
  refine ⟨?_, ?_⟩
  · rintro (lack | lack)
    · exact ⟨.supply, lack⟩
    · exact ⟨.extract, lack⟩
  · rintro ⟨x, lack⟩
    cases x
    · exact .inl lack
    · exact .inr lack

/-- Settles O43: each expiry by the state of the capture, the run's end by whether a named filter lacks samples. -/
theorem captureEnds : Obligations.CaptureEnds := by
  unfold Obligations.CaptureEnds
  intro s powered free c lacks aborted
  have taken {i : Instr} {e : FilterEvent} (arm : exec i s = whilePowered (filterPost e) s) :
      exec i s = .next (filterTake e s) := by
    rw [exec_powered powered arm, filterPost_taken e s free]
  have abort {i : Instr} {cause : CaptureCause} (present : c.state ≠ .none)
      (run : exec i s = .next (abortCapture cause s)) : aborted i := by
    have cascade : Cascade True s (abortCapture cause s) := abortCapture_cascade cause s
    exact ⟨_, run, cascade.outer, cascade.reportsOnly, by simp, by simp, abortCapture_effect cause present⟩
  have wait : exec .captureWaitTimeout s = .next (if c.state = .wait then abortCapture .timeout s else s) :=
    taken (e := .waitTimeout) rfl
  have lock (x : Stream) : exec (.lockOutExpiry x) s = .next (lockOutExpired x s) := taken (e := .lockOut x) rfl
  have ends : exec .captureRunEnd s = .next (endCaptureRun s) := taken (e := .runEnd) rfl
  refine ⟨fun other => ?_, fun waiting => ?_, fun x stopped => ?_, fun x running timer => ?_, fun other => ?_,
    fun running lack => ?_, fun running complete => ?_⟩
  · rw [wait, if_neg other]
  · exact abort (by simp [waiting]) (wait.trans (by rw [if_pos waiting]))
  · rw [lock]
    refine congrArg _ (if_neg fun both => ?_)
    obtain other | absent := stopped
    · exact other both.1
    · exact absurd both.2 (by simp [c, absent])
  · exact abort (by simp [running]) ((lock x).trans (congrArg _ (if_pos ⟨running, timer⟩)))
  · rw [ends]
    exact congrArg _ (if_pos other)
  · refine abort (cause := .noSamples) (by simp [running]) (ends.trans (congrArg _ ?_))
    exact (if_neg (not_not.mpr running)).trans (if_pos ((lacksSamples_iff c).mpr lack))
  · have sampled : (lacksSamples c .supply || lacksSamples c .extract) = false :=
      Bool.eq_false_iff.mpr fun lack => complete ((lacksSamples_iff c).mp lack)
    have cascade : Cascade True s (endCaptureRun s) := endCaptureRun_cascade s
    obtain ⟨filter, demand, lamp, done⟩ := endCaptureRun_effect running sampled
    have records : (endCaptureRun s).filter.records = capturedRecords s := by rw [filter]
    have record (x : Stream) :
        (capturedRecords s).get x = recordAfterCapture c x (s.filter.records.get x) := by cases x <;> rfl
    refine ⟨_, ends, cascade.outer, cascade.reportsOnly, by simp, by simp, ?_, demand, ?_, fun x => ?_⟩
    · rw [records]
      exact filter
    · rw [records]
      exact lamp
    · rw [records, record]
      refine ⟨fun unnamed => ?_, fun named => ⟨done x named, ?_⟩⟩
      · simp [recordAfterCapture, unnamed]
      · simp [recordAfterCapture, named, capturedRecord, saturate]

end Sys2Proof.Machine
end

section
/-! What every kind of reset leaves (O15, O16, O17). -/

namespace Sys2Proof.Machine

/-! ### The state a reset finds -/

/-- What the kinds of reset do to the two persistent stores before the load (R102, R197, R200). -/
def foundAtReset (c : Instr) (s : State) : State :=
  match c with
  | .resetLine touched => cutSave touched (finishRewrite s)
  | .restartReset => finishSave (finishRewrite s)
  | _ => s

/-- Every command taken as a reset is the reset of the state it finds (R198). -/
theorem exec_reset {c : Instr} {kind : ResetKind} {s : State} (taken : TakesReset s c kind) :
    exec c s = .next (resetTo kind (foundAtReset c s)) := by
  cases taken with
  | powerUp => rfl
  | resetLine touched powered =>
    exact exec_powered (f := fun s => resetTo .resetLine (cutSave touched (finishRewrite s))) powered rfl
  | restart powered closed =>
    refine (exec_powered powered rfl : exec .restartReset s = .next (restartReset s)).trans (congrArg _ ?_)
    exact if_pos closed

theorem finishRewrite_eq (s : State) :
    finishRewrite s =
      { s with
        filter :=
          { s.filter with
            store := if s.filter.rewriting then storeImage s.filter.records else s.filter.store, rewriting := false } } := by
  unfold finishRewrite
  cases rewriting : s.filter.rewriting with
  | true => rfl
  | false =>
    ext1
    case filter => exact (congrArg (fun b => { s.filter with rewriting := b }) rewriting)
    all_goals rfl

theorem finishSave_eq (s : State) : finishSave s = { s with store := (finishSave s).store } := by
  unfold finishSave
  split <;> rfl

theorem cutSave_eq (touched : Bool) (s : State) : cutSave touched s = { s with store := (cutSave touched s).store } := by
  unfold cutSave
  split <;> rfl

/-- A reset finds every block but the two stores as the command before left it. -/
theorem foundAtReset_keeps (c : Instr) (s : State) :
    (foundAtReset c s).lines = s.lines ∧ (foundAtReset c s).pending = s.pending := by
  unfold foundAtReset
  split
  · rw [cutSave_eq, finishRewrite_eq]
    exact ⟨rfl, rfl⟩
  · rw [finishSave_eq, finishRewrite_eq]
    exact ⟨rfl, rfl⟩
  · exact ⟨rfl, rfl⟩

/-! ### The blocks (R19, R45, R73, R98, R124, R143, R158, R194) -/

theorem resetTo_link (kind : ResetKind) (s : State) :
    (resetTo kind s).link = { linkAtReset with queueNotEmpty := (resetTo kind s).link.queueNotEmpty } := by
  have blocks : (blocksReset kind s).link = linkAtReset := by simp [blocksReset]
  exact (reportAll_link _ _).trans (congrArg (fun k => { k with queueNotEmpty := (resetTo kind s).link.queueNotEmpty }) blocks)

theorem resetTo_seconds (kind : ResetKind) (s : State) : (resetTo kind s).events.seconds = 0 := by
  have blocks : (blocksReset kind s).events = eventsAtReset := by simp [blocksReset]
  exact (reportAll_seconds _ _).trans (congrArg Events.seconds blocks)

/-- A state whose blocks have the reset values of a working set (R19, R45, R73, R98, R124, R143, R158, R194). -/
structure AtReset (set : Settings) (t : State) : Prop where
  settings : t.settings = set
  measurement : t.measurement = measurementAtReset
  loops : t.loops = ⟨LoopRec.atReset set.loops.supply.window, LoopRec.atReset set.loops.extract.window⟩
  demand : t.demand = demandAtReset set
  governor : t.governor = governorAtReset set
  frost : t.frost = frostAtReset set
  bus : t.bus = busAtReset set
  humidity : t.humidity = humidityAtReset set
  link : t.link = { linkAtReset with queueNotEmpty := t.link.queueNotEmpty }
  seconds : t.events.seconds = 0

theorem resetTo_atReset (kind : ResetKind) (s : State) : AtReset (loadedSettings s.store) (resetTo kind s) := by
  obtain ⟨_, settings, _, measurement, loops, demand, governor, frost, _, bus, humidity, _⟩ := resetTo_blocks kind s
  exact ⟨settings, measurement, loops, demand, governor, frost, bus, humidity, resetTo_link kind s,
    resetTo_seconds kind s⟩

theorem exec_atReset {c : Instr} {kind : ResetKind} {s : State} (taken : TakesReset s c kind) :
    ∃ set t, exec c s = .next t ∧ AtReset set t ∧ t.powered = true ∧ t.store.resetKind = kind ∧ t.store.saving = none
      ∧ t.pending = s.pending ∧ t.filter = filterAtReset (foundAtReset c s).filter.store := by
  obtain ⟨powered, _, store, _, _, _, _, _, filter, _, _, queue⟩ := resetTo_blocks kind (foundAtReset c s)
  exact ⟨_, _, exec_reset taken, resetTo_atReset kind _, powered, congrArg SettingsStore.resetKind store,
    congrArg SettingsStore.saving store, queue.trans (foundAtReset_keeps c s).2, filter⟩

theorem AtReset.loop {set : Settings} {t : State} (h : AtReset set t) (x : Stream) :
    t.loops.get x = LoopRec.atReset (t.settings.loops.get x).window := by
  rw [h.loops, h.settings]
  cases x <;> rfl

theorem AtReset.channel {set : Settings} {t : State} (h : AtReset set t) (ch : Channel) :
    t.measurement.channels.get ch = ChannelRec.atReset := by
  rw [h.measurement]
  cases ch <;> rfl

/-- Settles O15, from the reset values that the loaded working set gives the blocks. -/
theorem resetValuesOfAirBlocks : Obligations.ResetValuesOfAirBlocks := by
  unfold Obligations.ResetValuesOfAirBlocks
  intro c kind s taken
  obtain ⟨set, t, run, reset, _⟩ := exec_atReset taken
  rw [run]
  refine ⟨t, rfl, ?_⟩
  rw [reset.demand, reset.governor, reset.settings]
  have unit := reset.measurement
  refine ⟨by rw [unit]; rfl, by rw [unit]; rfl, by rw [unit]; rfl, by rw [unit]; rfl, reset.channel, fun x => ?_, rfl, rfl,
    rfl, rfl, rfl, rfl, rfl, rfl, rfl, rfl, rfl, rfl, rfl, rfl, rfl, rfl, rfl⟩
  simp [reset.loop, reset.settings, LoopRec.atReset]

theorem AtReset.slot {set : Settings} {t : State} (h : AtReset set t) (k : Slot) :
    t.bus.slots.get k =
      { state := if (t.settings.slots.get k).isSome then .active else .empty, reading := none, held := false,
        lastGood := none, miss := 0, injection := 0, outcome := .none, expiry := none } := by
  rw [h.bus, h.settings, busAtReset, PerSlot.get_update]
  cases set.slots.get k <;> rfl

/-- Settles O16, likewise. -/
theorem resetValuesOfOtherBlocks : Obligations.ResetValuesOfOtherBlocks := by
  unfold Obligations.ResetValuesOfOtherBlocks
  intro c kind s taken
  obtain ⟨set, t, run, reset, powered, resetKind, saving, pending, filter⟩ := exec_atReset taken
  have humid := reset.humidity
  rw [run]
  refine ⟨t, rfl, powered, resetKind, saving, pending, reset.seconds, ?_⟩
  rw [reset.frost, reset.demand, filter, reset.link]
  refine ⟨rfl, rfl, rfl, rfl, rfl, rfl, rfl, rfl, rfl, rfl, rfl, rfl, rfl, rfl, rfl, rfl, rfl, rfl, rfl, ?_, ?_,
    reset.slot, fun k => ?_, ?_, ?_, ?_, rfl, rfl, rfl, rfl, rfl, rfl, rfl, rfl, rfl⟩
  · rw [reset.bus]
    rfl
  · rw [reset.bus, reset.settings]
    rfl
  · rw [humid]
    exact PerSlot.get_const _ k
  · rw [humid, reset.settings]
    rfl
  · rw [humid]
    rfl
  · rw [humid, reset.settings]
    rfl

/-! ### The lines (R170) -/

/-- Every line has the latch given and no sample, settled level, mismatch or fault, and drives what its configuration
gives. -/
def LinesFresh (latch : Line → Bool) (s : State) : Prop :=
  ∀ l, let r := s.lines.table.get l
    r.latch = latch l ∧ r.sample = none ∧ r.sampleRun = 0 ∧ r.settled = none ∧ r.mismatch = 0 ∧ r.fault = false
      ∧ r.driven = drivenLevel s.lines (s.settings.lines.get l) r.latch

theorem driveRec_clean (u : Lines) (c : LineConfig) {r : LineRec} (mismatch : r.mismatch = 0) (fault : r.fault = false) :
    (driveRec u c r).mismatch = 0 ∧ (driveRec u c r).fault = false := by
  unfold driveRec
  split
  · exact ⟨mismatch, fault⟩
  · exact ⟨rfl, rfl⟩

/-- Lines driven from fresh records are fresh. -/
theorem driveLines_fresh {latch : Line → Bool} {s : State}
    (fresh : ∀ l, let r := s.lines.table.get l
      r.latch = latch l ∧ r.sample = none ∧ r.sampleRun = 0 ∧ r.settled = none ∧ r.mismatch = 0 ∧ r.fault = false) :
    LinesFresh latch (driveLines s) := by
  intro l
  obtain ⟨kept, sample, run, settled, mismatch, fault⟩ := fresh l
  obtain ⟨latch', sample', run', settled', driven⟩ := driveRec_fields s.lines (s.settings.lines.get l) (s.lines.table.get l)
  obtain ⟨clean, sound⟩ := driveRec_clean s.lines (s.settings.lines.get l) mismatch fault
  rw [driveLines_line]
  refine ⟨latch'.trans kept, sample'.trans sample, run'.trans run, settled'.trans settled, clean, sound, ?_⟩
  rw [driven, latch']
  rfl

theorem LinesFresh.setAlarm {latch : Line → Bool} {s : State} (fresh : LinesFresh latch s) (b : Bool) :
    LinesFresh latch (setAlarm b s) := by
  refine driveLines_fresh fun l => ?_
  obtain ⟨kept, sample, run, settled, mismatch, fault, _⟩ := fresh l
  exact ⟨kept, sample, run, settled, mismatch, fault⟩

theorem LinesFresh.report {latch : Line → Bool} {s : State} (fresh : LinesFresh latch s) (k : EventKind) (src : Source) :
    LinesFresh latch (report k src s) := by
  have raised : LinesFresh latch (raiseFlag k s) := by
    unfold raiseFlag judgeSevere
    split
    · exact fresh
    · exact LinesFresh.setAlarm (s := { s with events := _ }) fresh _
  unfold Machine.report
  split
  · exact raised
  · exact raised

theorem LinesFresh.reportAll {latch : Line → Bool} {s : State} (fresh : LinesFresh latch s)
    (os : List (EventKind × Source)) : LinesFresh latch (reportAll os s) := by
  induction os generalizing s with
  | nil => exact fresh
  | cons o os ih => exact ih (fresh.report o.1 o.2)



theorem reportAll_heater (os : List (EventKind × Source)) (s : State) :
    (reportAll os s).lines.heater = s.lines.heater := by
  induction os generalizing s with
  | nil => rfl
  | cons o os ih => exact (ih _).trans (report_heater _ _ _)

theorem blocksReset_fresh (kind : ResetKind) (s : State) :
    LinesFresh (fun l => latchAfter kind (s.lines.table.get l).latch) (blocksReset kind s) := by
  refine driveLines_fresh fun l => ?_
  simp [linesAtReset, LineRec.atReset]

theorem latchAfter_eq (kind : ResetKind) (latch : Bool) :
    latchAfter kind latch = if kind = .powerUp then false else latch := by
  cases kind <;> rfl

/-- Settles O17: the lines driven at the reset stay fresh through the start occurrences. -/
theorem resetOfTheLines : Obligations.ResetOfTheLines := by
  unfold Obligations.ResetOfTheLines
  intro c kind s taken
  obtain ⟨lines, _⟩ := foundAtReset_keeps c s
  have fresh := (blocksReset_fresh kind (foundAtReset c s)).reportAll (startOccurrences (blocksReset kind (foundAtReset c s)))
  refine ⟨_, exec_reset taken, ?_, ?_, fun l => ?_⟩
  · rw [resetTo, reportAll_heater]
    rfl
  · rw [resetTo, reportAll_lamp]
    simp [blocksReset, linesAtReset, filterAtReset]
  · obtain ⟨latch, rest⟩ := fresh l
    refine ⟨latch.trans ?_, rest⟩
    rw [lines]
    exact latchAfter_eq _ _

end Sys2Proof.Machine
end

section
/-! The persistent stores at a reset and at the loss of the core supply (O13, O14, O18, O19). -/

namespace Sys2Proof.Machine

/-! ### Loading a bank (R197) -/

theorem loadedSettings_of_bank {st : SettingsStore} {i : BankId} (load : loadBank st = some i) :
    loadedSettings st = (bankOf st i).image := by
  rw [loadedSettings, loadedImage, load]
  rfl

theorem loadedSettings_of_none {st : SettingsStore} (load : loadBank st = none) :
    loadedSettings st = Settings.defaults := by
  rw [loadedSettings, loadedImage, load]
  rfl

theorem storeLoaded_verdict {kind : ResetKind} (st : SettingsStore) :
    (storeLoaded kind st).verdict = if (loadBank st).isSome then .loaded else .defaulted := by
  simp only [storeLoaded, loadedImage, Option.isSome_map]

/-- The bank loaded, by the validity of the two. -/
theorem loadBank_cases (st : SettingsStore) :
    (bankValid st.bank0 = true → bankValid st.bank1 = true →
      loadBank st = some (laterBank st.bank0.generation st.bank1.generation))
      ∧ (bankValid st.bank0 = true → bankValid st.bank1 = false → loadBank st = some .bank0)
      ∧ (bankValid st.bank0 = false → bankValid st.bank1 = true → loadBank st = some .bank1)
      ∧ (bankValid st.bank0 = false → bankValid st.bank1 = false → loadBank st = none) :=
  ⟨fun h₀ h₁ => loadBank_of_valid st true true h₀ h₁, fun h₀ h₁ => loadBank_of_valid st true false h₀ h₁,
    fun h₀ h₁ => loadBank_of_valid st false true h₀ h₁, fun h₀ h₁ => loadBank_of_valid st false false h₀ h₁⟩

theorem laterBank_eq (a b : Bank) (st : SettingsStore) (first : st.bank0 = a) (second : st.bank1 = b) :
    ((bankOf st (laterBank a.generation b.generation)).image, some (laterBank a.generation b.generation)) =
      (if a.generation = (b.generation + 1) % 65536 then (a.image, some BankId.bank0)
        else if b.generation = (a.generation + 1) % 65536 then (b.image, some BankId.bank1)
        else if a.generation < b.generation then (b.image, some BankId.bank1) else (a.image, some BankId.bank0)) := by
  subst first second
  unfold laterBank
  (repeat' split) <;> rfl

/-- A generation that follows another is the later one (R197). -/
theorem laterBank_second (g : Nat) : laterBank g ((g + 1) % 65536) = .bank1 := by
  unfold laterBank
  rw [if_neg (by omega), if_pos rfl]

theorem laterBank_first (g : Nat) : laterBank ((g + 1) % 65536) g = .bank0 := if_pos rfl

/-- The bank that a save has written is the one a load takes (R196, R197). -/
theorem loadBank_bankWritten (image : Settings) {st : SettingsStore}
    (fresh : st.current = none → bankValid st.bank1 = false) :
    loadBank (bankWritten image st) = some (targetBank st) := by
  have valid (g : Nat) : bankValid (wholeBank image g) = true := wholeBank_valid image g
  obtain ⟨both, only0, only1, _⟩ := loadBank_cases (bankWritten image st)
  cases current : st.current with
  | none =>
    have target : targetBank st = .bank0 := by rw [targetBank, current]
    have bank0 : (bankWritten image st).bank0 = wholeBank image (nextGeneration st) := by
      simp only [bankWritten, target, putBank]
    have bank1 : (bankWritten image st).bank1 = st.bank1 := by simp only [bankWritten, target, putBank]
    rw [bank0, bank1] at only0
    rw [target]
    exact only0 (valid _) (fresh current)
  | some i =>
    cases i with
    | bank0 =>
      have target : targetBank st = .bank1 := by rw [targetBank, current]
      have bank0 : (bankWritten image st).bank0 = st.bank0 := by simp only [bankWritten, target, putBank]
      have bank1 : (bankWritten image st).bank1 = wholeBank image ((st.bank0.generation + 1) % 65536) := by
        simp only [bankWritten, target, putBank, nextGeneration, current, bankOf]
      rw [bank0, bank1] at both only1
      rw [target]
      cases other : bankValid st.bank0 with
      | true => exact (both other (valid _)).trans (congrArg some (laterBank_second _))
      | false => exact only1 other (valid _)
    | bank1 =>
      have target : targetBank st = .bank0 := by rw [targetBank, current]
      have bank0 : (bankWritten image st).bank0 = wholeBank image ((st.bank1.generation + 1) % 65536) := by
        simp only [bankWritten, target, putBank, nextGeneration, current, bankOf]
      have bank1 : (bankWritten image st).bank1 = st.bank1 := by simp only [bankWritten, target, putBank]
      rw [bank0, bank1] at both only0
      rw [target]
      cases other : bankValid st.bank1 with
      | true => exact (both (valid _) other).trans (congrArg some (laterBank_first _))
      | false => exact only0 (valid _) other

theorem loadedSettings_bankWritten (image : Settings) {st : SettingsStore}
    (fresh : st.current = none → bankValid st.bank1 = false) : loadedSettings (bankWritten image st) = image := by
  rw [loadedSettings_of_bank (loadBank_bankWritten image fresh)]
  have written : bankOf (bankWritten image st) (targetBank st) = wholeBank image (nextGeneration st) :=
    bankOf_putBank_same (targetBank st) (wholeBank image (nextGeneration st)) st
  rw [written]
  rfl

/-! ### A working set saved and loaded again (R196, R197) -/

/-- Settles O14: the save writes the bank that the reset then finds later than the other, or alone valid. -/
theorem savedSettingsAreLoaded : Obligations.SavedSettingsAreLoaded := by
  unfold Obligations.SavedSettingsAreLoaded
  intro touched s powered opened idle consistent
  let saving := replied (doneWith []) { s with store := { s.store with saving := some s.settings } }
  have save : exec .settingsSave s = .next saving :=
    serveRow_replied powered opened (by rw [serveSettingsSave, idle]; rfl)
  let saved := report .saveDone .none { saving with store := bankWritten s.settings saving.store }
  have complete : exec .saveComplete saving = .next saved := exec_powered (s := saving) (f := saveComplete) powered rfl
  have store : saved.store = bankWritten s.settings saving.store := by simp [saved]
  have taken : TakesReset saved (.resetLine touched) .resetLine := .resetLine touched (by simp [saved, saving, replied, powered])
  have found : (foundAtReset (.resetLine touched) saved).store = bankWritten s.settings saving.store := by
    have none_left : (finishRewrite saved).store.saving = none := by
      rw [finishRewrite_eq, store]
      rfl
    have uncut : cutSave touched (finishRewrite saved) = finishRewrite saved := by rw [cutSave, none_left]
    rw [foundAtReset, uncut, finishRewrite_eq, store]
  have fresh : saving.store.current = none → bankValid saving.store.bank1 = false := fun none => (consistent none).2
  have load := loadBank_bankWritten s.settings fresh
  have settings := loadedSettings_bankWritten s.settings fresh
  obtain ⟨_, loaded, stored, _⟩ := resetTo_blocks .resetLine (foundAtReset (.resetLine touched) saved)
  rw [found] at loaded stored
  refine ⟨_, ?_, loaded.trans settings, ?_, congrArg SettingsStore.saving stored⟩
  · rw [runCommands, save]
    dsimp only
    rw [runCommands, complete]
    dsimp only
    rw [runCommands, exec_reset taken]
    rfl
  · rw [stored, storeLoaded_verdict, load]
    rfl

/-! ### The loss of the core supply (R102, R197) -/

theorem row_idle {o : Host.Outcome State Fault Refusal} {f : State → State} {s : State} (off : s.powered = false)
    (row : o = whilePowered f s) : o = .next s :=
  row.trans (whilePowered_off f s off)

theorem request_idle {c : Instr} {s : State} (request : isRequest c = true) (off : s.powered = false) :
    exec c s = .next s := by
  obtain ⟨f, row⟩ := request_row request
  exact row_idle (f := fun s => if s.link.closed then s else f s) off (row s)

/-- A part without its supply ignores every command but POWER UP (log 15). -/
theorem exec_idle {c : Instr} {s : State} (off : s.powered = false) (other : c ≠ .powerUp) : exec c s = .next s := by
  cases c with
  | powerUp => exact absurd rfl other
  | resetLine touched =>
    exact row_idle (f := fun s => resetTo .resetLine (cutSave touched (finishRewrite s))) off rfl
  | answerComplete bytes => exact row_idle (f := fun s => bytes.foldl receiveBusByte s) off rfl
  | sensorBusByteReceived b good =>
    exact row_idle (f := fun s => receiveBusByte s { value := b, stopGood := good }) off rfl
  | coreSupplyLoss vbk written touched => exact row_idle (f := supplyLoss vbk written touched) off rfl
  | sampleEvent _ | secondEnd | tachEdge _ _ | windowEnd _ | exhaustionSignal | frostPeriod | htoOnTimeEnd
  | defrostMaximumExpiry | stopTimerExpiry | demandSecond | hostBoostExpiry | pullSwitchTimerExpiry | silenceExpiry
  | filterMinute | rewriteEnd | captureWaitTimeout | captureRunEnd | lockOutExpiry _ | pollPeriodStart | poll
  | answerWindowClose | holdExpiry _ | humidityMinute | auxSampleEvent _ | resetSecondTick | frameReceived _ _ _ _
  | frameDiscard | frameGapTimeout | huntTimeout | transmitEnd | traceDue | linkByteReceived _ _ | restartReset
  | saveComplete => exact row_idle off rfl
  | _ => exact request_idle rfl off

theorem targetBank_eq (st : SettingsStore) :
    targetBank st = if st.current = some .bank0 then .bank1 else .bank0 := by
  unfold targetBank
  rcases st.current with _ | _ | _ <;> rfl

/-- What a cut save leaves of the store (R197): the bank it wrote is not valid once one of its bytes had changed. -/
theorem cutSave_store (touched : Bool) (s : State) :
    let st := (cutSave touched s).store
    st.saving = none ∧ st.current = s.store.current ∧ st.verdict = s.store.verdict ∧ st.resetKind = s.store.resetKind
      ∧ (s.store.saving = none ∨ touched = false → st.bank0 = s.store.bank0 ∧ st.bank1 = s.store.bank1)
      ∧ (s.store.saving.isSome = true → touched = true →
          (s.store.current = some .bank0 → st.bank0 = s.store.bank0 ∧ bankValid st.bank1 = false)
            ∧ (s.store.current ≠ some .bank0 → bankValid st.bank0 = false ∧ st.bank1 = s.store.bank1)) := by
  unfold cutSave
  cases saving : s.store.saving with
  | none => exact ⟨saving, rfl, rfl, rfl, fun _ => ⟨rfl, rfl⟩, fun some => nomatch some⟩
  | some image =>
    cases touched with
    | false => exact ⟨rfl, rfl, rfl, rfl, fun _ => ⟨rfl, rfl⟩, fun _ cut => nomatch cut⟩
    | true =>
      simp only [storeCut, if_true, targetBank_eq]
      have cut := cutBank_valid image (nextGeneration s.store)
      generalize cutBank image (nextGeneration s.store) = bank at cut ⊢
      by_cases onBank0 : s.store.current = some .bank0 <;> simp [onBank0, putBank, cut]

/-- Settles O19: the settings store by whether a save was cut, the retained store by VBK and by whether a rewrite was. -/
theorem supplyLossStopsThePart : Obligations.SupplyLossStopsThePart := by
  unfold Obligations.SupplyLossStopsThePart
  refine ⟨fun vbk written touched s powered within => ?_, fun c s off other => exec_idle off other⟩
  have loss : exec (.coreSupplyLoss vbk written touched) s = .next (supplyLoss vbk written touched s) :=
    exec_powered (f := supplyLoss vbk written touched) powered rfl
  obtain ⟨saving, current, verdict, kind, kept, cut⟩ := cutSave_store touched s
  have filter : (cutSave touched s).filter = s.filter := by rw [cutSave_eq]
  refine ⟨_, loss, ?_, saving, current, verdict, kind, kept, cut, fun lost => ?_, fun held idle => ?_,
    fun held busy => ?_⟩
  · unfold supplyLoss
    rw [cutSave_eq]
  all_goals simp only [supplyLoss, filter]
  · rw [storeAfterLoss, lost]
    exact blankStore_check
  · rw [storeAfterLoss, held, idle]
    rfl
  · rw [storeAfterLoss, held, busy]
    exact congrArg (fun n => (storeImage s.filter.records).take n ++ s.filter.store.drop n) (Nat.min_eq_left within)

end Sys2Proof.Machine
end

section
/-! The round trip of the retained store (O13), and what a reset loads, judges and reports (O18). -/

namespace Sys2Proof.Machine

/-! ### Records in the retained store (R99, R100, R101) -/

theorem natOfBytes_u8 {n : Nat} (within : n < 256) : natOfBytes (u8 n) = n := by
  simp [natOfBytes, u8, Nat.mod_eq_of_lt within]

theorem natOfBytes_u16 {n : Nat} (within : n < 65536) : natOfBytes (u16 n) = n := by
  simp only [natOfBytes, u16, List.foldl_cons, List.foldl_nil, BitVec.toNat_ofNat]
  omega

theorem natOfBytes_u32 {n : Nat} (within : n < 4294967296) : natOfBytes (u32 n) = n := by
  simp only [natOfBytes, u32, List.foldl_cons, List.foldl_nil, BitVec.toNat_ofNat]
  omega

theorem serviceOfCode_serviceCode (s : Service) : serviceOfCode (natOfBytes (u8 (serviceCode s))) = s := by
  cases s <;> rfl

theorem mark_read (b : Bool) : decide (natOfBytes (mark b) ≠ 0) = b := by
  cases b <;> rfl

/-- The two bytes of a baseline, 0 for none (R100). -/
theorem baseline_read {b : Option Nat} (within : ∀ v ∈ b, 5 ≤ v ∧ v ≤ 500) :
    (if natOfBytes (optU16 0 b) = 0 then none else some (natOfBytes (optU16 0 b))) = b := by
  cases b with
  | none => exact if_pos (natOfBytes_u16 (by omega))
  | some v =>
    obtain ⟨low, high⟩ := within v rfl
    have read : natOfBytes (optU16 0 (some v)) = v := natOfBytes_u16 (by omega)
    rw [read, if_neg (by omega)]

theorem optU16_bytes (b : Option Nat) : ∃ h l : Byte, optU16 0 b = [h, l] := by
  cases b <;> exact ⟨_, _, rfl⟩

/-- A record in its ranges reads back from its 20 bytes (R99, R100). -/
theorem recordOfBytes_recordBytes {r : FilterRec} (within : recordInRange r) : recordOfBytes (recordBytes r) = r := by
  obtain ⟨volume, carry, minutes, baseline, dpAvg, changes⟩ := within
  simp only [Config.maxVolume, Config.cubicMetre, Config.maxServiceMinutes] at volume carry minutes
  have read := baseline_read baseline
  obtain ⟨h, l, two⟩ := optU16_bytes r.baseline
  rw [two] at read
  have fields : recordOfBytes (recordBytes r) =
      { volume := natOfBytes (u32 r.volume), carry := natOfBytes (u32 r.carry), minutes := natOfBytes (u32 r.minutes)
        baseline := if natOfBytes [h, l] = 0 then none else some (natOfBytes [h, l])
        dpAvg := natOfBytes (u16 r.dpAvg), service := serviceOfCode (natOfBytes (u8 (serviceCode r.service)))
        blocked := natOfBytes (mark r.blocked) ≠ 0, changes := natOfBytes (u16 r.changes) } := by
    rw [recordBytes, two]
    rfl
  rw [fields, natOfBytes_u32 (by omega), natOfBytes_u32 (by omega), natOfBytes_u32 (by omega), read,
    natOfBytes_u16 (by omega), serviceOfCode_serviceCode, mark_read, natOfBytes_u16 (by omega)]

theorem recordBytes_length (r : FilterRec) : (recordBytes r).length = 20 := by
  obtain ⟨h, l, two⟩ := optU16_bytes r.baseline
  rw [recordBytes, two]
  rfl

theorem checkBytes_length : checkBytes.length = 8 := by decide

theorem recordsBytes_length (p : PerStream FilterRec) : (recordsBytes p).length = 40 := by
  simp [recordsBytes, recordBytes_length]

/-- A store written whole by a rewrite meets its check and holds the records (R100, R101). -/
theorem storeImage_read (p : PerStream FilterRec) :
    storeGood (storeImage p) = true
      ∧ storeRecords (storeImage p) = ⟨recordOfBytes (recordBytes p.supply), recordOfBytes (recordBytes p.extract)⟩ := by
  have check : (storeImage p).take 8 = checkBytes := by
    rw [storeImage, List.append_assoc, List.take_left' checkBytes_length]
  have rest : (storeImage p).drop 8 = recordsBytes p ++ u16 (crc16 (recordsBytes p)).toNat := by
    rw [storeImage, List.append_assoc, List.drop_left' checkBytes_length]
  have records : ((storeImage p).drop 8).take 40 = recordsBytes p := by
    rw [rest, List.take_left' (recordsBytes_length p)]
  have crc : (storeImage p).drop 48 = u16 (crc16 (recordsBytes p)).toNat := by
    rw [storeImage, List.drop_left' (by simp [checkBytes_length, recordsBytes_length])]
  have second : (storeImage p).drop 28 = recordBytes p.extract ++ u16 (crc16 (recordsBytes p)).toNat := by
    rw [storeImage, recordsBytes, ← List.append_assoc, List.append_assoc (checkBytes ++ recordBytes p.supply),
      List.drop_left' (by simp [checkBytes_length, recordBytes_length])]
  refine ⟨?_, ?_⟩
  · rw [storeGood, check, crc, records, storeImage_length]
    simp
  · rw [storeRecords, rest, second, recordsBytes, List.append_assoc, List.take_left' (recordBytes_length _),
      List.take_left' (recordBytes_length _)]

/-- Settles O13: the end of the rewrite stores the image of the records, which the reset then reads. -/
theorem retainedStoreRoundTrip : Obligations.RetainedStoreRoundTrip := by
  unfold Obligations.RetainedStoreRoundTrip
  intro touched s powered busy none_held supply extract
  let stored : State :=
    { s with filter := { s.filter with store := storeImage s.filter.records, rewriting := false, held := [] } }
  have ended : exec .rewriteEnd s = .next stored := by
    refine (exec_powered powered rfl : exec .rewriteEnd s = .next (endRewrite s)).trans (congrArg _ ?_)
    rw [endRewrite, busy, none_held]
    rfl
  have taken : TakesReset stored (.resetLine touched) .resetLine := .resetLine touched powered
  have found : (foundAtReset (.resetLine touched) stored).filter.store = storeImage s.filter.records := by
    rw [foundAtReset, cutSave_eq, finishRewrite_eq]
    rfl
  obtain ⟨good, read⟩ := storeImage_read s.filter.records
  obtain ⟨_, t, run, _, _, _, _, _, filter⟩ := exec_atReset taken
  rw [found] at filter
  refine ⟨t, ?_, ?_, ?_, ?_⟩
  · rw [runCommands, ended]
    dsimp only
    rw [runCommands, run]
    rfl
  · rw [filter, filterAtReset, good]
    rfl
  · rw [filter, filterAtReset, retainedRecords, good, if_pos rfl, read, recordOfBytes_recordBytes supply,
      recordOfBytes_recordBytes extract]
  · rw [filter, filterAtReset, good]
    rfl

/-! ### The start occurrences (R182, R197, R101) -/

/-- An occurrence that merges with no record is appended while there is room (R177). -/
theorem report_appends {k : EventKind} {src : Source} {s : State}
    (apart : ∀ n, s.events.queue.getLast? = some n → merges k src n = false) (room : ordinaryCount s.events.queue < 15) :
    (report k src s).events.queue =
      s.events.queue ++ if kindEnabled s.settings k then [newNotice s.settings k src s.events.seconds] else [] := by
  rw [report_queue]
  split
  · exact placeNotice_appended apart room
  · simp

/-- The records of a start occurrence: one when its kind is enabled (R182). -/
def startRecords (set : Settings) (k : EventKind) : List Notice :=
  if kindEnabled set k then [newNotice set k .none 0] else []

theorem mem_startRecords {set : Settings} {k : EventKind} {n : Notice} (mem : n ∈ startRecords set k) :
    n = newNotice set k .none 0 := by
  unfold startRecords at mem
  split at mem
  · exact List.mem_singleton.mp mem
  · cases mem

/-- The flags and the queue that the start occurrences leave in an emptied event unit. -/
theorem startOccurrences_effect {s : State} (emptied : s.events = eventsAtReset) :
    let defaulted := s.store.verdict = .defaulted
    let lost := s.filter.verdict = .lost
    let t := reportAll (startOccurrences s) s
    t.events.flags = (if defaulted then kindBit .settingsDefaulted else 0) ||| (if lost then kindBit .retainedLost else 0)
      ∧ t.events.queue = (if defaulted then startRecords s.settings .settingsDefaulted else [])
          ++ (if lost then startRecords s.settings .retainedLost else []) := by
  intro defaulted lost t
  have first : (report .settingsDefaulted .none s).events.queue = startRecords s.settings .settingsDefaulted := by
    rw [report_appends (by simp [emptied, eventsAtReset]) (by simp [emptied, eventsAtReset, ordinaryCount]), emptied]
    rfl
  have second {u : State} (settings : u.settings = s.settings) (seconds : u.events.seconds = 0)
      (held : u.events.queue = [] ∨ u.events.queue = startRecords s.settings .settingsDefaulted) :
      (report .retainedLost .none u).events.queue = u.events.queue ++ startRecords s.settings .retainedLost := by
    have short : ordinaryCount u.events.queue < 15 := by
      obtain none | some := held
      · simp [none, ordinaryCount]
      · rw [some, startRecords]
        split <;> exact Nat.lt_of_le_of_lt List.countP_le_length (by simp)
    rw [report_appends (fun n last => ?_) short, settings, seconds]
    · rfl
    · have mem : n ∈ u.events.queue := List.mem_of_getLast? last
      obtain none | some := held
      · rw [none] at mem
        cases mem
      · rw [some] at mem
        rw [mem_startRecords mem]
        rfl
  have clear : s.events.flags = 0 := by rw [emptied]; rfl
  have empty : s.events.queue = [] := by rw [emptied]; rfl
  have zero : s.events.seconds = 0 := by rw [emptied]; rfl
  simp only [t, startOccurrences]
  by_cases d : defaulted <;> by_cases l : lost <;> simp only [defaulted, lost] at d l <;>
    simp only [defaulted, lost, d, l, if_true, if_false, reportAll, List.cons_append, List.nil_append, List.foldl_cons, List.foldl_nil]
  · rw [(report_events .retainedLost .none _).1, (report_events .settingsDefaulted .none s).1, clear,
      second (by simp) (by rw [(report_events _ _ _).2.2, zero]) (.inr first), first]
    exact ⟨rfl, rfl⟩
  · rw [(report_events .settingsDefaulted .none s).1, clear, first]
    exact ⟨rfl, (List.append_nil _).symm⟩
  · rw [(report_events .retainedLost .none s).1, clear, second rfl zero (.inl empty), empty]
    exact ⟨rfl, rfl⟩
  · exact ⟨clear, empty⟩

/-- The event unit after the start occurrences, with NTF, the not-empty report and ALARM OUT (R182, R173, R181). -/
theorem startOccurrences_judged {s : State} (emptied : s.events = eventsAtReset) (unlit : s.lines.alarm = false)
    (silent : s.link = linkAtReset) :
    let t := reportAll (startOccurrences s) s
    let defaulted := t.store.verdict = .defaulted
    let lost := t.filter.verdict = .lost
    t.events.flags = (if defaulted then kindBit .settingsDefaulted else 0) ||| (if lost then kindBit .retainedLost else 0)
      ∧ t.events.severe = decide defaulted ∧ t.lines.alarm = decide defaulted
      ∧ t.events.queue = (if defaulted then startRecords t.settings .settingsDefaulted else [])
          ++ (if lost then startRecords t.settings .retainedLost else [])
      ∧ t.events.ntf = t.events.queue.any (fun n => decide (t.settings.threshold < n.level))
      ∧ t.link.queueNotEmpty = !t.events.queue.isEmpty := by
  intro t
  have judged : QueueBounded s ∧ AlarmFollows s := by
    simp [QueueBounded, AlarmFollows, emptied, unlit, silent, eventsAtReset, linkAtReset, ordinaryCount]
  obtain ⟨⟨_, _, ntf, notEmpty⟩, severe, alarm⟩ := (reportAll_preserves (startOccurrences s) s).events judged
  obtain ⟨flags, queue⟩ := startOccurrences_effect emptied
  have store : t.store = s.store := by simp [t]
  have filter : t.filter = s.filter := by simp [t]
  have settings : t.settings = s.settings := by simp [t]
  have summary : t.events.severe = decide (s.store.verdict = .defaulted) := by
    refine severe.trans ?_
    rw [flags]
    by_cases d : s.store.verdict = .defaulted <;>
      by_cases l : s.filter.verdict = .lost <;> simp only [d, l, if_true, if_false] <;> decide
  refine ⟨?_, ?_, ?_, ?_, ntf, notEmpty⟩
  · rw [store, filter]
    exact flags
  · rw [store]
    exact summary
  · rw [store]
    exact alarm.trans summary
  · rw [store, filter, settings]
    exact queue

theorem resetTo_started (kind : ResetKind) (s : State) :
    ∃ b, resetTo kind s = reportAll (startOccurrences b) b ∧ b.events = eventsAtReset ∧ b.lines.alarm = false
      ∧ b.link = linkAtReset :=
  ⟨blocksReset kind s, rfl, by simp [blocksReset], by simp [blocksReset, linesAtReset], by simp [blocksReset]⟩

/-! ### The stores that a reset finds, and what it loads of them -/

/-- A save completed at a RESTART (R196, R200). -/
theorem bankWritten_banks (image : Settings) (st : SettingsStore) :
    (st.current = some .bank0 →
        (bankWritten image st).bank0 = st.bank0 ∧ (bankWritten image st).bank1.image = image
          ∧ (bankWritten image st).bank1.generation = (st.bank0.generation + 1) % 65536
          ∧ bankValid (bankWritten image st).bank1 = true)
      ∧ (st.current ≠ some .bank0 →
          (bankWritten image st).bank1 = st.bank1 ∧ (bankWritten image st).bank0.image = image
            ∧ bankValid (bankWritten image st).bank0 = true
            ∧ (bankWritten image st).bank0.generation =
                (if st.current = none then 0 else (st.bank1.generation + 1) % 65536)) := by
  have valid (g : Nat) : bankValid (wholeBank image g) = true := wholeBank_valid image g
  refine ⟨fun on => ?_, fun off => ?_⟩
  · rw [bankWritten, targetBank_eq, if_pos on]
    exact ⟨rfl, rfl, by simp [putBank, wholeBank, nextGeneration, on, bankOf], valid _⟩
  · rw [bankWritten, targetBank_eq, if_neg off]
    refine ⟨rfl, rfl, valid _, ?_⟩
    rcases current : st.current with _ | _ | _
    · simp [putBank, wholeBank, nextGeneration, current]
    · exact absurd current off
    · simp [putBank, wholeBank, nextGeneration, current, bankOf]

/-- The banks as a reset finds them, by its kind (R102, R197, R200). -/
theorem foundAtReset_banks {c : Instr} {kind : ResetKind} {s : State} (taken : TakesReset s c kind) :
    let st := (foundAtReset c s).store
    let onBank0 := s.store.current = some .bank0
    (s.store.saving = none ∨ c = .powerUp ∨ c = .resetLine false →
        st.bank0 = s.store.bank0 ∧ st.bank1 = s.store.bank1)
      ∧ (s.store.saving.isSome = true → c = .resetLine true →
          (onBank0 → st.bank0 = s.store.bank0 ∧ bankValid st.bank1 = false)
            ∧ (¬onBank0 → bankValid st.bank0 = false ∧ st.bank1 = s.store.bank1))
      ∧ ∀ image, s.store.saving = some image → kind = .restart → st = bankWritten image s.store := by
  cases taken with
  | powerUp => exact ⟨fun _ => ⟨rfl, rfl⟩, fun _ other => (nomatch other), fun _ _ other => (nomatch other)⟩
  | resetLine touched =>
    have finished : (finishRewrite s).store = s.store := by rw [finishRewrite_eq]
    obtain ⟨_, _, _, _, kept, cut⟩ := cutSave_store touched (finishRewrite s)
    rw [finished] at kept cut
    refine ⟨?_, fun saving whole => ?_, fun _ _ other => (nomatch other)⟩
    · rintro (none | other | untouched)
      · exact kept (.inl none)
      · cases other
      · cases untouched
        exact kept (.inr rfl)
    · cases whole
      exact cut saving rfl
  | restart =>
    have finished : (finishRewrite s).store = s.store := by rw [finishRewrite_eq]
    refine ⟨?_, fun _ other => (nomatch other), fun image saving _ => ?_⟩
    · rintro (none | other | other)
      · have kept : finishSave (finishRewrite s) = finishRewrite s := by rw [finishSave, finished, none]
        rw [foundAtReset, kept, finished]
        exact ⟨rfl, rfl⟩
      · cases other
      · cases other
    · rw [foundAtReset, finishSave, finished, saving]

/-- The retained store as a reset finds it (R102). -/
theorem foundAtReset_image {c : Instr} {kind : ResetKind} {s : State} (taken : TakesReset s c kind) :
    (foundAtReset c s).filter.store =
      if c ≠ .powerUp ∧ s.filter.rewriting = true then storeImage s.filter.records else s.filter.store := by
  cases taken with
  | powerUp => simp [foundAtReset]
  | resetLine touched =>
    rw [foundAtReset, cutSave_eq, finishRewrite_eq]
    simp
  | restart =>
    rw [foundAtReset, finishSave_eq, finishRewrite_eq]
    simp

theorem storeLoaded_keeps (kind : ResetKind) (st : SettingsStore) :
    (storeLoaded kind st).bank0 = st.bank0 ∧ (storeLoaded kind st).bank1 = st.bank1
      ∧ (storeLoaded kind st).saving = none ∧ (storeLoaded kind st).resetKind = kind := by
  unfold storeLoaded
  simp only [and_self]

/-- What a load takes, by the validity of the banks, and its verdict (R197). -/
theorem load_judged (kind : ResetKind) (st : SettingsStore) :
    let a := st.bank0
    let b := st.bank1
    (bankValid a = true → bankValid b = true →
      (loadedSettings st, (storeLoaded kind st).current) =
        (if a.generation = (b.generation + 1) % 65536 then (a.image, some BankId.bank0)
          else if b.generation = (a.generation + 1) % 65536 then (b.image, some BankId.bank1)
          else if a.generation < b.generation then (b.image, some BankId.bank1) else (a.image, some BankId.bank0)))
      ∧ (bankValid a = true → bankValid b = false →
          loadedSettings st = a.image ∧ (storeLoaded kind st).current = some .bank0)
      ∧ (bankValid a = false → bankValid b = true →
          loadedSettings st = b.image ∧ (storeLoaded kind st).current = some .bank1)
      ∧ (bankValid a = false → bankValid b = false →
          loadedSettings st = Settings.defaults ∧ (storeLoaded kind st).current = none)
      ∧ (storeLoaded kind st).verdict = (if bankValid a = true ∨ bankValid b = true then .loaded else .defaulted) := by
  intro a b
  obtain ⟨both, only0, only1, neither⟩ := loadBank_cases st
  have current : (storeLoaded kind st).current = loadBank st := rfl
  rw [current, storeLoaded_verdict]
  refine ⟨fun h₀ h₁ => ?_, fun h₀ h₁ => ?_, fun h₀ h₁ => ?_, fun h₀ h₁ => ?_, ?_⟩
  · rw [loadedSettings_of_bank (both h₀ h₁), both h₀ h₁]
    exact laterBank_eq a b st rfl rfl
  · rw [loadedSettings_of_bank (only0 h₀ h₁), only0 h₀ h₁]
    exact ⟨rfl, rfl⟩
  · rw [loadedSettings_of_bank (only1 h₀ h₁), only1 h₀ h₁]
    exact ⟨rfl, rfl⟩
  · rw [loadedSettings_of_none (neither h₀ h₁), neither h₀ h₁]
    exact ⟨rfl, rfl⟩
  · simp only [a, b]
    cases h₀ : bankValid st.bank0 <;> cases h₁ : bankValid st.bank1 <;> simp [h₀, h₁, both, only0, only1, neither]

/-- The retained verdict, and the records and the rewrite that follow from it (R101, R124). -/
theorem filterAtReset_judged (store : List Byte) :
    let f := filterAtReset store
    f.store = store ∧ f.verdict = (if storeGood store then .retained else .lost)
      ∧ (storeGood store = true → f.records = storeRecords store)
      ∧ (storeGood store = false → ∀ x, f.records.get x = FilterRec.reinitialised)
      ∧ f.rewriting = decide (f.verdict = .lost) := by
  cases good : storeGood store <;> simp [filterAtReset, retainedRecords, good]
  intro x
  cases x <;> rfl

/-- The two stores as a command taken as a reset finds them (R102, R197, R200). -/
structure StoresFound (c : Instr) (kind : ResetKind) (s : State) (st : SettingsStore) (whole : List Byte) : Prop where
  kept : s.store.saving = none ∨ c = .powerUp ∨ c = .resetLine false →
    st.bank0 = s.store.bank0 ∧ st.bank1 = s.store.bank1
  cut : s.store.saving.isSome = true → c = .resetLine true →
    (s.store.current = some .bank0 → st.bank0 = s.store.bank0 ∧ bankValid st.bank1 = false)
      ∧ (¬s.store.current = some .bank0 → bankValid st.bank0 = false ∧ st.bank1 = s.store.bank1)
  completed : ∀ image, s.store.saving = some image → kind = .restart → st = bankWritten image s.store
  image : whole = if c ≠ .powerUp ∧ s.filter.rewriting = true then storeImage s.filter.records else s.filter.store

theorem foundAtReset_stores {c : Instr} {kind : ResetKind} {s : State} (taken : TakesReset s c kind) :
    StoresFound c kind s (foundAtReset c s).store (foundAtReset c s).filter.store := by
  obtain ⟨kept, cut, completed⟩ := foundAtReset_banks taken
  exact ⟨kept, cut, completed, foundAtReset_image taken⟩

/-- What a command taken as a reset leaves, in terms of the stores it finds. -/
theorem exec_started {c : Instr} {kind : ResetKind} {s : State} (taken : TakesReset s c kind) :
    ∃ t b st whole, StoresFound c kind s st whole ∧ exec c s = .next t ∧ t = reportAll (startOccurrences b) b
      ∧ b.events = eventsAtReset ∧ b.lines.alarm = false ∧ b.link = linkAtReset ∧ t.settings = loadedSettings st
      ∧ t.store = storeLoaded kind st ∧ t.filter = filterAtReset whole ∧ t.events.seconds = 0 := by
  obtain ⟨b, started, emptied, unlit, silent⟩ := resetTo_started kind (foundAtReset c s)
  obtain ⟨_, settings, store, _, _, _, _, _, filter, _⟩ := resetTo_blocks kind (foundAtReset c s)
  exact ⟨_, b, _, _, foundAtReset_stores taken, exec_reset taken, started, emptied, unlit, silent, settings, store, filter,
    resetTo_seconds kind _⟩

/-- Settles O18: the banks by the kind of reset, the load by their validity, the records by the retained store's check, and
the start occurrences by the two verdicts. -/
theorem powerUpLoadsAndReports : Obligations.PowerUpLoadsAndReports := by
  unfold Obligations.PowerUpLoadsAndReports
  intro c kind s taken
  obtain ⟨t, b, st, whole, found, run, started, emptied, unlit, silent, settings, store, filter, seconds⟩ :=
    exec_started taken
  obtain ⟨kept, cut, completed, image⟩ := found
  have judged := startOccurrences_judged emptied unlit silent
  rw [← started] at judged
  obtain ⟨flags, severe, alarm, queue, ntf, notEmpty⟩ := judged
  have load := load_judged kind st
  obtain ⟨kept', verdict, records, reinitialised, rewriting⟩ := filterAtReset_judged whole
  rw [← filter] at kept' verdict records reinitialised rewriting
  have restarted (saved : Settings) (saving : s.store.saving = some saved) (restart : kind = .restart) :
      s.store.current ≠ none ∨ bankValid s.store.bank1 = false → t.settings = saved := by
    intro fresh
    have load := loadedSettings_bankWritten saved (st := s.store) fun none => fresh.resolve_left (fun some => some none)
    exact (settings.trans (congrArg loadedSettings (completed saved saving restart))).trans load
  obtain ⟨bank0, bank1, saving, resetKind⟩ := storeLoaded_keeps kind st
  rw [← store] at bank0 bank1 saving resetKind
  obtain ⟨both, only0, only1, neither, loaded⟩ := load
  rw [← settings, ← store] at both only0 only1 neither
  rw [← store] at loaded
  rw [← kept'] at verdict records reinitialised
  refine ⟨t, run, ?_, kept'.trans image, verdict, records, reinitialised, rewriting, flags, severe, alarm, ?_, ntf,
    notEmpty, seconds⟩
  · rw [bank0, bank1]
    refine ⟨kept, cut, fun saved found restart => ?_, both, only0, only1, neither, loaded, saving, resetKind⟩
    obtain ⟨on, off⟩ := bankWritten_banks saved s.store
    rw [← completed saved found restart] at on off
    exact ⟨on, off, restarted saved found restart⟩
  · exact queue

end Sys2Proof.Machine
end

section
/-! The link port: frames received and served, the receiver, the transmitter (O12, O55, O56, O57). -/

namespace Sys2Proof.Machine

/-! ### A request served (R188, R190) -/

theorem answerTo_replySent (r : ReplyTo) (a : Answer) (restart : Bool) (s : State) :
    answerTo (some r) a restart s = replySent r.kind r.tag a restart s := rfl

/-- A command is what the frame of a kind and a payload asks for: the payload has the kind's length, and the command is
served by its block, or by the filter monitor when it is a request of it. -/
structure Serves (kind : Nat) (payload : List Byte) (c : Instr) : Prop where
  length : requestLength kind = some payload.length
  ask : filterRequestOf kind payload = filterAsk c
  other : kind ≠ 0x1A
  block : filterAsk c = none → ∀ s, exec c s = serveRow (serveByBlock kind payload) s
  filter : ∀ req, filterAsk c = some req → ∀ s, exec c s = whileOpen (handToFilter none req) s

theorem Serves.of_block {kind : Nat} {payload : List Byte} {c : Instr}
    (length : requestLength kind = some payload.length) (ask : filterAsk c = none)
    (none_asked : filterRequestOf kind payload = none) (other : kind ≠ 0x1A)
    (arm : ∀ s, exec c s = serveRow (serveByBlock kind payload) s) : Serves kind payload c :=
  ⟨length, none_asked.trans ask.symm, other, fun _ => arm, fun _ some => (nomatch ask.symm.trans some)⟩

theorem Serves.of_filter {kind : Nat} {payload : List Byte} {c : Instr} {req : FilterRequest}
    (length : requestLength kind = some payload.length) (ask : filterAsk c = some req)
    (asked : filterRequestOf kind payload = some req) (other : kind ≠ 0x1A)
    (arm : ∀ s, exec c s = whileOpen (handToFilter none req) s) : Serves kind payload c :=
  ⟨length, asked.trans ask.symm, other, fun none => (nomatch ask.symm.trans none),
    fun req' ask' s => by
      cases ask.symm.trans ask'
      exact arm s⟩

theorem serves_inject {target count : Byte} {c : Instr}
    (row : (if target.toNat ≤ 5 then some (Instr.injectChannel target count)
      else if 0x11 ≤ target.toNat ∧ target.toNat ≤ 0x18 then some (.injectSlot (target - 0x10) count)
      else none) = some c) : Serves 0x15 [target, count] c := by
  split at row
  · rename_i channel
    cases row
    have serves : serveByBlock 0x15 [target, count] = serveInjectChannel target count :=
      funext fun s => if_pos channel
    exact .of_block rfl rfl rfl (by decide) fun s => serves ▸ rfl
  split at row
  · rename_i other slot
    cases row
    have serves : serveByBlock 0x15 [target, count] = serveInjectSlot (target - 0x10) count :=
      funext fun s => (if_neg other).trans (if_pos slot)
    exact .of_block rfl rfl rfl (by decide) fun s => serves ▸ rfl
  · cases row

/-- Every row that a frame asks for, by the kinds of R190. -/
theorem requestRow_serves {kind : Byte} {payload : List Byte} {c : Instr} (row : requestRow kind payload = some c) :
    Serves kind.toNat payload c := by
  unfold requestRow at row
  generalize kind.toNat = n at row ⊢
  match n, payload, row with
  | 0x01, [_], row | 0x02, [_], row | 0x03, [_], row | 0x04, [_, _, _], row | 0x05, [_, _], row | 0x06, [], row
  | 0x09, [_, _], row | 0x0A, [_], row | 0x0B, [_], row | 0x0C, [_, _, _, _], row | 0x0D, [_, _], row | 0x0E, [_], row
  | 0x0F, [], row | 0x10, [], row | 0x11, [_, _, _, _], row | 0x12, [_, _, _], row | 0x13, [_], row | 0x14, [_], row
  | 0x16, [_, _, _, _, _, _], row | 0x17, [_, _], row | 0x18, [], row =>
    cases row
    exact .of_block rfl rfl rfl (by decide) fun s => rfl
  | 0x07, [_], row | 0x08, [_], row | 0x19, [], row =>
    cases row
    exact .of_filter rfl rfl rfl (by decide) fun s => rfl
  | 0x15, [_, _], row => exact serves_inject row

/-- A row that is no request of the monitor, or that comes while no rewrite lasts, is answered at once; the frame's reply
carries the same answer. -/
theorem handOver_served {kind tag : Byte} {payload : List Byte} {c : Instr} {s : State} (powered : s.powered = true)
    (opened : s.link.closed = false) (row : requestRow kind payload = some c)
    (now : filterAsk c = none ∨ s.filter.rewriting = false) :
    ∃ a u, exec c s = .next u ∧ u.link.answer = some a
      ∧ handOver { kind := kind, tag := tag } payload s = replySent kind tag a false u := by
  obtain ⟨_, ask, other, block, filter⟩ := requestRow_serves row
  cases asked : filterAsk c with
  | none =>
    refine ⟨_, _, exec_row powered opened (block asked s), rfl, ?_⟩
    rw [handOver, ask, asked]
    exact if_neg other
  | some req =>
    have free : s.filter.rewriting = false := now.resolve_left (by simp [asked])
    refine ⟨_, _, exec_filterRow powered opened free (filter req asked s), rfl, ?_⟩
    rw [handOver, ask, asked]
    have handed : handToFilter (some { kind := kind, tag := tag }) req s =
        filterTake (.request (some { kind := kind, tag := tag }) req) s := by
      simp [handToFilter, filterPost, free]
    exact handed

/-- During a rewrite a request of the monitor is held there, and its reply with it (R100, log 8). -/
theorem handOver_held {r : ReplyTo} {payload : List Byte} {c : Instr} {ask : FilterRequest} {s : State}
    (row : requestRow r.kind payload = some c) (asked : filterAsk c = some ask) (rewriting : s.filter.rewriting = true) :
    handOver r payload s =
      { s with
        filter := { s.filter with held := s.filter.held ++ [.request (some r) ask] }
        link := { s.link with awaiting := true } } := by
  rw [handOver, (requestRow_serves row).ask, asked]
  simp [handToFilter, filterPost, rewriting]

theorem requestLength_unlisted {n : Nat} (unlisted : n = 0 ∨ 0x1A < n) : requestLength n = none := by
  match n, unlisted with
  | 0, _ => rfl
  | m + 27, _ => rfl

theorem serveInject_unnamed {kind target count : Byte} (inject : kind.toNat = 0x15)
    (unnamed : requestRow kind [target, count] = none) (s : State) :
    serveInject target count s = (refusal .range, s) := by
  unfold requestRow at unnamed
  rw [inject] at unnamed
  change (if target.toNat ≤ 5 then some (Instr.injectChannel target count)
      else if 0x11 ≤ target.toNat ∧ target.toNat ≤ 0x18 then some (.injectSlot (target - 0x10) count)
      else none) = none at unnamed
  unfold serveInject
  split at unnamed
  · cases unnamed
  · rename_i channel
    split at unnamed
    · cases unnamed
    · rename_i slot
      rw [if_neg channel, if_neg slot]

/-- A request served, by what R188 makes of its kind and its payload; `judged` is the state after its HOLD mark. -/
theorem serveRequest_cases (r : HeldRequest) {s : State} (powered : s.powered = true) (opened : s.link.closed = false) :
    let judged := if r.flags.getLsbD 0 then s else releaseHold .mark s
    (r.kind.toNat = 0 ∨ 0x1A < r.kind.toNat →
        serveRequest r s = replySent r.kind r.tag (refusal .unknown) false judged)
      ∧ (∀ n, requestLength r.kind.toNat = some n → r.payload.length ≠ n →
          serveRequest r s = replySent r.kind r.tag (refusal .length) false judged)
      ∧ (r.kind.toNat = 0x1A → r.payload = [] →
          serveRequest r s = replySent r.kind r.tag (doneWith []) true judged)
      ∧ (r.kind.toNat = 0x15 → r.payload.length = 2 → requestRow r.kind r.payload = none →
          serveRequest r s = replySent r.kind r.tag (refusal .range) false judged)
      ∧ (∀ c, requestRow r.kind r.payload = some c → filterAsk c = none ∨ s.filter.rewriting = false →
          ∃ a u, exec c judged = .next u ∧ u.link.answer = some a
            ∧ serveRequest r s = replySent r.kind r.tag a false u)
      ∧ ∀ c ask, requestRow r.kind r.payload = some c → filterAsk c = some ask → s.filter.rewriting = true →
          serveRequest r s =
            { judged with
              filter := { judged.filter with
                          held := s.filter.held ++ [.request (some { kind := r.kind, tag := r.tag }) ask] }
              link := { judged.link with awaiting := true } } := by
  intro judged
  have marked : judgeHoldMark r.flags s = judged := rfl
  have filter : judged.filter = s.filter := by
    simp only [judged]
    split <;> simp
  have on : judged.powered = true := by
    simp only [judged]
    split <;> simp [powered]
  have still_open : judged.link.closed = false := by
    simp only [judged]
    split
    · exact opened
    · rw [(releaseHold_cascade (heat := True) .mark s).reportsOnly.2.1]
      exact opened
  have served {n : Nat} (listed : requestLength r.kind.toNat = some n) (right : r.payload.length = n) :
      serveRequest r s = handOver { kind := r.kind, tag := r.tag } r.payload judged := by
    simp [serveRequest, listed, right, marked]
  refine ⟨fun unlisted => ?_, fun n listed wrong => ?_, fun restart empty => ?_, fun inject two none_named => ?_,
    fun c row now => ?_, fun c ask row asked rewriting => ?_⟩
  · rw [serveRequest, requestLength_unlisted unlisted, marked]
    rfl
  · simp only [serveRequest, listed, if_pos wrong, marked]
    rfl
  · rw [served (by rw [restart]; rfl) (by rw [empty]; rfl), handOver, restart, empty]
    rfl
  · obtain ⟨target, count, payload⟩ := List.length_eq_two.mp two
    rw [payload] at none_named
    rw [served (by rw [inject]; rfl) two, handOver, inject, payload]
    have refused : serveByBlock 0x15 [target, count] judged = (refusal .range, judged) :=
      serveInject_unnamed inject none_named judged
    simp only [filterRequestOf, refused]
    rfl
  · rw [served (requestRow_serves row).length rfl]
    exact handOver_served on still_open row (now.imp id (by rw [filter]; exact id))
  · rw [served (requestRow_serves row).length rfl, handOver_held row asked (by rw [filter]; exact rewriting), filter]

/-! ### A frame received (R63, R186, R187) -/

/-- The state in which a frame's request is served or waits: the receiver idle, the silence timer restarted. -/
def frameTaken (s : State) : State :=
  { s with demand := { s.demand with silence := 0 }, link := { s.link with receiver := .idle } }

theorem exec_frameReceived {kind tag flags : Byte} {payload : List Byte} {s : State} (powered : s.powered = true)
    (short : payload.length ≤ maxPayload) :
    exec (.frameReceived kind tag flags payload) s =
      .next (validFrame { kind := kind, tag := tag, flags := flags, payload := payload } s) := by
  refine (exec_powered (f := frameReceived kind tag flags payload) powered rfl).trans (congrArg _ ?_)
  exact if_neg (Nat.not_lt.mpr short)

theorem validFrame_closed (r : HeldRequest) {s : State} (closed : s.link.closed = true) :
    validFrame r s = { s with link := { s.link with receiver := .idle } } := by
  rw [validFrame]
  exact if_pos closed

theorem validFrame_open (r : HeldRequest) {s : State} (opened : s.link.closed = false) :
    validFrame r s =
      if transmitterFree (enterHolder r (frameTaken s)).link then serveHeld (enterHolder r (frameTaken s))
      else enterHolder r (frameTaken s) := by
  rw [validFrame]
  exact if_neg (by simp [opened])

/-- A transmitter that is free, with no request waiting, serves the request at once. -/
theorem validFrame_served (r : HeldRequest) {s : State} (opened : s.link.closed = false) (idle : s.link.tx = .idle)
    (answered : s.link.awaiting = false) (empty : s.link.holder = none) :
    validFrame r s = serveRequest r (frameTaken s) := by
  have entered : enterHolder r (frameTaken s) = { frameTaken s with link := { (frameTaken s).link with holder := some r } } := by
    simp [enterHolder, frameTaken, empty]
  have free : transmitterFree (enterHolder r (frameTaken s)).link = true := by
    rw [entered]
    simp [transmitterFree, frameTaken, opened, idle, answered]
  have out : { (frameTaken s).link with holder := none } = (frameTaken s).link := by
    rw [← empty]
    rfl
  rw [validFrame_open r opened, if_pos free, entered]
  exact congrArg (fun k => serveRequest r { frameTaken s with link := k }) out

/-- A busy transmitter, or a request waiting at the filter monitor, leaves the request in the holder (log 8). -/
theorem validFrame_waits (r : HeldRequest) {s : State} (opened : s.link.closed = false)
    (busy : s.link.tx ≠ .idle ∨ s.link.awaiting = true) : validFrame r s = enterHolder r (frameTaken s) := by
  have link : ∃ h m q, (enterHolder r (frameTaken s)).link =
      { s.link with receiver := .idle, holder := h, overrunSeen := m, queueNotEmpty := q } := by
    unfold enterHolder
    dsimp only
    split
    · exact ⟨_, _, _, report_link _ _ _⟩
    · exact ⟨_, _, _, rfl⟩
  obtain ⟨h, m, q, link⟩ := link
  have shut : transmitterFree (enterHolder r (frameTaken s)).link = false := by
    rw [link]
    obtain sending | waiting := busy
    · simp [transmitterFree, sending]
    · simp [transmitterFree, waiting]
  rw [validFrame_open r opened, shut]
  rfl

/-- Settles O55: by the port, the transmitter and the holder; a served frame by the cases of its request. -/
theorem framesAreServedOrHeld : Obligations.FramesAreServedOrHeld := by
  unfold Obligations.FramesAreServedOrHeld
  intro kind tag flags payload s powered short base judged free taken
  let r : HeldRequest := { kind := kind, tag := tag, flags := flags, payload := payload }
  have received : taken = .next (validFrame r s) := exec_frameReceived powered short
  have served (now : free) : taken = .next (serveRequest r base) := by
    obtain ⟨opened, idle, answered, empty⟩ := now
    rw [received, validFrame_served r opened idle answered empty]
    rfl
  have cases (now : free) := serveRequest_cases r (s := base) powered now.1
  refine ⟨fun closed => ?_, fun now unlisted => ?_, fun now n listed wrong => ?_, fun now restart empty => ?_,
    fun now inject two none_named => ?_, fun now c row soon => ?_, fun now c ask row asked rewriting => ?_,
    fun opened busy => ⟨fun empty => ?_, fun occupied => ?_⟩⟩
  · rw [received, validFrame_closed r closed]
  · obtain ⟨unknown, _⟩ := cases now
    rw [served now, unknown unlisted]
  · obtain ⟨_, length, _⟩ := cases now
    rw [served now, length n listed wrong]
  · obtain ⟨_, _, closes, _⟩ := cases now
    rw [served now, closes restart empty]
  · obtain ⟨_, _, _, range, _⟩ := cases now
    rw [served now, range inject two none_named]
  · obtain ⟨_, _, _, _, answered, _⟩ := cases now
    obtain ⟨a, u, run, answer, done⟩ := answered c row soon
    exact ⟨a, u, run, answer, (served now).trans (congrArg _ done)⟩
  · obtain ⟨_, _, _, _, _, held⟩ := cases now
    rw [served now, held c ask row asked rewriting]
  · rw [received, validFrame_waits r opened busy]
    simp [enterHolder, frameTaken, empty, base, r]
  · have entered : validFrame r s = report .linkError (.link .overrun)
        { base with link := { base.link with holder := some r, overrunSeen := true } } := by
      rw [validFrame_waits r opened busy, enterHolder]
      exact if_pos occupied
    rw [received, entered]
    refine ⟨_, rfl, ?_, by simp, by simp [base], by simp [base], ?_, report_flagRaised _ _ _⟩
    · simp [OuterKept, base]
    · exact report_link _ _ _

/-! ### The receiver (R184, R185, R200) -/

/-- An occurrence reads nothing of the link port, and tells it at most that the queue holds a record (R177). -/
theorem report_withLink (k : EventKind) (src : Source) (s : State) (l : Link) :
    report k src { s with link := l } =
      { report k src s with
        link := { l with queueNotEmpty := if kindEnabled s.settings k then true else l.queueNotEmpty } } := by
  have raised : raiseFlag k { s with link := l } = { raiseFlag k s with link := l } := by
    unfold raiseFlag judgeSevere
    dsimp only
    split <;> rfl
  unfold report
  rw [raised]
  by_cases enabled : kindEnabled s.settings k = true
  · simp only [enabled, if_true]
    simp [placeOccurrence, judgeNtf]
  · simp [enabled]

theorem exec_frameDiscard {s : State} (powered : s.powered = true) :
    exec .frameDiscard s = .next (discardFrame .hunt s) :=
  exec_powered powered rfl

/-- A discard leaves the receiver in the state given, and is otherwise the same. -/
theorem discardFrame_receiver (a b : Receiver) (s : State) :
    discardFrame b s = { discardFrame a s with link := { (discardFrame a s).link with receiver := b } } := by
  unfold discardFrame
  split
  · rfl
  · rw [report_withLink _ _ s { s.link with receiver := b, checkErrorSeen := true },
      report_withLink _ _ s { s.link with receiver := a, checkErrorSeen := true }]

theorem startsFrame_iff (b : Byte) (good : Bool) : startsFrame b good = true ↔ b = 0xC5 ∧ good = true := by
  simp [startsFrame, Config.linkStart]

theorem gapTimeout_idle {s : State} (idle : ∀ bs, s.link.receiver ≠ .frame bs) : gapTimeout s = s := by
  unfold gapTimeout
  split
  · rename_i bs receiving
    exact absurd receiving (idle bs)
  · rfl
  · rfl

theorem huntTimeout_eq (s : State) :
    huntTimeout s = if s.link.receiver = .hunt then { s with link := { s.link with receiver := .idle } } else s := by
  unfold huntTimeout
  split <;> simp_all

section Frame

variable {bs : List Byte} {b : Byte} {good : Bool} {s : State}

theorem frameByte_bad (bad : good = false ∨ (bs = [] ∧ (b.toNat < 3 ∨ 64 < b.toNat))) :
    frameByte bs b good s = discardFrame .hunt s := by
  have out : (!good || (bs.isEmpty && badLength b)) = true := by
    obtain rfl | ⟨rfl, length⟩ := bad
    · rfl
    · simpa [badLength] using Or.inr length
  rw [frameByte]
  exact if_pos out

theorem frameByte_good (stop : good = true) (length : bs ≠ [] ∨ (3 ≤ b.toNat ∧ b.toNat ≤ 64)) :
    frameByte bs b good s =
      if frameComplete (bs ++ [b]) then
        if checkGood (bs ++ [b]) then validFrame (requestOf (bs ++ [b])) s else discardFrame .hunt s
      else { s with link := { s.link with receiver := .frame (bs ++ [b]) } } := by
  have fine : (!good || (bs.isEmpty && badLength b)) = false := by
    obtain held | ⟨low, high⟩ := length
    · simp [stop, held]
    · simp [stop, badLength, Nat.not_lt.mpr low, Nat.not_lt.mpr high]
  rw [frameByte]
  exact if_neg (by simp [fine])

theorem frameComplete_iff (frame : List Byte) :
    frameComplete frame = true ↔ frame.length = ((frame[0]?).getD 0).toNat + 3 := by
  simp [frameComplete, byteAt]

/-- The check field of a frame is the CRC-16 of what comes before it (R185). -/
theorem checkGood_iff (frame : List Byte) :
    checkGood frame = true ↔
      frame = frame.take (frame.length - 2) ++ u16 (crc16 (frame.take (frame.length - 2))).toNat := by
  rw [checkGood, beq_iff_eq]
  refine ⟨fun check => ?_, fun check => ?_⟩
  · conv_lhs => rw [← List.take_append_drop (frame.length - 2) frame]
    rw [check]
  · have split : frame.take (frame.length - 2) ++ frame.drop (frame.length - 2) = _ := (List.take_append_drop _ frame).trans check
    exact List.append_cancel_left split

end Frame

/-- Settles O56: the discard by the port, the timeouts and each byte by the receiver's state. -/
theorem receiverFollowsTheBytes : Obligations.ReceiverFollowsTheBytes := by
  unfold Obligations.ReceiverFollowsTheBytes
  intro s powered
  have byte (b : Byte) (good : Bool) : exec (.linkByteReceived b good) s = .next (receiveLinkByte b good s) :=
    exec_powered powered rfl
  have gap : exec .frameGapTimeout s = .next (gapTimeout s) := exec_powered powered rfl
  have hunt : exec .huntTimeout s = .next (huntTimeout s) := exec_powered powered rfl
  rw [exec_frameDiscard powered, gap, hunt]
  refine ⟨fun closed => ?_, fun opened => ?_, fun idle => ?_, fun bs receiving => ?_, ?_, fun b good => ?_⟩
  · simp [discardFrame, closed]
  · refine ⟨_, rfl, ?_⟩
    have discarded : discardFrame .hunt s = report .linkError (.link .discard)
        { s with link := { s.link with receiver := .hunt, checkErrorSeen := true } } := if_neg (by simp [opened])
    rw [discarded]
    exact ⟨by simp [OuterKept], by simp, by simp, by simp, by simp, by simp, by simp, report_link _ _ _,
      report_flagRaised _ _ _⟩
  · rw [gapTimeout_idle idle]
  · refine ⟨_, rfl, ?_⟩
    rw [gapTimeout, receiving]
    exact congrArg _ (discardFrame_receiver .hunt .idle s)
  · rw [huntTimeout_eq]
  intro starts
  have no (other : ¬starts) : startsFrame b good = false :=
    Bool.eq_false_iff.mpr fun yes => other ((startsFrame_iff b good).mp yes)
  refine ⟨fun listening start => ?_, fun hunting other => ?_, fun idle other => ?_, fun bs receiving => ?_⟩
  · have yes := (startsFrame_iff b good).mpr start
    rw [byte, receiveLinkByte]
    obtain idle | hunting := listening
    · simp [idle, yes]
    · simp [hunting, yes]
  · simp [byte, receiveLinkByte, hunting, no other]
  · simp [byte, receiveLinkByte, idle, no other]
  · intro frame length body whole sound
    have arm : exec (.linkByteReceived b good) s = .next (frameByte bs b good s) := by
      rw [byte, receiveLinkByte, receiving]
    rw [arm]
    refine ⟨fun bad => ?_, fun stop room short => ?_, fun stop held ends wrong => ?_, fun stop held ends right low high => ?_⟩
    · rw [frameByte_bad bad]
    · have going : ¬frameComplete frame = true := fun complete => short ((frameComplete_iff frame).mp complete)
      rw [frameByte_good stop room, if_neg going]
    · have complete : frameComplete frame = true := (frameComplete_iff frame).mpr ends
      have failed : ¬checkGood frame = true := fun check => wrong ((checkGood_iff frame).mp check)
      rw [frameByte_good stop (.inl held), if_pos complete, if_neg failed]
    · have complete : frameComplete frame = true := (frameComplete_iff frame).mpr ends
      have check : checkGood frame = true := (checkGood_iff frame).mpr right
      rw [frameByte_good stop (.inl held), if_pos complete, if_pos check, exec_frameReceived powered]
      · rfl
      · refine (List.length_take_le _ _).trans ?_
        simp only [maxPayload]
        omega

/-! ### The transmitter (R187, R192, R193) -/

/-- Settles O57: the end of a transmission by the transmitter, the port, the holder and the waiting trace; a due trace by
the period and by whether it can be sent at once. -/
theorem transmitterTakesTheNextFrame : Obligations.TransmitterTakesTheNextFrame := by
  unfold Obligations.TransmitterTakesTheNextFrame
  intro s powered freed sending trace
  have sent : exec .transmitEnd s = .next (transmitEnd s) := exec_powered powered rfl
  have due : exec .traceDue s = .next (traceDue s) := exec_powered powered rfl
  have freeing (now : sending) : exec .transmitEnd s = .next (transmitterFreed s) := by
    rw [sent, transmitEnd]
    obtain ⟨f, tx⟩ | ⟨f, tx⟩ := now <;> rw [tx]
  refine ⟨fun idle => ?_, fun f restart => ?_, fun now closed => ?_, fun now opened empty none_due => ?_,
    fun n now opened empty waiting => ?_, fun r now opened held => ?_, fun off => ?_, fun on => ?_⟩
  · rw [sent, transmitEnd, idle]
  · rw [sent, transmitEnd, restart]
  · rw [freeing now, transmitterFreed]
    exact congrArg _ (if_pos closed)
  · simp [freeing now, transmitterFreed, opened, empty, none_due, freed]
  · rw [freeing now, transmitterFreed, opened, empty, waiting]
    rfl
  · intro taken judged
    have served : exec .transmitEnd s = .next (serveRequest r taken) := by
      rw [freeing now, transmitterFreed, opened, held]
      simp only [serveHeld, held]
      rfl
    obtain ⟨unknown, length, closes, range, answered, kept⟩ := serveRequest_cases r (s := taken) powered opened
    rw [served]
    refine ⟨fun unlisted => ?_, fun n listed wrong => ?_, fun restart none_sent => ?_, fun inject two none_named => ?_,
      fun c row soon => ?_, fun c ask row asked rewriting => ?_⟩
    · rw [unknown unlisted]
    · rw [length n listed wrong]
    · rw [closes restart none_sent]
    · rw [range inject two none_named]
    · obtain ⟨a, u, run, answer, done⟩ := answered c row soon
      exact ⟨a, u, run, answer, congrArg _ done⟩
    · rw [kept c ask row asked rewriting]
  · rw [due, traceDue]
    exact congrArg _ (if_pos off)
  · intro n
    have free : (transmitterFree s.link && s.link.holder.isNone) = true ↔
        s.link.tx = .idle ∧ s.link.closed = false ∧ s.link.awaiting = false ∧ s.link.holder = none := by
      simp [transmitterFree, and_assoc]
    rw [due, traceDue, if_neg (Nat.ne_of_gt on)]
    by_cases now : s.link.tx = .idle ∧ s.link.closed = false ∧ s.link.awaiting = false ∧ s.link.holder = none
    · dsimp only
      rw [if_pos (free.mpr now), if_pos now]
      rfl
    · dsimp only
      rw [if_neg fun yes => now (free.mp yes), if_neg now]
      rfl

/-! ### Byte by byte (R183, R184) -/

/-- A state whose receiver holds the bytes of a frame received so far. -/
def receiving (bytes : List Byte) (s : State) : State := { s with link := { s.link with receiver := .frame bytes } }

theorem exec_linkByte {b : Byte} {bytes : List Byte} {s : State} (powered : s.powered = true) :
    exec (.linkByteReceived b true) (receiving bytes s) = .next (frameByte bytes b true (receiving bytes s)) :=
  exec_powered (f := receiveLinkByte b true) powered rfl

/-- The rest of a frame received byte by byte, with a length byte in its range and the check it should have. -/
theorem runCommands_frame {frame : List Byte} {s : State} (powered : s.powered = true)
    (length : ∀ first ∈ frame[0]?, 3 ≤ first.toNat ∧ first.toNat ≤ 64 ∧ frame.length = first.toNat + 3)
    (check : checkGood frame = true) {rest : List Byte} (more : rest ≠ []) (bytes : List Byte)
    (whole : bytes ++ rest = frame) :
    runCommands (rest.map (fun b => .linkByteReceived b true)) (receiving bytes s) = .next (validFrame (requestOf frame) s) := by
  induction rest generalizing bytes with
  | nil => exact absurd rfl more
  | cons b rest ih =>
    have split : bytes ++ [b] ++ rest = frame := by simpa using whole
    have first : (bytes ++ [b])[0]? = frame[0]? := by
      rw [← split]
      exact (List.getElem?_append_left (by simp)).symm
    obtain ⟨f, is_first⟩ : ∃ f, frame[0]? = some f := by
      rw [← first]
      cases bytes <;> exact ⟨_, rfl⟩
    obtain ⟨low, high, total⟩ := length f is_first
    have room : bytes ≠ [] ∨ (3 ≤ b.toNat ∧ b.toNat ≤ 64) := by
      cases bytes with
      | nil =>
        have same : some b = some f := first.trans is_first
        cases same
        exact .inr ⟨low, high⟩
      | cons _ _ => exact .inl (by simp)
    have complete : frameComplete (bytes ++ [b]) = true ↔ rest = [] := by
      rw [frameComplete_iff, first, is_first, ← List.length_eq_zero_iff]
      have sum : (bytes ++ [b]).length + rest.length = frame.length := by
        rw [← split]
        exact List.length_append.symm
      simp only [Option.getD_some]
      omega
    rw [List.map_cons, runCommands, exec_linkByte powered, frameByte_good rfl room]
    cases rest with
    | nil =>
      have all : bytes ++ [b] = frame := by simpa using split
      rw [if_pos (complete.mpr rfl), all, if_pos check]
      rfl
    | cons next rest =>
      rw [if_neg fun yes => (nomatch complete.mp yes)]
      exact ih (by simp) (bytes ++ [b]) split

/-- The bytes of a frame after its start byte: its check is good and its fields are those it encodes (R183). -/
theorem frameBytes_read (kind tag flags : Byte) {payload : List Byte} (short : payload.length ≤ maxPayload) :
    ∃ frame, frameBytes kind tag flags payload = Config.linkStart :: frame ∧ frame ≠ []
      ∧ (∀ first ∈ frame[0]?, 3 ≤ first.toNat ∧ first.toNat ≤ 64 ∧ frame.length = first.toNat + 3)
      ∧ checkGood frame = true
      ∧ requestOf frame = { kind := kind, tag := tag, flags := flags, payload := payload } := by
  have small : payload.length ≤ 61 := short
  let covered := u8 (payload.length + 3) ++ [kind, tag, flags] ++ payload
  have size : covered.length = payload.length + 4 := by simp [covered, u8]
  have crc : (u16 (crc16 covered).toNat).length = 2 := rfl
  have length : (BitVec.ofNat 8 (payload.length + 3)).toNat = payload.length + 3 := by
    rw [BitVec.toNat_ofNat, Nat.mod_eq_of_lt (by omega)]
  refine ⟨covered ++ u16 (crc16 covered).toNat, rfl, by simp [covered, u8], fun first is_first => ?_, ?_, ?_⟩
  · have same : first = BitVec.ofNat 8 (payload.length + 3) := by
      simpa [covered, u8, eq_comm] using is_first
    rw [same, length, List.length_append, size, crc]
    omega
  · have body : (covered ++ u16 (crc16 covered).toNat).take ((covered ++ u16 (crc16 covered).toNat).length - 2) = covered := by
      rw [List.length_append, crc, Nat.add_sub_cancel, List.take_left' rfl]
    rw [checkGood_iff, body]
  · have rest : (covered ++ u16 (crc16 covered).toNat).drop 4 = payload ++ u16 (crc16 covered).toNat := rfl
    have first : byteAt (covered ++ u16 (crc16 covered).toNat) 0 = BitVec.ofNat 8 (payload.length + 3) := rfl
    rw [requestOf, rest, first, length, Nat.add_sub_cancel, List.take_left' rfl]
    rfl

/-- Settles O12: the start byte, then the rest of the frame byte by byte. -/
theorem linkFrameRoundTrip : Obligations.LinkFrameRoundTrip := by
  unfold Obligations.LinkFrameRoundTrip
  intro kind tag flags payload s powered idle short
  obtain ⟨frame, encoded, some, length, check, request⟩ := frameBytes_read kind tag flags short
  have start : exec (.linkByteReceived Config.linkStart true) s = .next (receiving [] s) := by
    refine (exec_powered (f := receiveLinkByte Config.linkStart true) powered rfl).trans (congrArg _ ?_)
    rw [receiveLinkByte, idle]
    rfl
  rw [encoded, List.map_cons, runCommands, start, exec_frameReceived powered short, ← request]
  exact runCommands_frame powered length check some [] rfl

end Sys2Proof.Machine
end

section
/-! The filter monitor's minute (O40). -/

namespace Sys2Proof.Machine

/-! ### The filter minute (R103, R105, R109 to R112) -/

theorem PerStream.set_get_self {α : Type} (p : PerStream α) (x : Stream) : p.set x (p.get x) = p := by
  cases x <;> rfl

/-- A record after the minute of its loop: a minute more of service with the gate open (R105). -/
def servedRecord (gate served : Bool) (r : FilterRec) : FilterRec :=
  if served && gate then { r with minutes := saturate Config.maxServiceMinutes (r.minutes + 1) } else r

/-- A pending accrual after the minute of its loop, with the gate closed (R106). -/
def servedPending (gate served : Bool) (p : Pending) : Pending :=
  if served && !gate then { p with minutes := saturate Config.maxPendingMinutes (p.minutes + 1) } else p

theorem accrueMinute_eq (x : Stream) (served : Bool) (s : State) :
    accrueMinute x served s =
      { s with
        filter :=
          { s.filter with
            records := s.filter.records.set x (servedRecord s.filter.gateOpen served (s.filter.records.get x))
            pending := s.filter.pending.set x (servedPending s.filter.gateOpen served (s.filter.pending.get x)) } } := by
  cases served with
  | false => simp [accrueMinute, servedRecord, servedPending, PerStream.set_get_self]
  | true =>
    unfold accrueMinute
    split
    next idle => exact absurd idle (by simp)
    next =>
      split
      next gate => simp [servedRecord, servedPending, PerStream.set_get_self, setRecord, gate]
      next gate => simp [servedRecord, servedPending, PerStream.set_get_self, gate]

/-- A stream's record as the minute judges it. -/
def minuteAccrued (served : PerStream Bool) (s : State) (x : Stream) : FilterRec :=
  servedRecord s.filter.gateOpen (served.get x) (s.filter.records.get x)

/-- A stream's record after the minute. -/
def minuteJudged (served : PerStream Bool) (s : State) (x : Stream) : FilterRec :=
  minuteRecord s.settings (s.filter.sampled.get x) (s.filter.latest.get x) (minuteAccrued served s x)

/-- The occurrences of a minute (R103, R110 to R112). -/
def minuteReports (served : PerStream Bool) (s : State) : List (EventKind × Source) :=
  let flagWas := flagRaised s .filterBlocked
  blockedReports .supply flagWas (minuteAccrued served s .supply) (minuteJudged served s .supply)
    ++ blockedReports .extract flagWas (minuteAccrued served s .extract) (minuteJudged served s .extract)
    ++ dueReports .supply (minuteAccrued served s .supply) (minuteJudged served s .supply)
    ++ dueReports .extract (minuteAccrued served s .extract) (minuteJudged served s .extract)

/-- The monitor after the records are judged. -/
def minuteFilter (served : PerStream Bool) (s : State) : FilterMonitor :=
  { s.filter with
    records := ⟨minuteJudged served s .supply, minuteJudged served s .extract⟩
    pending :=
      ⟨servedPending s.filter.gateOpen served.supply s.filter.pending.supply,
        servedPending s.filter.gateOpen served.extract s.filter.pending.extract⟩
    sampled := ⟨false, false⟩ }

theorem filterMinuteWork_eq (served : PerStream Bool) (s : State) :
    filterMinuteWork served s =
      orderRewrite (reportAll (minuteReports served s) (reportLamp { s with filter := minuteFilter served s })) := by
  unfold filterMinuteWork
  rw [accrueMinute_eq, accrueMinute_eq]
  rfl

theorem minuteJudged_get (served : PerStream Bool) (s : State) (x : Stream) :
    (minuteFilter served s).records.get x = minuteJudged served s x := by
  cases x <;> rfl

theorem minutePending_get (served : PerStream Bool) (s : State) (x : Stream) :
    (minuteFilter served s).pending.get x = servedPending s.filter.gateOpen (served.get x) (s.filter.pending.get x) := by
  cases x <;> rfl

theorem filterMinuteWork_filter (served : PerStream Bool) (s : State) :
    (filterMinuteWork served s).filter = { minuteFilter served s with rewriting := true } := by
  rw [filterMinuteWork_eq]
  simp [orderRewrite]

theorem filterMinuteWork_lamp (served : PerStream Bool) (s : State) :
    (filterMinuteWork served s).lines.lamp = lampWanted (minuteFilter served s).records := by
  rw [filterMinuteWork_eq, (orderRewrite_frame _).2.2.2.2.2.2.2.2.2.2.1, reportAll_lamp]
  exact reportLamp_lamp _

/-- A report of the minute raises its flag. -/
theorem filterMinuteWork_raises {served : PerStream Bool} {s : State} {k : EventKind} {src : Source}
    (placed : (k, src) ∈ minuteReports served s) : flagRaised (filterMinuteWork served s) k = true := by
  rw [filterMinuteWork_eq]
  exact reportAll_flagRaised _ k src _ placed

theorem minuteAccrued_dpAvg (served : PerStream Bool) (s : State) (x : Stream) :
    (minuteAccrued served s x).dpAvg = (s.filter.records.get x).dpAvg := by
  unfold minuteAccrued servedRecord
  split <;> rfl

theorem minuteAccrued_blocked (served : PerStream Bool) (s : State) (x : Stream) :
    (minuteAccrued served s x).blocked = (s.filter.records.get x).blocked := by
  unfold minuteAccrued servedRecord
  split <;> rfl

theorem minuteAccrued_service (served : PerStream Bool) (s : State) (x : Stream) :
    (minuteAccrued served s x).service = (s.filter.records.get x).service := by
  unfold minuteAccrued servedRecord
  split <;> rfl

theorem minuteJudged_volume (served : PerStream Bool) (s : State) (x : Stream) :
    (minuteJudged served s x).volume = (s.filter.records.get x).volume := by
  unfold minuteJudged minuteRecord minuteAccrued servedRecord
  split <;> rfl

theorem minuteJudged_baseline (served : PerStream Bool) (s : State) (x : Stream) :
    (minuteJudged served s x).baseline = (s.filter.records.get x).baseline := by
  unfold minuteJudged minuteRecord minuteAccrued servedRecord
  split <;> rfl

/-- The service state of a minute is the judgement of the record that it leaves (R112). -/
theorem minuteJudged_service (served : PerStream Bool) (s : State) (x : Stream) :
    (minuteJudged served s x).service =
      if (minuteAccrued served s x).service = .unknown then .unknown
      else if serviceCode (minuteAccrued served s x).service < serviceCode (serviceTarget s.settings (minuteJudged served s x))
      then serviceTarget s.settings (minuteJudged served s x)
      else (minuteAccrued served s x).service := rfl

theorem blocked_reported {served : PerStream Bool} {s : State} {x : Stream}
    (blocked : (minuteJudged served s x).blocked = true)
    (fresh : (s.filter.records.get x).blocked = false ∨ flagRaised s .filterBlocked = false) :
    flagRaised (filterMinuteWork served s) .filterBlocked = true := by
  have same : (minuteAccrued served s x).blocked = (s.filter.records.get x).blocked := minuteAccrued_blocked served s x
  have placed : (.filterBlocked, .filter x) ∈
      blockedReports x (flagRaised s .filterBlocked) (minuteAccrued served s x) (minuteJudged served s x) := by
    have reports : ((minuteJudged served s x).blocked
        && (!(minuteAccrued served s x).blocked || !flagRaised s .filterBlocked)) = true := by
      rw [blocked, same]
      obtain unblocked | clear := fresh
      · simp [unblocked]
      · simp [clear]
    rw [blockedReports, if_pos reports]
    exact List.mem_singleton_self _
  refine filterMinuteWork_raises (src := .filter x) ?_
  cases x <;> simp only [minuteReports, List.mem_append] <;> tauto

theorem due_reported {served : PerStream Bool} {s : State} {x : Stream}
    (changed : (minuteJudged served s x).service ≠ (s.filter.records.get x).service) :
    flagRaised (filterMinuteWork served s) .filterDue = true := by
  have same : (minuteAccrued served s x).service = (s.filter.records.get x).service := minuteAccrued_service served s x
  have placed : (.filterDue, .filter x) ∈ dueReports x (minuteAccrued served s x) (minuteJudged served s x) := by
    rw [dueReports, if_neg (by rw [same]; exact changed.symm)]
    exact List.mem_singleton_self _
  refine filterMinuteWork_raises (src := .filter x) ?_
  cases x <;> simp only [minuteReports, List.mem_append] <;> tauto

theorem pressureReaches_iff (bound : Nat) (r : FilterRec) :
    pressureReaches bound r = true ↔ ∃ b, r.baseline = some b ∧ bound ≤ 100 * r.dpAvg / b := by
  unfold pressureReaches pressureShare
  cases r.baseline <;> simp

theorem loopsInService_get (s : State) (x : Stream) :
    (loopsInService s).get x = inService (s.loops.get x).state := by
  cases x <;> rfl

/-- Settles O40: the accrual by the gate, the judgement by the rules of one record, the reports by their lists. -/
theorem filterMinuteJudgesTheRecords : Obligations.FilterMinuteJudgesTheRecords := by
  unfold Obligations.FilterMinuteJudgesTheRecords
  intro s powered free
  let served := loopsInService s
  have run : exec .filterMinute s = .next (filterMinuteWork served s) := by
    refine (exec_powered powered rfl : exec .filterMinute s = .next (filterMinute s)).trans (congrArg _ ?_)
    exact filterPost_taken _ _ free
  have cascade : Cascade True s (filterMinuteWork served s) := filterMinuteWork_cascade served s
  have filter := filterMinuteWork_filter served s
  refine ⟨_, run, cascade.outer, cascade.reportsOnly, by simp, by simp, by simp, by simp, by simp, ?_, ?_, fun x => ?_⟩
  · rw [filter]
    rfl
  · rw [filterMinuteWork_lamp, filter]
  · have record : (filterMinuteWork served s).filter.records.get x = minuteJudged served s x := by
      rw [filter]
      exact minuteJudged_get served s x
    have accrued : (filterMinuteWork served s).filter.pending.get x =
        servedPending s.filter.gateOpen (served.get x) (s.filter.pending.get x) := by
      rw [filter]
      exact minutePending_get served s x
    rw [record, accrued]
    intro r r' p p' volume reaches target
    have due := @due_reported served s x
    have blocked := @blocked_reported served s x
    refine ⟨?_, ?_, ?_, ?_, ?_, ?_, ?_, blocked, ?_, ?_, due⟩
    · simp only [r', r, minuteJudged, minuteRecord, minuteAccrued, servedRecord]
      split <;> rfl
    · have serving : served.get x = inService (s.loops.get x).state := loopsInService_get s x
      simp only [r', r, p', p, minuteJudged, minuteRecord, minuteAccrued, servedRecord, servedPending, serving]
      cases inService (s.loops.get x).state <;> cases s.filter.gateOpen <;> rfl
    · simp only [p', p, servedPending]
      split <;> rfl
    · intro v sampled latest
      simp only [r', minuteJudged, minuteRecord, minuteAccrued_dpAvg, averaged, sampled, latest, r]
    · intro unsampled
      simp only [r', minuteJudged, minuteRecord, minuteAccrued_dpAvg, averaged, unsampled, r]
    · intro clear
      have before : (minuteAccrued served s x).blocked = false := (minuteAccrued_blocked served s x).trans clear
      simp [r', minuteJudged, minuteRecord, blockedMark, before]
    · intro set
      have before : (minuteAccrued served s x).blocked = true := (minuteAccrued_blocked served s x).trans set
      simp [r', minuteJudged, minuteRecord, blockedMark, before]
    · intro unknown
      exact (minuteJudged_service served s x).trans (if_pos ((minuteAccrued_service served s x).trans unknown))
    · intro known
      have judged := minuteJudged_service served s x
      have before : (minuteAccrued served s x).service = r.service := minuteAccrued_service served s x
      have aim : serviceTarget s.settings (minuteJudged served s x) = target := by
        have share : volumeShare s.settings (minuteJudged served s x) = volume :=
          congrArg (fun v => 100 * v / s.settings.ratedVolume) (minuteJudged_volume served s x)
        have reached (bound : Nat) : pressureReaches bound (minuteJudged served s x) = true ↔ reaches bound := by
          rw [pressureReaches_iff, minuteJudged_baseline]
        simp only [serviceTarget, share, Bool.or_eq_true, decide_eq_true_eq, reached, or_assoc]
        rfl
      rw [before, if_neg known, aim] at judged
      exact judged

end Sys2Proof.Machine
end

section
/-! The events that a rewrite of the retained store holds (O41). -/

namespace Sys2Proof.Machine

/-! ### What the monitor's work does not read: the store's bytes and the list of what waits -/

/-- The state with other bytes in the retained store and other events waiting. -/
def shelved (bytes : List Byte) (held : List FilterEvent) (s : State) : State :=
  { s with filter := { s.filter with store := bytes, held := held } }

/-- Work that neither reads nor changes the retained store's bytes and the events that wait. -/
def LeavesShelf (f : State → State) : Prop :=
  ∀ bytes held s, f (shelved bytes held s) = shelved bytes held (f s)

theorem shelved_self {s : State} {held : List FilterEvent} (same : s.filter.held = held) :
    { s with filter := { s.filter with held := held } } = s := by
  subst same
  rfl

theorem LeavesShelf.id : LeavesShelf (fun s => s) := fun _ _ _ => rfl

theorem LeavesShelf.comp {f g : State → State} (outer : LeavesShelf f) (inner : LeavesShelf g) :
    LeavesShelf (fun s => f (g s)) :=
  fun bytes held s => (congrArg f (inner bytes held s)).trans (outer bytes held (g s))

theorem LeavesShelf.ite {p : State → Prop} [DecidablePred p] {f g : State → State}
    (unread : ∀ bytes held s, p (shelved bytes held s) ↔ p s) (yes : LeavesShelf f) (no : LeavesShelf g) :
    LeavesShelf (fun s => if p s then f s else g s) := by
  intro bytes held s
  by_cases holds : p s
  · simp only [(unread bytes held s).mpr holds, holds, if_true, yes bytes held s]
  · simp only [mt (unread bytes held s).mp holds, holds, if_false, no bytes held s]

/-- Work steered by a figure that the shelf does not bear on. -/
theorem LeavesShelf.reads {α : Type} {g : State → α} {f : α → State → State}
    (unread : ∀ bytes held s, g (shelved bytes held s) = g s) (leaves : ∀ a, LeavesShelf (f a)) :
    LeavesShelf (fun s => f (g s) s) :=
  fun bytes held s => (congrArg (fun a => f a _) (unread bytes held s)).trans (leaves (g s) bytes held s)

theorem LeavesShelf.held {f : State → State} (leaves : LeavesShelf f) (s : State) :
    (f s).filter.held = s.filter.held := by
  have same : f s = shelved s.filter.store s.filter.held (f s) := leaves s.filter.store s.filter.held s
  exact (congrArg (fun t : State => t.filter.held) same).trans rfl

theorem LeavesShelf.store {f : State → State} (leaves : LeavesShelf f) (s : State) :
    (f s).filter.store = s.filter.store := by
  have same : f s = shelved s.filter.store s.filter.held (f s) := leaves s.filter.store s.filter.held s
  exact (congrArg (fun t : State => t.filter.store) same).trans rfl

theorem raiseFlag_leavesShelf (k : EventKind) : LeavesShelf (raiseFlag k) :=
  .comp (f := judgeSevere)
    (.ite (p := fun s => (s.events.flags &&& severeMask != 0) = s.events.severe) (fun _ _ _ => .rfl) .id
      fun _ _ _ => rfl)
    fun _ _ _ => rfl

theorem report_leavesShelf (k : EventKind) (src : Source) : LeavesShelf (report k src) :=
  .ite (p := fun s => kindEnabled s.settings k = true) (fun _ _ _ => .rfl)
    (.comp (f := placeOccurrence k src) (fun _ _ _ => rfl) (raiseFlag_leavesShelf k)) (raiseFlag_leavesShelf k)

theorem reportAll_leavesShelf (os : List (EventKind × Source)) : LeavesShelf (reportAll os) := by
  induction os with
  | nil => exact .id
  | cons o os rest => exact .comp (f := reportAll os) rest (report_leavesShelf o.1 o.2)

theorem handDemand_leavesShelf (d : Nat) : LeavesShelf (handDemand d) :=
  .ite (p := fun s => s.frost.mode = .defrost) (fun _ _ _ => .rfl) (fun _ _ _ => rfl) fun _ _ _ => rfl

theorem recomputeDemand_leavesShelf : LeavesShelf recomputeDemand :=
  .ite (p := fun s => demandOf s = s.demand.d) (fun _ _ _ => .rfl) .id
    (.reads (g := demandOf) (fun _ _ _ => rfl) handDemand_leavesShelf)

theorem captureReport_leavesShelf (inForce : Bool) : LeavesShelf (captureReport inForce) :=
  .comp (f := recomputeDemand) (g := fun s => { s with demand := { s.demand with captureInForce := inForce } })
    recomputeDemand_leavesShelf fun _ _ _ => rfl

theorem abortCapture_leavesShelf (c : CaptureCause) : LeavesShelf (abortCapture c) :=
  .ite (p := fun s => s.filter.capture.state = .none) (fun _ _ _ => .rfl) .id
    (.comp (report_leavesShelf .captureAborted (.capture c))
      (.comp (captureReport_leavesShelf false) fun _ _ _ => rfl))

theorem reportLamp_leavesShelf : LeavesShelf reportLamp :=
  .ite (p := fun s => lampWanted s.filter.records = s.lines.lamp) (fun _ _ _ => .rfl) .id fun _ _ _ => rfl

theorem accrueVolume_leavesShelf (x : Stream) (air : Nat) : LeavesShelf (accrueVolume x air) :=
  .ite (p := fun s => s.filter.gateOpen = true) (fun _ _ _ => .rfl) (fun _ _ _ => rfl) fun _ _ _ => rfl

theorem filterWindowEnd_leavesShelf (x : Stream) (w : WindowFigures) : LeavesShelf (filterWindowEnd x w) := by
  have sampled : LeavesShelf fun s =>
      (match pressureSample w with
      | some v => takeSample x v s
      | none => s : State) := by
    cases pressureSample w
    · exact .id
    · exact fun _ _ _ => rfl
  have counted : LeavesShelf (countWindow x) :=
    .ite (p := fun s => x = .supply ∧ s.filter.capture.state = .wait) (fun _ _ _ => .rfl) (fun _ _ _ => rfl) .id
  have passed : LeavesShelf (passToRun w.onTarget) :=
    .ite (p := fun s => s.filter.capture.state = .wait ∧ 2 ≤ s.filter.capture.windows ∧ w.onTarget = true)
      (fun _ _ _ => .rfl) (.comp (captureReport_leavesShelf true) fun _ _ _ => rfl) .id
  exact .comp (f := passToRun w.onTarget) passed
    (.comp (f := countWindow x) counted (.comp sampled (accrueVolume_leavesShelf x (w.flow * w.ended))))

theorem filterLoopChange_leavesShelf (x : Stream) (before after : LoopState) :
    LeavesShelf (filterLoopChange x before after) :=
  .ite (p := fun s => s.filter.capture.state = .run) (fun _ _ _ => .rfl) (fun _ _ _ => rfl) .id

theorem filterMinuteWork_leavesShelf (served : PerStream Bool) : LeavesShelf (filterMinuteWork served) := by
  have judged (os : List (EventKind × Source)) :
      LeavesShelf fun s => orderRewrite (reportAll os (reportLamp { s with filter := minuteFilter served s })) :=
    .comp (f := orderRewrite) (fun _ _ _ => rfl)
      (.comp (reportAll_leavesShelf os)
        (.comp (f := reportLamp) (g := fun s => { s with filter := minuteFilter served s }) reportLamp_leavesShelf
          fun _ _ _ => rfl))
  rw [funext (filterMinuteWork_eq served)]
  exact .reads (g := minuteReports served) (fun _ _ _ => rfl) judged

/-- The state with the records that a capture in RUN leaves (R117). -/
def withCaptured (s : State) : State :=
  { s with filter := { s.filter with records := capturedRecords s, capture := Capture.empty } }

theorem endCaptureRun_leavesShelf : LeavesShelf endCaptureRun := by
  have done (os : List (EventKind × Source)) :
      LeavesShelf fun s => reportAll os (captureReport false (orderRewrite (reportLamp (withCaptured s)))) :=
    .comp (reportAll_leavesShelf os)
      (.comp (captureReport_leavesShelf false)
        (.comp (f := orderRewrite) (fun _ _ _ => rfl)
          (.comp (f := reportLamp) (g := withCaptured) reportLamp_leavesShelf fun _ _ _ => rfl)))
  exact .ite (p := fun s => s.filter.capture.state ≠ .run) (fun _ _ _ => .rfl) .id
    (.ite
      (p := fun s => (lacksSamples s.filter.capture .supply || lacksSamples s.filter.capture .extract) = true)
      (fun _ _ _ => .rfl) (abortCapture_leavesShelf .noSamples)
      (.reads (g := fun s => doneReports s.filter.capture .supply ++ doneReports s.filter.capture .extract)
        (fun _ _ _ => rfl) done))

theorem startCapture_leavesShelf (named : PerStream Bool) : LeavesShelf (startCapture named) :=
  .comp (f := captureReport true)
    (g := fun s => { s with filter := { s.filter with capture := { Capture.empty with state := .wait, named := named } } })
    (captureReport_leavesShelf true) fun _ _ _ => rfl

/-- A request is served by no figure of the shelf. -/
theorem serveFilter_shelved (req : FilterRequest) (bytes : List Byte) (held : List FilterEvent) (s : State) :
    serveFilter req (shelved bytes held s) = ((serveFilter req s).1, shelved bytes held (serveFilter req s).2) := by
  cases req with
  | read b =>
    simp only [serveFilter, serveFilterRead]
    cases streamOfCode b.toNat <;> rfl
  | changed b =>
    simp only [serveFilter, serveFilterChanged]
    cases namedOfCode b.toNat with
    | none => rfl
    | some named =>
      have allowed : captureAllowed (shelved bytes held s) = captureAllowed s := rfl
      cases accepted : captureAllowed s <;> simp [allowed, accepted, startCapture_leavesShelf named bytes held s]
  | startReport =>
    have opened : LeavesShelf fun s => (serveStartReport s).2 :=
      .ite (p := fun s => s.filter.gateOpen = true) (fun _ _ _ => .rfl) .id fun _ _ _ => rfl
    exact Prod.ext rfl (opened bytes held s)

/-- The monitor's work reads neither the store's bytes nor what waits, and leaves both (R100). -/
theorem filterTake_leavesShelf (e : FilterEvent) : LeavesShelf (filterTake e) := by
  cases e with
  | windowEnd x w => exact filterWindowEnd_leavesShelf x w
  | loopChange x before after => exact filterLoopChange_leavesShelf x before after
  | minute served => exact filterMinuteWork_leavesShelf served
  | waitTimeout =>
    exact .ite (p := fun s => s.filter.capture.state = .wait) (fun _ _ _ => .rfl) (abortCapture_leavesShelf _) .id
  | runEnd => exact endCaptureRun_leavesShelf
  | lockOut x =>
    exact .ite (p := fun s => s.filter.capture.state = .run ∧ (s.filter.capture.lockOut.get x).isSome = true)
      (fun _ _ _ => .rfl) (abortCapture_leavesShelf _) .id
  | leftRun => exact abortCapture_leavesShelf _
  | frostEntry => exact abortCapture_leavesShelf _
  | channelFailed x =>
    exact .ite (p := fun s => s.filter.capture.named.get x = true) (fun _ _ _ => .rfl) (abortCapture_leavesShelf _) .id
  | request to' req =>
    intro bytes held s
    have served := serveFilter_shelved req bytes held s
    simp only [filterTake, served]
    cases to' <;> rfl

/-! ### A window end at the monitor (R104, R108, R115, R116) -/

/-- A stream's record after the air of a window (R104). -/
def windowRecord (air : Nat) (f : FilterMonitor) (x : Stream) : FilterRec :=
  if f.gateOpen then accrueRecord air (f.records.get x) else f.records.get x

/-- A stream's pending accrual after the air of a window (R106). -/
def windowPending (air : Nat) (f : FilterMonitor) (x : Stream) : Pending :=
  if f.gateOpen then f.pending.get x else accruePending air (f.pending.get x)

/-- The capture after the sample of a window end (R116). -/
def sampledCapture (x : Stream) (w : WindowFigures) (c : Capture) : Capture :=
  match pressureSample w with
  | some v => sumSample x v c
  | none => c

/-- The capture after a window end is counted (R115). -/
def countedCapture (x : Stream) (c : Capture) : Capture :=
  if x = .supply ∧ c.state = .wait then { c with windows := c.windows + 1 } else c

/-- The capture after its passage to RUN, when the conditions hold (R115). -/
def passedCapture (settled : Bool) (c : Capture) : Capture :=
  if c.state = .wait ∧ 2 ≤ c.windows ∧ settled = true then
    { c with state := .run, timer := 0, lockOut := ⟨none, none⟩ }
  else c

/-- The capture after a window end. -/
def windowCapture (x : Stream) (w : WindowFigures) (c : Capture) : Capture :=
  passedCapture w.onTarget (countedCapture x (sampledCapture x w c))

/-- The monitor after a window end. -/
def windowFilter (x : Stream) (w : WindowFigures) (f : FilterMonitor) : FilterMonitor :=
  { f with
    records := f.records.set x (windowRecord (w.flow * w.ended) f x)
    pending := f.pending.set x (windowPending (w.flow * w.ended) f x)
    latest := (pressureSample w).elim f.latest fun v => f.latest.set x (some v)
    sampled := (pressureSample w).elim f.sampled fun _ => f.sampled.set x true
    capture := windowCapture x w f.capture }

theorem accrueVolume_eq (x : Stream) (air : Nat) (s : State) :
    accrueVolume x air s =
      { s with
        filter :=
          { s.filter with
            records := s.filter.records.set x (windowRecord air s.filter x)
            pending := s.filter.pending.set x (windowPending air s.filter x) } } := by
  unfold accrueVolume windowRecord windowPending
  split
  next gate => simp [setRecord, PerStream.set_get_self, gate]
  next gate => simp [PerStream.set_get_self, gate]

theorem countWindow_eq (x : Stream) (s : State) :
    countWindow x s = { s with filter := { s.filter with capture := countedCapture x s.filter.capture } } := by
  by_cases counts : x = .supply ∧ s.filter.capture.state = .wait
  · rw [countedCapture, if_pos counts]
    exact if_pos counts
  · rw [countedCapture, if_neg counts]
    exact if_neg counts

theorem passToRun_filter (settled : Bool) (s : State) :
    (passToRun settled s).filter = { s.filter with capture := passedCapture settled s.filter.capture } := by
  by_cases passes : s.filter.capture.state = .wait ∧ 2 ≤ s.filter.capture.windows ∧ settled = true
  · simp [passToRun, passedCapture, passes]
  · simp [passToRun, passedCapture, passes]

theorem filterWindowEnd_filter (x : Stream) (w : WindowFigures) (s : State) :
    (filterWindowEnd x w s).filter = windowFilter x w s.filter := by
  unfold filterWindowEnd
  rw [passToRun_filter, countWindow_eq, accrueVolume_eq]
  unfold windowFilter windowCapture sampledCapture
  cases pressureSample w <;> rfl

theorem pressureSample_measurable {w : WindowFigures} {dp : Int} (measurable : w.state = .locked ∧ w.fRef / 2 ≤ w.flow)
    (present : w.pressure = some dp) :
    pressureSample w = some (min 1000 (dp.toNat * w.fRef * w.fRef / (w.flow * w.flow))) := by
  simp [pressureSample, present, measurable]

theorem pressureSample_none {w : WindowFigures} (lacking : ¬(w.state = .locked ∧ w.fRef / 2 ≤ w.flow) ∨ w.pressure = none) :
    pressureSample w = none := by
  unfold pressureSample
  obtain unmeasured | absent := lacking
  · cases w.pressure
    · rfl
    · exact if_neg unmeasured
  · rw [absent]

theorem sampledCapture_idle {x : Stream} {w : WindowFigures} {c : Capture} (idle : c.state ≠ .run) :
    sampledCapture x w c = c := by
  unfold sampledCapture
  cases pressureSample w
  · rfl
  · exact if_neg fun runs => idle runs.1

theorem sampledCapture_state (x : Stream) (w : WindowFigures) (c : Capture) :
    (sampledCapture x w c).state = c.state := by
  unfold sampledCapture
  cases pressureSample w
  · rfl
  · dsimp only [sumSample]
    split <;> rfl

theorem windowCapture_wait {x : Stream} {w : WindowFigures} {c : Capture} (waiting : c.state = .wait) :
    windowCapture x w c =
      passedCapture w.onTarget { c with windows := c.windows + if x = .supply then 1 else 0 } := by
  unfold windowCapture
  rw [sampledCapture_idle (by simp [waiting])]
  cases x with
  | supply => exact congrArg _ (if_pos ⟨rfl, waiting⟩)
  | extract => exact congrArg _ (if_neg (by simp))

theorem windowCapture_run {x : Stream} {w : WindowFigures} {c : Capture} (running : c.state = .run) :
    windowCapture x w c = sampledCapture x w c := by
  have state : (sampledCapture x w c).state = .run := (sampledCapture_state x w c).trans running
  simp [windowCapture, countedCapture, passedCapture, state]

theorem windowCapture_none {x : Stream} {w : WindowFigures} {c : Capture} (none : c.state = .none) :
    windowCapture x w c = c := by
  unfold windowCapture
  rw [sampledCapture_idle (by simp [none])]
  simp [countedCapture, passedCapture, none]

theorem passedCapture_run {settled : Bool} {c : Capture} (waiting : c.state = .wait) :
    (passedCapture settled c).state = .run ↔ 2 ≤ c.windows ∧ settled = true := by
  unfold passedCapture
  by_cases passes : 2 ≤ c.windows ∧ settled = true
  · simp [waiting, passes]
  · simp [waiting, passes]

/-! ### Holding and draining (R100) -/

/-- A row of the monitor's requests reaches it as an event of its own. -/
theorem exec_filterAsk {c : Instr} {ask : FilterRequest} {s : State} (powered : s.powered = true)
    (opened : s.link.closed = false) (asked : filterAsk c = some ask) :
    exec c s = .next (filterPost (.request none ask) s) := by
  have arm : exec c s = whileOpen (handToFilter none ask) s := by
    unfold filterAsk at asked
    split at asked
    all_goals cases asked
    all_goals rfl
  rw [arm, whileOpen_on _ s powered opened]
  simp [handToFilter]

/-- A timer's row of the monitor reaches it as an event. -/
theorem exec_filterEvent {c : Instr} {e : FilterEvent} {s : State} (powered : s.powered = true)
    (listed : (c, e) ∈ [(.filterMinute, .minute (loopsInService s)), (.captureWaitTimeout, .waitTimeout),
      (.captureRunEnd, .runEnd), (.lockOutExpiry .supply, .lockOut .supply),
      (.lockOutExpiry .extract, .lockOut .extract)]) :
    exec c s = .next (filterPost e s) := by
  simp only [List.mem_cons, Prod.mk.injEq, List.not_mem_nil, or_false] at listed
  obtain ⟨rfl, rfl⟩ | ⟨rfl, rfl⟩ | ⟨rfl, rfl⟩ | ⟨rfl, rfl⟩ | ⟨rfl, rfl⟩ := listed
  all_goals exact whilePowered_on _ s powered

theorem drainHeld_outer (es : List FilterEvent) (s : State) : OuterKept s (drainHeld es s) := by
  induction es generalizing s with
  | nil => simp [OuterKept, drainHeld]
  | cons e es rest =>
    unfold drainHeld
    split
    · simp [OuterKept]
    · have kept := rest (filterTake e s)
      simpa [OuterKept] using kept

theorem drainHeld_store (es : List FilterEvent) (s : State) : (drainHeld es s).filter.store = s.filter.store := by
  induction es generalizing s with
  | nil => rfl
  | cons e es rest =>
    unfold drainHeld
    split
    · rfl
    · exact (rest _).trans ((filterTake_leavesShelf e).store s)

/-- What is drained does not bear on the bytes that the store holds. -/
theorem drainHeld_shelved (bytes : List Byte) (es : List FilterEvent) (s : State) :
    drainHeld es (shelved bytes s.filter.held s) = shelved bytes (drainHeld es s).filter.held (drainHeld es s) := by
  induction es generalizing s with
  | nil => rfl
  | cons e es rest =>
    by_cases rewriting : s.filter.rewriting = true
    · simp [drainHeld, rewriting, shelved]
    · have taken := rest (filterTake e s)
      rw [(filterTake_leavesShelf e).held s, ← filterTake_leavesShelf e] at taken
      simpa [drainHeld, rewriting, shelved] using taken

theorem exec_rewriteEnd {s : State} (powered : s.powered = true) (rewriting : s.filter.rewriting = true) :
    exec .rewriteEnd s =
      .next (drainHeld s.filter.held
        { s with filter := { s.filter with store := storeImage s.filter.records, rewriting := false, held := [] } }) :=
  (whilePowered_on _ s powered).trans (congrArg _ (if_pos rewriting))

/-- Settles O41: the hand-over by `filterPost`, the drain by its first event and by what the monitor's work never reads. -/
theorem rewriteHoldsEvents : Obligations.RewriteHoldsEvents := by
  unfold Obligations.RewriteHoldsEvents
  intro s powered
  have served : (⟨inService s.loops.supply.state, inService s.loops.extract.state⟩ : PerStream Bool) =
      ⟨decide (s.loops.supply.state ∈ [.starting, .settling, .locked, .unlocked]),
        decide (s.loops.extract.state ∈ [.starting, .settling, .locked, .unlocked])⟩ := by
    congr 1
    · cases s.loops.supply.state <;> rfl
    · cases s.loops.extract.state <;> rfl
  intro serving minutes
  refine ⟨fun c e reaches => ?_, fun free => ?_, fun rewriting => ?_, fun x w => ?_, fun p x gate => ?_⟩
  · have posted : exec c s = .next (filterPost e s) := by
      obtain listed | ⟨opened, ask, asked, rfl⟩ := reaches
      · refine exec_filterEvent powered ?_
        rwa [loopsInService, served]
      · exact exec_filterAsk powered opened asked
    exact ⟨fun rewriting => posted.trans (congrArg _ (filterPost_held e s rewriting)),
      fun free => posted.trans (congrArg _ (filterPost_taken e s free))⟩
  · exact (whilePowered_on _ s powered).trans (congrArg _ (if_neg (by simp [free])))
  · intro image freed
    have ends := exec_rewriteEnd powered rewriting
    refine ⟨⟨_, ends, drainHeld_outer _ freed, drainHeld_store _ freed⟩, fun empty => ?_, fun e es waits => ?_⟩
    · rw [ends, empty]
      rfl
    · intro u
      have drained : exec .rewriteEnd s = .next (drainHeld es u) := by
        rw [ends, waits]
        rfl
      have shelf : u.filter.held = [] := (filterTake_leavesShelf e).held freed
      have store : u.filter.store = image := (filterTake_leavesShelf e).store freed
      refine ⟨fun ordered => ?_, fun idle => ⟨_, exec_rewriteEnd (by simp [u, freed, powered]) rfl, ?_⟩⟩
      · rw [drained]
        cases es with
        | nil => exact congrArg Host.Outcome.next (shelved_self shelf).symm
        | cons e' es => simp [drainHeld, ordered, shelf]
      · let again := storeImage u.filter.records
        have restart : ({ u with filter := { u.filter with store := again, rewriting := false, held := [] } } : State) =
            shelved again u.filter.held u := by
          rw [shelved, ← idle, shelf]
        have kept : (drainHeld es u).filter.store = image := (drainHeld_store es u).trans store
        have same : drainHeld es { u with filter := { u.filter with store := again, rewriting := false, held := [] } } =
            shelved again (drainHeld es u).filter.held (drainHeld es u) := by
          rw [restart, drainHeld_shelved]
        rw [drained]
        refine congrArg Host.Outcome.next ?_
        refine Eq.trans ?_ (congrArg (fun t : State => { t with filter := { t.filter with store := image } }) same).symm
        rw [← kept]
        rfl
  · intro u measurable windows
    have filter : u.filter = windowFilter x w s.filter := filterWindowEnd_filter x w s
    rw [filter]
    refine ⟨fun dp measured present => ?_, fun lacking => ?_, fun waiting => ?_⟩
    · simp [windowFilter, pressureSample_measurable measured present]
    · simp [windowFilter, pressureSample_none lacking]
    · have passes := @passedCapture_run w.onTarget { s.filter.capture with windows := windows } waiting
      rw [windowFilter, windowCapture_wait waiting]
      exact passes
  · have filter := filterMinuteWork_filter p s
    have record : (filterTake (.minute p) s).filter.records.get x = minuteJudged p s x := by
      rw [show filterTake (.minute p) s = filterMinuteWork p s from rfl, filter]
      exact minuteJudged_get p s x
    rw [record]
    cases passed : p.get x <;> simp [minuteJudged, minuteRecord, minuteAccrued, servedRecord, gate, passed] <;> rfl

end Sys2Proof.Machine
end

section
/-! SETTING READ and SETTING WRITE (O59). -/

namespace Sys2Proof.Machine

/-! ### A setting read after a setting written (R195) -/

theorem loopFieldGet_put_same (c : LoopSettings) (f : LoopField) (v : Nat) :
    loopFieldGet (loopFieldPut c f v) f = v := by
  cases f <;> rfl

theorem loopFieldGet_put_other {f g : LoopField} (other : g ≠ f) (c : LoopSettings) (v : Nat) :
    loopFieldGet (loopFieldPut c f v) g = loopFieldGet c g := by
  cases f <;> cases g <;> first | rfl | exact absurd rfl other

/-- A loop's settings are read at the value of the field written. -/
theorem loopFieldInRange_nonneg {f : LoopField} {v : Int} (fits : loopFieldInRange f v = true) : (v.toNat : Int) = v := by
  cases f <;> simp [loopFieldInRange] at fits <;> omega

/-- A written setting reads as the value, when the value is within its range and the setting can be written. -/
theorem settingGet_put_same {i : SettingId} {v : Int} (set : Settings) (fits : settingInRange i v = true)
    (free : notWritable i = false) : settingGet (settingPut set i v) i = v := by
  cases i with
  | loop x f =>
    have stands : ((settingPut set (.loop x f) v).loops.get x) = loopFieldPut (set.loops.get x) f v.toNat := by
      cases x <;> rfl
    rw [settingGet, stands, loopFieldGet_put_same]
    exact loopFieldInRange_nonneg fits
  | lockBand =>
    obtain ⟨low, high⟩ : 0 ≤ v ∧ v ≤ 3 := by simpa [settingInRange] using fits
    interval_cases v <;> rfl
  | startLevel =>
    obtain ⟨low, high⟩ : 0 ≤ v ∧ v ≤ 4 := by simpa [settingInRange] using fits
    interval_cases v <;> rfl
  | slotEntry k => simp [notWritable] at free
  | lineConfig l => simp [notWritable] at free
  | increment r =>
    obtain ⟨low, high⟩ : 0 ≤ v ∧ v ≤ 500 := by simpa [settingInRange] using fits
    have stands : incrementOf (putIncrement set r v.toNat) r = v.toNat := by cases r <;> rfl
    rw [settingGet, settingPut, stands]
    omega
  | enable k =>
    obtain ⟨low, high⟩ : 0 ≤ v ∧ v ≤ 1 := by simpa [settingInRange] using fits
    rw [settingGet, settingPut, kindEnabled_putEnable, if_pos rfl]
    interval_cases v <;> rfl
  | level k =>
    obtain ⟨low, high⟩ : 0 ≤ v ∧ v ≤ 7 := by simpa [settingInRange] using fits
    rw [settingGet, settingPut, kindLevel_putLevel _ _ _ (by omega), if_pos rfl]
    omega
  | offset | tWatch | tFrost | tRelease => rfl
  | _ =>
    simp [settingInRange] at fits
    simp only [settingGet, settingPut]
    omega

/-- A written setting leaves every other setting as it was. -/
theorem settingGet_put_other {i j : SettingId} {v : Int} (set : Settings) (fits : settingInRange i v = true)
    (other : j ≠ i) : settingGet (settingPut set i v) j = settingGet set j := by
  cases i with
  | loop x f =>
    cases j with
    | loop y g =>
      by_cases same : y = x
      · subst same
        have field : g ≠ f := fun e => other (by rw [e])
        simp [settingGet, settingPut, loopFieldGet_put_other field]
      · simp only [settingGet, settingPut, PerStream.get_set_other _ _ same]
    | _ => rfl
  | increment r =>
    cases j with
    | increment q =>
      cases r <;> cases q <;> first | rfl | exact absurd rfl other
    | _ => cases r <;> rfl
  | enable k =>
    cases j with
    | enable q =>
      have kind : q ≠ k := fun e => other (by rw [e])
      simp only [settingGet, settingPut, kindEnabled_putEnable, if_neg kind]
    | _ => rfl
  | level k =>
    obtain ⟨low, high⟩ : 0 ≤ v ∧ v ≤ 7 := by simpa [settingInRange] using fits
    cases j with
    | level q =>
      have kind : q ≠ k := fun e => other (by rw [e])
      simp only [settingGet, settingPut]
      rw [kindLevel_putLevel _ _ _ (by omega), if_neg kind]
    | _ => rfl
  | _ => cases j <;> first | rfl | exact absurd rfl other

/-! ### What the event of a write leaves (R54, R71, R93, R96) -/

/-- What no setting's write changes but A_max's and H_max's. -/
structure WriteKeeps (s t : State) : Prop where
  outer : t.powered = s.powered ∧ t.settings = s.settings ∧ t.store = s.store ∧ t.bus = s.bus ∧ t.pending = s.pending
  loops : t.loops = s.loops
  channels : t.measurement.channels = s.measurement.channels
  filter : t.filter = s.filter
  demand : t.demand.runState = s.demand.runState ∧ t.demand.level = s.demand.level ∧ t.demand.hold = s.demand.hold
  mode : t.frost.mode = s.frost.mode
  targets : t.governor.tS = s.governor.tS ∧ t.governor.tE = s.governor.tE
  allowance : t.governor.allowance = s.governor.allowance
  requested : t.frost.requested = s.frost.requested

theorem WriteKeeps.refl (s : State) : WriteKeeps s s := by constructor <;> simp

theorem WriteKeeps.trans {s t u : State} (first : WriteKeeps s t) (then' : WriteKeeps t u) : WriteKeeps s u := by
  obtain ⟨a, b, c, d, e, f, g, h, k⟩ := first
  constructor
  all_goals simp only [a, b, c, d, e, f, g, h, k, then'.outer, then'.loops, then'.channels, then'.filter, then'.demand, then'.mode,
    then'.targets, then'.allowance, then'.requested, and_self]

theorem recomputeDemand_writeKeeps (s : State) : WriteKeeps s (recomputeDemand s) := by
  rw [recomputeDemand_eq]
  constructor <;> simp

theorem formHumidity_writeKeeps (s : State) : WriteKeeps s (formHumidity s) := by
  unfold formHumidity
  split
  · exact .refl s
  · exact WriteKeeps.trans (by constructor <;> simp) (recomputeDemand_writeKeeps _)

theorem tellLevelFlow_writeKeeps (s : State) : WriteKeeps s (tellLevelFlow s) :=
  WriteKeeps.trans (by constructor <;> simp) (formHumidity_writeKeeps _)

theorem levelEntryWritten_writeKeeps (l : Level) (s : State) : WriteKeeps s (levelEntryWritten l s) := by
  unfold levelEntryWritten
  split
  · exact (tellLevelFlow_writeKeeps s).trans (recomputeDemand_writeKeeps _)
  · exact recomputeDemand_writeKeeps s

theorem reevaluate_channels (s : State) : (reevaluate s).measurement.channels = s.measurement.channels := by
  unfold reevaluate
  rw [setHeaterOutput_measurement]

theorem reevaluate_writeKeeps (s : State) : WriteKeeps s (reevaluate s) := by
  constructor <;> simp [reevaluate_channels]

theorem settingWritten_writeKeeps {i : SettingId} (aMax : i ≠ .aMax) (hMax : i ≠ .hMax) (s : State) :
    WriteKeeps s (settingWritten i s) := by
  cases i with
  | awayFlow | lowFlow | normalFlow | highFlow => exact levelEntryWritten_writeKeeps _ s
  | fMin | fMax | fRef => exact recomputeDemand_writeKeeps s
  | aMax => exact absurd rfl aMax
  | hMax => exact absurd rfl hMax
  | fHmin => exact reevaluate_writeKeeps s
  | increment r => exact formHumidity_writeKeeps s
  | humidCeiling => exact formHumidity_writeKeeps s
  | threshold => exact (by constructor <;> simp : WriteKeeps s (judgeNtf s))
  | _ => exact .refl s

theorem exhaustedIf_writeKeeps (c : Prop) [Decidable c] (s : State) : WriteKeeps s (if c then exhausted s else s) := by
  split
  · constructor <;> simp [exhausted]
  · exact .refl s

/-- A_max's write lowers the allowance to it and leaves what the other writes leave (R71). -/
theorem ceilingWritten_writes (s : State) :
    WriteKeeps { s with governor := { s.governor with allowance := min s.settings.aMax s.governor.allowance } }
      (ceilingWritten s) := by
  unfold ceilingWritten
  by_cases above : s.settings.aMax < s.governor.allowance
  · rw [if_pos above, Nat.min_eq_left above.le]
    exact exhaustedIf_writeKeeps _ _
  · rw [if_neg above, Nat.min_eq_right (Nat.le_of_not_lt above)]
    exact .refl s

theorem ceilingWritten_exhausts {s : State} (above : 0 < s.governor.allowance)
    (empty : (ceilingWritten s).governor.allowance = 0) :
    flagRaised (ceilingWritten s) .allowanceExhausted = true ∧ (ceilingWritten s).frost.exhaustion = true := by
  have zero : s.settings.aMax = 0 := by
    obtain ⟨-, governor⟩ := ceilingWritten_allowance s
    rw [governor] at empty
    simp only [Nat.min_eq_zero_iff] at empty
    omega
  have written : ceilingWritten s = exhausted { s with governor := { s.governor with allowance := s.settings.aMax } } := by
    unfold ceilingWritten
    rw [if_pos (by omega)]
    exact if_pos zero
  rw [written]
  exact ⟨report_flagRaised _ _ _, rfl⟩

theorem heaterMaximumWritten_writes (s : State) :
    WriteKeeps
      { s with
        frost :=
          { s.frost with
            requested := if s.frost.mode = .blind then s.settings.hMax / 2 else min s.frost.requested s.settings.hMax } }
      (heaterMaximumWritten s) :=
  reevaluate_writeKeeps _

/-- What a written setting leaves: all but the allowance at A_max's write and the requested power at H_max's. -/
theorem settingWritten_writes (i : SettingId) (s : State) :
    WriteKeeps
      { s with
        governor :=
          { s.governor with
            allowance := if i = .aMax then min s.governor.allowance s.settings.aMax else s.governor.allowance }
        frost :=
          { s.frost with
            requested :=
              if i = .hMax then
                if s.frost.mode = .blind then s.settings.hMax / 2 else min s.frost.requested s.settings.hMax
              else s.frost.requested } }
      (settingWritten i s) := by
  by_cases aMax : i = .aMax
  · subst aMax
    rw [if_pos rfl, Nat.min_comm]
    exact ceilingWritten_writes s
  by_cases hMax : i = .hMax
  · subst hMax
    exact heaterMaximumWritten_writes s
  · rw [if_neg aMax, if_neg hMax]
    exact settingWritten_writeKeeps aMax hMax s

theorem settingWritten_exhausts {i : SettingId} {s : State} (aMax : i = .aMax) (above : 0 < s.governor.allowance)
    (empty : (settingWritten i s).governor.allowance = 0) :
    flagRaised (settingWritten i s) .allowanceExhausted = true ∧ (settingWritten i s).frost.exhaustion = true := by
  subst aMax
  exact ceilingWritten_exhausts above empty

theorem notWritable_iff (i : SettingId) :
    notWritable i = true ↔ (∃ k, i = .slotEntry k) ∨ ∃ l, i = .lineConfig l := by
  cases i <;> simp [notWritable]

theorem valueRefused_iff (set : Settings) (i : SettingId) (v : Int) :
    valueRefused set i v = true ↔
      settingInRange i v = false ∨ (i = .fMin ∧ (set.fMax : Int) < v) ∨ (i = .fMax ∧ v < (set.fMin : Int)) := by
  cases i <;> simp [valueRefused, crossesClamp]

/-- Settles O59: the refusals in their order, and then the setting's own work on the settings with the value. -/
theorem settingWriteStoresTheValue : Obligations.SettingWriteStoresTheValue := by
  unfold Obligations.SettingWriteStoresTheValue
  intro id s powered opened
  have written (value : Word) : exec (.settingWrite id value) s =
      .next (replied (serveSettingWrite id value s).1 (serveSettingWrite id value s).2) := exec_row powered opened rfl
  refine ⟨?_, fun value => ⟨fun unknown => ?_, fun i known => ?_⟩⟩
  · have read : exec (.settingRead id) s = .next (replied (serveSettingRead id s).1 (serveSettingRead id s).2) :=
      exec_row powered opened rfl
    rw [read]
    unfold serveSettingRead
    cases settingOfId id.toNat <;> rfl
  · rw [written, serveSettingWrite, unknown]
  · intro v refused fixed
    have refusedIff := valueRefused_iff s.settings i v
    have fixedIff := notWritable_iff i
    have served : serveSettingWrite id value s =
        if valueRefused s.settings i v then (refusal .range, s)
        else if notWritable i then (refusal .state, s)
        else (doneWith [], settingWritten i { s with settings := settingPut s.settings i v }) := by
      rw [serveSettingWrite, known]
    rw [written, served]
    refine ⟨fun bad => ?_, fun good unwritable => ?_, fun good free => ?_⟩
    · rw [if_pos (refusedIff.mpr bad)]
    · rw [if_neg (mt refusedIff.mp good), if_pos (fixedIff.mpr unwritable)]
    · rw [if_neg (mt refusedIff.mp good), if_neg (mt fixedIff.mp free)]
      have fits : settingInRange i v = true := by
        by_contra outside
        exact good (.inl (by simpa using outside))
      have writable : notWritable i = false := by simpa using mt fixedIff.mp free
      have same := settingGet_put_same s.settings fits writable
      have others := fun j (other : j ≠ i) => settingGet_put_other s.settings fits other
      generalize settingPut s.settings i v = set at same others
      obtain ⟨⟨on, settings, store, bus, pending⟩, loops, channels, filter, ⟨run, level, hold⟩, mode, ⟨tS, tE⟩, allowance,
        requested⟩ := settingWritten_writes i { s with settings := set }
      have exhausts := @settingWritten_exhausts i { s with settings := set }
      refine ⟨_, rfl, rfl, (congrArg (fun set => settingGet set i) settings).trans same,
        fun j other => (congrArg (fun set => settingGet set j) settings).trans (others j other), on.trans powered, store, bus,
        pending, loops, channels, filter, run, level, hold, mode, tS, tE, ?_, exhausts, ?_⟩
      · exact allowance.trans (by rw [← settings]; rfl)
      · exact requested.trans (by rw [← settings]; rfl)

end Sys2Proof.Machine
end

section
/-! NODE ENROL, NODE DROP and NODE READ (O48). -/

namespace Sys2Proof.Machine

/-! ### H and D formed again, and nothing else -/

/-- The state `t` is `s` with H and D formed again, as the response, the controller, the frost guard and the governor
have them (R59, R85, R154). -/
def Reformed (s t : State) : Prop :=
  t =
    { s with
      humidity := { s.humidity with h := t.humidity.h }
      demand := { s.demand with h := t.demand.h, d := t.demand.d }
      frost := { s.frost with dHanded := t.frost.dHanded, r := t.frost.r }
      governor := { s.governor with r := t.governor.r } }

theorem formHumidity_reformed (s : State) : Reformed s (formHumidity s) := by
  unfold formHumidity
  split
  · rfl
  · rw [recomputeDemand_eq]
    rfl

/-! ### The slot table's requests (R137 to R141) -/

theorem round_self {s : State} {r : Option Poll} (same : s.bus.round = r) :
    { s with bus := { s.bus with round := r } } = s := by
  subst same
  rfl

theorem discardPoll_eq (k : Slot) (s : State) :
    discardPoll k s =
      { s with
        bus :=
          { s.bus with round := s.bus.round.map fun p => if p.slot = k then { p with discard := true } else p } } := by
  unfold discardPoll
  cases round : s.bus.round with
  | none => exact (round_self round).symm
  | some p =>
    by_cases own : p.slot = k
    · simp [own]
    · simpa [own] using (round_self round).symm

/-- A slot emptied: its record, its entry and its humidity record, with H and D formed again (R141, R153). -/
theorem emptySlot_reformed (k : Slot) (s : State) :
    Reformed (setHumid k HumidRec.atReset (setSlotEntry k none (setSlot k SlotRec.cleared s))) (emptySlot k s) := by
  unfold emptySlot humidityEmptied
  split
  · exact formHumidity_reformed _
  · rfl

/-- An address is held just by an occupied slot whose entry has it (R137). -/
theorem addressHeld_iff {s : State} {address : Nat} (some' : 0 < address) :
    addressHeld s address = true ↔
      ∃ k ∈ Slot.all, (s.bus.slots.get k).state ≠ .empty ∧ ∃ e, s.settings.slots.get k = some e ∧ e.address = address := by
  have entry (k : Slot) :
      slotAddress s k = address ↔ ∃ e, s.settings.slots.get k = some e ∧ e.address = address := by
    unfold slotAddress
    cases s.settings.slots.get k with
    | none => simp; omega
    | some e => simp
  simp [addressHeld, occupied, entry]

theorem roomKindOfCode_none {n : Nat} : roomKindOfCode n = none ↔ 4 < n := by
  match n with
  | 0 | 1 | 2 | 3 | 4 => simp [roomKindOfCode]
  | n + 5 => simp [roomKindOfCode]

theorem occupied_eq (s : State) (k : Slot) : occupied s k = !decide ((s.bus.slots.get k).state = .empty) := by
  unfold occupied
  cases (s.bus.slots.get k).state <;> rfl

theorem entryBytes_eq (s : State) (k : Slot) (entry : Option SlotEntry) :
    entryBytes (occupied s k) entry =
      entry.elim [0x00, 0xFF] fun e =>
        if (s.bus.slots.get k).state = .empty then [0x00, 0xFF] else u8 e.address ++ u8 (roomKindCode e.kind) := by
  rw [occupied_eq]
  cases entry with
  | none => cases decide ((s.bus.slots.get k).state = .empty) <;> rfl
  | some e =>
    by_cases empty : (s.bus.slots.get k).state = .empty
    · rw [decide_eq_true empty, Option.elim_some, if_pos empty]
      rfl
    · rw [decide_eq_false empty, Option.elim_some, if_neg empty]
      rfl

theorem lastGoodBytes_eq (last : Option Nat) : lastGoodBytes last = last.elim [0xFF, 0xFF, 0xFF, 0xFF] u32 := by
  cases last <;> rfl

theorem firstEmpty_eq (s : State) :
    firstEmpty s = Slot.all.find? (fun k => decide ((s.bus.slots.get k).state = .empty)) := by
  unfold firstEmpty
  simp only [occupied_eq, Bool.not_not]

/-- Settles O48: the refusals and the work of the three rows, NODE DROP's by the slot that it empties. -/
theorem nodeRequestsChangeTheSlotTable : Obligations.NodeRequestsChangeTheSlotTable := by
  unfold Obligations.NodeRequestsChangeTheSlotTable
  intro s powered opened
  refine ⟨fun address kind => ?_, fun slot => ?_⟩
  · intro held first
    have enrol : exec (.nodeEnrol address kind) s =
        .next (replied (serveNodeEnrol address kind s).1 (serveNodeEnrol address kind s).2) := exec_row powered opened rfl
    rw [enrol]
    refine ⟨fun outside => ?_, fun low high room full => ?_, fun k r low high room free empty => ?_⟩
    · have refused : serveNodeEnrol address kind s = (refusal .range, s) := by
        unfold serveNodeEnrol
        cases room : roomKindOfCode kind.toNat with
        | none => rfl
        | some r =>
          have within : ¬4 < kind.toNat := fun high => by simp [roomKindOfCode_none.mpr high] at room
          exact if_pos (by omega)
      rw [refused]
    · have refused : serveNodeEnrol address kind s = (refusal .state, s) := by
        unfold serveNodeEnrol
        cases known : roomKindOfCode kind.toNat with
        | none => exact absurd (roomKindOfCode_none.mp known) (by omega)
        | some r =>
          simp only
          rw [if_neg (by omega)]
          by_cases taken : held
          · rw [if_pos ((addressHeld_iff low).mpr taken)]
          · have none : firstEmpty s = none := (firstEmpty_eq s).trans (full.resolve_left taken)
            rw [if_neg (mt (addressHeld_iff low).mp taken), none]
      rw [refused]
    · have taken : serveNodeEnrol address kind s = (doneWith (u8 (slotNumber k)), takeSlot k address.toNat r s) := by
        unfold serveNodeEnrol
        rw [room]
        simp only
        have lowest : firstEmpty s = some k := (firstEmpty_eq s).trans empty
        rw [if_neg (by omega), if_neg (mt (addressHeld_iff low).mp free), lowest]
      rw [taken]
      rfl
  · have drop : exec (.nodeDrop slot) s = .next (replied (serveNodeDrop slot s).1 (serveNodeDrop slot s).2) :=
      exec_row powered opened rfl
    have read : exec (.nodeRead slot) s = .next (replied (serveNodeRead slot s).1 (serveNodeRead slot s).2) :=
      exec_row powered opened rfl
    rw [drop, read]
    refine ⟨fun unknown => ?_, fun k known => ⟨fun empty => ?_, fun present => ?_, ?_⟩⟩
    · constructor
      · rw [serveNodeDrop, unknown]
      · rw [serveNodeRead, unknown]
    · simp [serveNodeDrop, known, occupied, empty]
    · have served : serveNodeDrop slot s = (doneWith [], emptySlot k (discardPoll k s)) := by
        simp [serveNodeDrop, known, occupied, present]
      rw [served, discardPoll_eq]
      let left : State :=
        { s with
          bus := { s.bus with round := s.bus.round.map fun p => if p.slot = k then { p with discard := true } else p } }
      have emptied := emptySlot_reformed k left
      have current := @emptySlot_current left k
      change ∃ t, _ = Host.Outcome.next t ∧ _
      generalize emptySlot k left = e at emptied current
      have round := congrArg (fun t : State => t.bus.round) emptied
      refine ⟨replied (doneWith []) e, rfl, ?_, round, current⟩
      refine (congrArg (replied (doneWith [])) emptied).trans ?_
      simp only [replied, round]
      rfl
    · have served : serveNodeRead slot s = (doneWith (nodeReadPayload k s), s) := by
        simp [serveNodeRead, known]
      rw [served]
      simp only [nodeReadPayload, entryBytes_eq, lastGoodBytes_eq]
      generalize s.settings.slots.get k = entry
      generalize (s.bus.slots.get k).lastGood = last
      cases entry <;> cases last <;> rfl

end Sys2Proof.Machine
end

section
/-! The end of a poll: its outcome, its slot and the next poll (O47). -/

namespace Sys2Proof.Machine

/-! ### The outcome (R128, R129) -/

theorem answerByte_eq (answer : List BusByte) (n : Nat) :
    answerByte answer n = ((answer[n - 1]?).map BusByte.value).getD 0 := by
  unfold answerByte
  cases answer[n - 1]? <;> rfl

theorem checkedBytes_eq {answer : List BusByte} (full : answer.length = 9) :
    checkedBytes answer =
      [answerByte answer 2, answerByte answer 3, answerByte answer 4, answerByte answer 5, answerByte answer 6,
        answerByte answer 7, answerByte answer 8] := by
  match answer, full with
  | [_, _, _, _, _, _, _, _, _], _ => rfl

theorem malformed_iff (answer : List BusByte) :
    malformed answer = true ↔
      answer.length ≠ 9
        ∨ answerByte answer 9 ≠
            crc8 [answerByte answer 2, answerByte answer 3, answerByte answer 4, answerByte answer 5, answerByte answer 6,
              answerByte answer 7, answerByte answer 8]
        ∨ answerByte answer 3 ≠ 0x81 ∨ 1000 < answerRh answer ∨ answerTemp answer < -400 ∨ 800 < answerTemp answer := by
  by_cases full : answer.length = 9
  · simp [malformed, readingLength, full, checkedBytes_eq full, Config.readingKind, or_assoc]
  · simp [malformed, readingLength, full]

theorem answerRh_eq (answer : List BusByte) :
    answerRh answer = (answerByte answer 4).toNat * 256 + (answerByte answer 5).toNat := by
  simp [answerRh, natOfBytes]

theorem judgeAnswer_eq (injection address : Nat) (answer : List BusByte) :
    let byte (n : Nat) : Byte := ((answer[n - 1]?).map BusByte.value).getD 0
    let rh := (byte 4).toNat * 256 + (byte 5).toNat
    let temp := (byte 6 ++ byte 7 : BitVec 16).toInt
    let bad :=
      answer.length ≠ 9 ∨ byte 9 ≠ crc8 [byte 2, byte 3, byte 4, byte 5, byte 6, byte 7, byte 8]
        ∨ byte 3 ≠ 0x81 ∨ 1000 < rh ∨ temp < -400 ∨ 800 < temp
    judgeAnswer injection address answer =
      if 0 < injection then .check
      else if answer = [] then .noAnswer
      else if ∃ b ∈ answer, b.stopGood = false then .framing
      else if bad then .check
      else if (byte 2).toNat ≠ address then .wrongAddress
      else .good := by
  intro byte rh temp bad
  have faulted : (answer.any (fun b => !b.stopGood)) = true ↔ ∃ b ∈ answer, b.stopGood = false := by simp
  have spoiled : malformed answer = true ↔ bad := by
    rw [malformed_iff, answerRh_eq, answerTemp]
    simp only [answerByte_eq]
    rfl
  unfold judgeAnswer
  rw [answerByte_eq]
  exact if_congr .rfl rfl (if_congr .rfl rfl (if_congr faulted rfl (if_congr spoiled rfl rfl)))

theorem holdPassed_iff (now : Nat) (r : SlotRec) : holdPassed now r = true ↔ ∃ g, r.lastGood = some g ∧ g + 600 ≤ now := by
  unfold holdPassed
  cases r.lastGood with
  | none => simp
  | some g =>
    simp only [Option.some.injEq, exists_eq_left']
    exact ⟨of_decide_eq_true, decide_eq_true⟩

theorem occupiedAbove_eq (s : State) (n : Nat) :
    occupiedAbove s n = Slot.all.find? (fun k => decide (n < slotNumber k ∧ (s.bus.slots.get k).state ≠ .empty)) := by
  unfold occupiedAbove
  simp only [occupied_eq, Bool.decide_and, ne_eq, decide_not]

/-! ### What a poll's end changes beside its slot -/

/-- Work on one slot: the slot, its entry and its humidity record, H and D, and reports. -/
structure SlotWork (k : Slot) (s t : State) : Prop where
  outer : t.powered = s.powered ∧ t.store = s.store ∧ t.measurement = s.measurement ∧ t.loops = s.loops
    ∧ t.filter = s.filter ∧ t.pending = s.pending
  reports : ReportsOnly s t
  polls : t.bus.period = s.bus.period ∧ t.bus.sent = s.bus.sent
  others : ∀ j, j ≠ k →
    t.bus.slots.get j = s.bus.slots.get j ∧ t.settings.slots.get j = s.settings.slots.get j
      ∧ t.humidity.slots.get j = s.humidity.slots.get j

theorem SlotWork.refl (k : Slot) (s : State) : SlotWork k s s :=
  ⟨by simp, .refl s, by simp, by simp⟩

theorem SlotWork.trans {k : Slot} {s t u : State} (first : SlotWork k s t) (then' : SlotWork k t u) : SlotWork k s u := by
  obtain ⟨outer, reports, polls, others⟩ := first
  refine ⟨?_, reports.trans then'.reports, ?_, fun j other => ?_⟩
  · simpa only [outer] using then'.outer
  · simpa only [polls] using then'.polls
  · simpa only [others j other] using then'.others j other

theorem report_slotWork (k : Slot) (kind : EventKind) (src : Source) (s : State) : SlotWork k s (report kind src s) :=
  ⟨by simp, report_reportsOnly kind src s, by simp, by simp⟩

theorem setSlot_slotWork (k : Slot) (r : SlotRec) (s : State) : SlotWork k s (setSlot k r s) :=
  ⟨by simp [setSlot], .refl s, by simp [setSlot], fun j other => by simp [setSlot, PerSlot.get_set_other, other]⟩

theorem emptySlot_slotWork (k : Slot) (s : State) : SlotWork k s (emptySlot k s) := by
  have reformed := emptySlot_reformed k s
  refine ⟨by simp, ?_, ?_, fun j other => ?_⟩
  · have events : (emptySlot k s).events = s.events := by simp
    have link : (emptySlot k s).link = s.link := by simp
    have lines : (emptySlot k s).lines = s.lines := by simp
    exact ⟨by rw [events], by rw [link], fun l => by rw [lines]; simp⟩
  · rw [reformed]
    simp [setHumid, setSlotEntry, setSlot]
  · rw [reformed]
    simp [setHumid, setSlotEntry, setSlot, PerSlot.get_set_other, other]

theorem missSlot_slotWork (k : Slot) (r : SlotRec) (s : State) : SlotWork k s (missSlot k r s) := by
  unfold missSlot
  split
  · split
    case h_1 | h_2 => exact (setSlot_slotWork k _ s).trans (report_slotWork k _ _ _)
    case h_3 => exact (report_slotWork k _ _ s).trans (emptySlot_slotWork k _)
    case h_4 | h_5 => exact setSlot_slotWork k _ s
  · exact setSlot_slotWork k _ s

theorem goodSlot_slotWork (k : Slot) (answer : List BusByte) (r : SlotRec) (s : State) :
    SlotWork k s (goodSlot k answer r s) := by
  unfold goodSlot
  dsimp only
  split
  · split
    · exact setSlot_slotWork k _ s
    · exact (setSlot_slotWork k _ s).trans (report_slotWork k _ _ _)
  · exact setSlot_slotWork k _ s

theorem applyOutcome_slotWork (p : Poll) (s : State) : SlotWork p.slot s (applyOutcome p s) := by
  unfold applyOutcome
  dsimp only
  split
  · exact goodSlot_slotWork _ _ _ s
  · exact (report_slotWork _ _ _ s).trans (missSlot_slotWork _ _ _)
  all_goals exact missSlot_slotWork _ _ s

/-! ### The slot after its poll (R130 to R133) -/

/-- The slot's record as the outcome finds it (R128). -/
def polledSlot (p : Poll) (s : State) : SlotRec :=
  { s.bus.slots.get p.slot with
    outcome := judgeAnswer (s.bus.slots.get p.slot).injection p.address p.answer
    injection := (s.bus.slots.get p.slot).injection - 1 }

/-- An answer is judged good with no injection left (R128). -/
theorem polledSlot_good {p : Poll} {s : State} (good : (polledSlot p s).outcome = .good) :
    polledSlot p s = { s.bus.slots.get p.slot with outcome := .good, injection := 0 } := by
  have free : (s.bus.slots.get p.slot).injection - 1 = 0 := by
    by_contra some
    have spoiled : (polledSlot p s).outcome = .check := if_pos (by omega)
    rw [good] at spoiled
    cases spoiled
  have judged : judgeAnswer (s.bus.slots.get p.slot).injection p.address p.answer = .good := good
  rw [polledSlot, judged, free]

/-- The state in which a miss is counted: a wrong address is reported before (R133). -/
def beforeMiss (p : Poll) (s : State) : State :=
  if (polledSlot p s).outcome = .wrongAddress then report .addressClash (.slot p.slot) s else s

theorem applyOutcome_good {p : Poll} {s : State} (good : (polledSlot p s).outcome = .good) :
    applyOutcome p s = goodSlot p.slot p.answer (polledSlot p s) s := by
  have judged : judgeAnswer (s.bus.slots.get p.slot).injection p.address p.answer = .good := good
  simp only [applyOutcome, polledSlot, judged]

theorem applyOutcome_missed {p : Poll} {s : State} (missed : (polledSlot p s).outcome ≠ .good) :
    applyOutcome p s = missSlot p.slot (polledSlot p s) (beforeMiss p s) := by
  unfold beforeMiss polledSlot at *
  unfold applyOutcome
  dsimp only at *
  generalize judgeAnswer (s.bus.slots.get p.slot).injection p.address p.answer = outcome at *
  cases outcome with
  | good => exact absurd rfl missed
  | _ => rfl

theorem missSlot_counted {k : Slot} {r : SlotRec} (early : r.miss < 2) (s : State) :
    missSlot k r s = setSlot k { r with miss := r.miss + 1 } s :=
  if_neg (by omega)

theorem missSlot_silenced {k : Slot} {r : SlotRec} (third : 2 ≤ r.miss) (heard : r.state = .active ∨ r.state = .faulty)
    (s : State) :
    missSlot k r s = report .nodeSilent (.slot k) (setSlot k (enterSilent s.events.seconds r) s) := by
  unfold missSlot
  rw [if_pos third]
  obtain state | state := heard <;> rw [state]

theorem missSlot_silent {k : Slot} {r : SlotRec} (third : 2 ≤ r.miss) (silent : r.state = .silent) (s : State) :
    missSlot k r s = setSlot k { r with miss := 3 } s := by
  unfold missSlot
  rw [if_pos third, silent]

theorem missSlot_enrolling {k : Slot} {r : SlotRec} (third : 2 ≤ r.miss) (enrolling : r.state = .enrolling) (s : State) :
    missSlot k r s = emptySlot k (report .enrolFailed (.slot k) s) := by
  unfold missSlot
  rw [if_pos third, enrolling]

theorem beforeMiss_kept (p : Poll) (s : State) :
    (beforeMiss p s).settings = s.settings ∧ (beforeMiss p s).bus = s.bus ∧ (beforeMiss p s).events.seconds = s.events.seconds := by
  unfold beforeMiss
  split <;> simp

theorem missSlot_keeps_flag {j : EventKind} {s : State} (k : Slot) (r : SlotRec) (raised : flagRaised s j = true) :
    flagRaised (missSlot k r s) j = true := by
  have emptied (u : State) (up : flagRaised u j = true) : flagRaised (emptySlot k u) j = true := by
    have events : (emptySlot k u).events = u.events := by simp
    rwa [flagRaised, events]
  unfold missSlot
  split
  · split
    case h_1 | h_2 => exact report_keeps_flag _ _ _ _ raised
    case h_3 => exact emptied _ (report_keeps_flag _ _ _ _ raised)
    case h_4 | h_5 => exact raised
  · exact raised

theorem applyOutcome_clash {p : Poll} {s : State} (wrong : (polledSlot p s).outcome = .wrongAddress) :
    flagRaised (applyOutcome p s) .addressClash = true := by
  rw [applyOutcome_missed (by simp [wrong])]
  refine missSlot_keeps_flag _ _ ?_
  rw [beforeMiss, if_pos wrong]
  exact report_flagRaised _ _ _

/-- The state in which the end of a poll leaves its slot, before the next poll is chosen. -/
def afterPoll (p : Poll) (s : State) : State :=
  if p.discard || !occupied s p.slot then s else applyOutcome p s

theorem afterPoll_discarded {p : Poll} {s : State}
    (discarded : p.discard = true ∨ (s.bus.slots.get p.slot).state = .empty) : afterPoll p s = s := by
  refine if_pos ?_
  rw [occupied_eq]
  obtain discard | empty := discarded
  · simp [discard]
  · simp [empty]

theorem afterPoll_judged {p : Poll} {s : State} (kept : p.discard = false)
    (alive : (s.bus.slots.get p.slot).state ≠ .empty) : afterPoll p s = applyOutcome p s := by
  refine if_neg ?_
  rw [occupied_eq]
  simp [kept, alive]

theorem afterPoll_slotWork (p : Poll) (s : State) : SlotWork p.slot s (afterPoll p s) := by
  unfold afterPoll
  split
  · exact .refl _ s
  · exact applyOutcome_slotWork p s

theorem endPoll_eq (p : Poll) (s : State) : endPoll p s = nextPoll p (afterPoll p s) := rfl

/-- A poll ends by the ninth byte of its answer or by the close of its window (R127, R128). -/
theorem exec_pollEnd {c : Instr} {p : Poll} {s : State} (powered : s.powered = true)
    (ended : (c = .answerWindowClose ∧ s.bus.round = some p ∧ p.windowOpen = true)
      ∨ (∃ q b good, c = .sensorBusByteReceived b good ∧ s.bus.round = some q ∧ q.windowOpen = true
          ∧ q.answer.length = 8 ∧ p = { q with answer := q.answer ++ [{ value := b, stopGood := good }] })) :
    exec c s = .next (endPoll p s) := by
  obtain ⟨rfl, round, opened⟩ | ⟨q, b, good, rfl, round, opened, eight, rfl⟩ := ended
  · refine (exec_powered powered rfl : exec .answerWindowClose s = .next (closeWindow s)).trans (congrArg _ ?_)
    simp [closeWindow, round, opened]
  · refine (exec_powered (f := fun s => receiveBusByte s { value := b, stopGood := good }) powered rfl).trans
      (congrArg _ ?_)
    have begun : q.answer.isEmpty = false := by
      rw [List.isEmpty_eq_false_iff]
      rintro empty
      simp [empty] at eight
    simp [receiveBusByte, round, opened, begun, readingLength, eight]

/-- A good answer with a reading (R130). -/
theorem afterPoll_sound {p : Poll} {s : State} (kept : p.discard = false)
    (alive : (s.bus.slots.get p.slot).state ≠ .empty) (good : (polledSlot p s).outcome = .good)
    (sound : (answerByte p.answer 8).getLsbD 0 = false) :
    (afterPoll p s).events = s.events ∧ (afterPoll p s).settings = s.settings
      ∧ (afterPoll p s).bus.slots.get p.slot =
        { s.bus.slots.get p.slot with
          state := .active, reading := some (readingOf p.answer), held := false, lastGood := some s.events.seconds,
          miss := 0, outcome := .good, injection := 0 } := by
  have answered : afterPoll p s = setSlot p.slot (soundAnswer s.events.seconds p.answer (polledSlot p s)) s := by
    rw [afterPoll_judged kept alive, applyOutcome_good good]
    exact if_neg (by rw [answerFaulty, sound]; exact Bool.false_ne_true)
  rw [answered, polledSlot_good good]
  exact ⟨rfl, rfl, by simp [soundAnswer]⟩

/-- A good answer without a reading (R131). -/
theorem afterPoll_faulty {p : Poll} {s : State} (kept : p.discard = false)
    (alive : (s.bus.slots.get p.slot).state ≠ .empty) (good : (polledSlot p s).outcome = .good)
    (faulty : (answerByte p.answer 8).getLsbD 0 = true) :
    ((s.bus.slots.get p.slot).state ≠ .faulty → flagRaised (afterPoll p s) .nodeFaulty = true)
      ∧ (afterPoll p s).settings = s.settings
      ∧ (afterPoll p s).bus.slots.get p.slot =
        { s.bus.slots.get p.slot with
          state := .faulty, reading := none, held := false, lastGood := some s.events.seconds, miss := 0,
          outcome := .good, injection := 0 } := by
  have answered : afterPoll p s =
      if (s.bus.slots.get p.slot).state = .faulty then
        setSlot p.slot (faultyAnswer s.events.seconds (polledSlot p s)) s
      else
        report .nodeFaulty (.slot p.slot) (setSlot p.slot (faultyAnswer s.events.seconds (polledSlot p s)) s) := by
    rw [afterPoll_judged kept alive, applyOutcome_good good]
    exact if_pos faulty
  rw [answered, polledSlot_good good]
  by_cases was : (s.bus.slots.get p.slot).state = .faulty
  · rw [if_pos was]
    exact ⟨fun new => absurd was new, rfl, by simp [faultyAnswer]⟩
  · rw [if_neg was]
    exact ⟨fun _ => report_flagRaised _ _ _, by simp, by simp [faultyAnswer]⟩

theorem afterPoll_missed {p : Poll} {s : State} (kept : p.discard = false)
    (alive : (s.bus.slots.get p.slot).state ≠ .empty) (missed : (polledSlot p s).outcome ≠ .good) :
    afterPoll p s = missSlot p.slot (polledSlot p s) (beforeMiss p s) := by
  rw [afterPoll_judged kept alive, applyOutcome_missed missed]

/-- A miss below the third (R133). -/
theorem afterPoll_counted {p : Poll} {s : State} (kept : p.discard = false)
    (alive : (s.bus.slots.get p.slot).state ≠ .empty) (missed : (polledSlot p s).outcome ≠ .good)
    (early : (s.bus.slots.get p.slot).miss < 2) :
    (afterPoll p s).settings = s.settings
      ∧ (afterPoll p s).bus.slots.get p.slot =
        { s.bus.slots.get p.slot with
          miss := (s.bus.slots.get p.slot).miss + 1
          outcome := (polledSlot p s).outcome
          injection := (s.bus.slots.get p.slot).injection - 1 } := by
  rw [afterPoll_missed kept alive missed, missSlot_counted (r := polledSlot p s) early]
  obtain ⟨before, -, -⟩ := beforeMiss_kept p s
  exact ⟨before, by simp [polledSlot]⟩

/-- The third miss of an ACTIVE or FAULTY slot (R132, R133, R134). -/
theorem afterPoll_silenced {p : Poll} {s : State} (kept : p.discard = false)
    (heard : (s.bus.slots.get p.slot).state = .active ∨ (s.bus.slots.get p.slot).state = .faulty)
    (missed : (polledSlot p s).outcome ≠ .good) (third : 2 ≤ (s.bus.slots.get p.slot).miss) :
    (afterPoll p s).settings = s.settings ∧ flagRaised (afterPoll p s) .nodeSilent = true
      ∧ (afterPoll p s).bus.slots.get p.slot = enterSilent s.events.seconds (polledSlot p s) := by
  have alive : (s.bus.slots.get p.slot).state ≠ .empty := by
    obtain state | state := heard <;> simp [state]
  obtain ⟨settings, -, seconds⟩ := beforeMiss_kept p s
  rw [afterPoll_missed kept alive missed, missSlot_silenced (r := polledSlot p s) third heard, seconds]
  exact ⟨by simpa using settings, report_flagRaised _ _ _, by simp⟩

/-- The third miss of a SILENT slot (R133). -/
theorem afterPoll_silent {p : Poll} {s : State} (kept : p.discard = false)
    (silent : (s.bus.slots.get p.slot).state = .silent) (missed : (polledSlot p s).outcome ≠ .good)
    (third : 2 ≤ (s.bus.slots.get p.slot).miss) :
    (afterPoll p s).settings = s.settings
      ∧ (afterPoll p s).bus.slots.get p.slot =
        { s.bus.slots.get p.slot with
          miss := 3, outcome := (polledSlot p s).outcome, injection := (s.bus.slots.get p.slot).injection - 1 } := by
  rw [afterPoll_missed kept (by simp [silent]) missed, missSlot_silent (r := polledSlot p s) third silent]
  obtain ⟨before, -, -⟩ := beforeMiss_kept p s
  exact ⟨before, by simp [polledSlot]⟩

/-- The third miss of an ENROLLING slot (R133, R139). -/
theorem afterPoll_enrolling {p : Poll} {s : State} (kept : p.discard = false)
    (enrolling : (s.bus.slots.get p.slot).state = .enrolling) (missed : (polledSlot p s).outcome ≠ .good)
    (third : 2 ≤ (s.bus.slots.get p.slot).miss) :
    flagRaised (afterPoll p s) .enrolFailed = true
      ∧ (afterPoll p s).bus.slots.get p.slot = SlotRec.cleared
      ∧ (afterPoll p s).settings = { s.settings with slots := s.settings.slots.set p.slot none }
      ∧ (afterPoll p s).humidity.slots.get p.slot = HumidRec.atReset := by
  have emptied : afterPoll p s = emptySlot p.slot (report .enrolFailed (.slot p.slot) (beforeMiss p s)) :=
    (afterPoll_missed kept (by simp [enrolling]) missed).trans (missSlot_enrolling (r := polledSlot p s) third enrolling _)
  have reformed := emptySlot_reformed p.slot (report .enrolFailed (.slot p.slot) (beforeMiss p s))
  have flag : flagRaised (emptySlot p.slot (report .enrolFailed (.slot p.slot) (beforeMiss p s))) .enrolFailed =
      flagRaised (report .enrolFailed (.slot p.slot) (beforeMiss p s)) .enrolFailed := by
    have events := congrArg State.events reformed
    rw [flagRaised, events]
    rfl
  obtain ⟨before, -, -⟩ := beforeMiss_kept p s
  rw [emptied, flag, reformed]
  exact ⟨report_flagRaised _ _ _, by simp, by simp [setSlotEntry, before], by simp⟩

/-- Settles O47: the outcome by its list of tests, the slot by the cases of a miss, the rest by `SlotWork`. -/
theorem pollEndJudgesTheSlot : Obligations.PollEndJudgesTheSlot := by
  unfold Obligations.PollEndJudgesTheSlot
  intro c p s powered ended
  obtain ⟨⟨on, store, measurement, loops, filter, pending⟩, reports, ⟨period, sent⟩, others⟩ := afterPoll_slotWork p s
  have slots : (endPoll p s).bus.slots = (afterPoll p s).bus.slots := rfl
  have settings : (endPoll p s).settings = (afterPoll p s).settings := rfl
  have events : (endPoll p s).events = (afterPoll p s).events := rfl
  have humidity : (endPoll p s).humidity = (afterPoll p s).humidity := rfl
  have flag (k : EventKind) : flagRaised (endPoll p s) k = flagRaised (afterPoll p s) k := rfl
  refine ⟨_, exec_pollEnd powered ended, on.trans powered, store, measurement, loops, filter, pending, reports, period,
    sent, ?_, others, ?_⟩
  · change (occupiedAbove (afterPoll p s) (slotNumber p.slot)).map (choosePoll (afterPoll p s)) = _
    rw [occupiedAbove_eq]
    refine congrArg (fun f => Option.map f _) (funext fun k => ?_)
    rw [settings]
    cases entry : (afterPoll p s).settings.slots.get k <;> simp [choosePoll, slotAddress, entry]
  · rw [slots, settings, events, humidity, flag .nodeFaulty, flag .addressClash, flag .nodeSilent, flag .enrolFailed]
    intro r r' now byte rh temp bad outcome passed
    have out : (polledSlot p s).outcome = outcome := judgeAnswer_eq r.injection p.address p.answer
    have fault : answerByte p.answer 8 = byte 8 := answerByte_eq _ _
    have reading : readingOf p.answer = { rh := rh, temp := temp } := by
      simp only [readingOf, answerRh_eq, answerTemp, answerByte_eq]
      rfl
    rw [← out, ← fault, ← reading]
    refine ⟨fun discarded => ?_, afterPoll_sound, afterPoll_faulty, fun kept alive wrong => ?_, afterPoll_counted,
      fun kept heard missed third => ?_, afterPoll_silent, afterPoll_enrolling⟩
    · have still : afterPoll p s = s := afterPoll_discarded discarded
      exact ⟨congrArg (fun t : State => t.bus.slots.get p.slot) still, congrArg State.settings still,
        congrArg State.events still⟩
    · rw [afterPoll_judged kept alive]
      exact applyOutcome_clash wrong
    · obtain ⟨same, silent, record⟩ := afterPoll_silenced kept heard missed third
      refine ⟨same, silent, ?_⟩
      have stands : r' = enterSilent now (polledSlot p s) := record
      rw [stands]
      have hold : holdPassed now (polledSlot p s) = true ↔ passed := holdPassed_iff now (polledSlot p s)
      refine ⟨rfl, rfl, rfl, rfl, fun past => ?_, fun future => ?_⟩
      · simp [enterSilent, expiryOf, hold.mpr past]
      · have open' : holdPassed now (polledSlot p s) = false := by simpa using mt hold.mp future
        have same : (polledSlot p s).reading = r.reading := rfl
        have good : (polledSlot p s).lastGood = r.lastGood := rfl
        simp [enterSilent, expiryOf, open', same, good, Config.holdTime]

end Sys2Proof.Machine
end

section
/-! The humidity minute (O49). -/

namespace Sys2Proof.Machine

/-! ### H formed -/

theorem formHumidity_demand_same {s : State} (same : (formHumidity s).humidity.h = s.humidity.h) :
    (formHumidity s).demand = s.demand := by
  rw [formHumidity_humidity] at same
  rw [formHumidity, if_pos same]

theorem formHumidity_demand_moved {s : State} (moved : (formHumidity s).humidity.h ≠ s.humidity.h) :
    (formHumidity s).demand = { s.demand with h := (formHumidity s).humidity.h, d := demandOf (formHumidity s) } := by
  have formed : (formHumidity s).humidity.h = humidityDemand s := by rw [formHumidity_humidity]
  rw [formed] at moved ⊢
  rw [formHumidity, if_neg moved, demandOf_recomputeDemand, recomputeDemand_eq]

/-! ### The samples of a slot (R145 to R149, R151) -/

theorem pushSample_eq (sample : Option Nat) (ring : List (Option Nat)) :
    pushSample sample ring = (if 8 ≤ ring.length then ring.drop 1 else ring) ++ [sample] := by
  unfold pushSample
  split <;> rfl

theorem pushSample_length (sample : Option Nat) (ring : List (Option Nat)) :
    (pushSample sample ring).length ≤ max 8 ring.length := by
  unfold pushSample
  split <;> simp <;> omega

theorem newestSample_push (sample : Option Nat) (ring : List (Option Nat)) :
    newestSample (pushSample sample ring) = sample := by
  rw [pushSample_eq]
  simp [newestSample]

theorem olderSample_eq (ring : List (Option Nat)) :
    olderSample ring = if 6 ≤ ring.length then (ring[ring.length - 6]?).getD none else none := by
  unfold olderSample
  split
  · cases ring[ring.length - 6]? <;> rfl
  · rfl

theorem riseTrigger_iff (set : Settings) (kind : RoomKind) (ring : List (Option Nat)) :
    riseTrigger set kind ring = true ↔
      kind ≠ .habitable
        ∧ ∃ x y : Nat, newestSample ring = some x ∧ olderSample ring = some y
            ∧ (set.riseThreshold : Int) ≤ (x : Int) - y := by
  unfold riseTrigger riseOf
  cases newestSample ring <;> cases olderSample ring <;> simp [and_comm]

theorem absoluteTrigger_iff (limit : Nat) (saturated : Bool) (ring : List (Option Nat)) :
    absoluteTrigger limit saturated ring = true ↔
      ∃ x : Nat, newestSample ring = some x ∧ limit ≤ x ∧ ¬saturated = true := by
  unfold absoluteTrigger
  cases newestSample ring <;> simp

theorem judgeSaturated_iff (limit : Nat) (saturated : Bool) (ring : List (Option Nat)) :
    judgeSaturated limit saturated ring = true ↔
      saturated = true ∧ ∀ x : Nat, newestSample ring = some x → (limit : Int) - 50 ≤ x := by
  unfold judgeSaturated
  cases newestSample ring <;> simp

theorem dried_iff (limit : Nat) (ring : List (Option Nat)) :
    dried limit ring = true ↔ ∀ x : Nat, newestSample ring = some x → (x : Int) < (limit : Int) - 30 := by
  unfold dried
  cases newestSample ring <;> simp

theorem slotKind_habitable (s : State) (k : Slot) :
    slotKind s k = .habitable ↔ ∀ e, s.settings.slots.get k = some e → e.kind = .habitable := by
  unfold slotKind
  cases s.settings.slots.get k <;> simp

theorem judgedSlot_iff (state : SlotState) :
    judgedSlot state = true ↔ state = .active ∨ state = .silent ∨ state = .faulty := by
  cases state <;> simp [judgedSlot]

/-! ### The minute of one record (R150 to R152) -/

/-- A record with the minute's sample and its saturated mark judged (R145, R149). -/
def sampledRecord (limit : Nat) (sample : Option Nat) (r : HumidRec) : HumidRec :=
  { r with
    ring := pushSample sample r.ring, saturated := judgeSaturated limit r.saturated (pushSample sample r.ring) }

theorem humidMinuteRec_eq (set : Settings) (limit : Nat) (slot : SlotRec) (kind : RoomKind) (r : HumidRec) :
    humidMinuteRec set limit slot kind r = judgeBoost set limit kind (sampledRecord limit (slot.reading.map Reading.rh) r) :=
  rfl

theorem judgeBoost_ring (set : Settings) (limit : Nat) (kind : RoomKind) (r : HumidRec) :
    (judgeBoost set limit kind r).ring = r.ring := by
  unfold judgeBoost boostMinute runOnMinute
  dsimp only
  (repeat' split) <;> rfl

/-- A minute that finds the record QUIET (R150). -/
theorem judgeBoost_quiet {r : HumidRec} (quiet : r.boost = .quiet) (set : Settings) (limit : Nat) (kind : RoomKind) :
    let r' := judgeBoost set limit kind r
    let triggered := riseTrigger set kind r.ring = true ∨ absoluteTrigger limit r.saturated r.ring = true
    r'.saturated = r.saturated ∧ (triggered → r'.boost = .boost ∧ r'.boostMinutes = 0)
      ∧ (¬triggered → r'.boost = .quiet) := by
  intro r' triggered
  have judged : r' =
      if riseTrigger set kind r.ring || absoluteTrigger limit r.saturated r.ring then enterBoost r else r := by
    simp only [r', judgeBoost, quiet]
  rw [judged]
  by_cases starts : triggered
  · rw [if_pos (Bool.or_eq_true_iff.mpr starts)]
    exact ⟨rfl, fun _ => ⟨rfl, rfl⟩, fun no => absurd starts no⟩
  · rw [if_neg (mt Bool.or_eq_true_iff.mp starts)]
    exact ⟨rfl, fun yes => absurd yes starts, fun _ => quiet⟩

/-- A minute that finds the record in BOOST (R151). -/
theorem judgeBoost_boost {r : HumidRec} (boost : r.boost = .boost) (set : Settings) (limit : Nat) (kind : RoomKind) :
    let r' := judgeBoost set limit kind r
    let ended := 10 ≤ r.boostMinutes + 1 ∧ dried limit r.ring = true
    (ended → r'.boost = .runOn ∧ r'.runOnMinutes = 0 ∧ r'.saturated = r.saturated)
      ∧ (¬ended → set.boostMax ≤ r.boostMinutes + 1 →
          r'.boost = .runOn ∧ r'.runOnMinutes = 0 ∧ r'.saturated = true)
      ∧ (¬ended → r.boostMinutes + 1 < set.boostMax →
          r'.boost = .boost ∧ r'.boostMinutes = r.boostMinutes + 1 ∧ r'.saturated = r.saturated) := by
  intro r' ended
  have judged : r' = boostMinute set limit r := by simp only [r', judgeBoost, boost]
  rw [judged]
  unfold boostMinute
  dsimp only
  refine ⟨fun ends => ?_, fun lasts longest => ?_, fun lasts within => ?_⟩
  · rw [if_pos ends]
    exact ⟨rfl, rfl, rfl⟩
  · rw [if_neg lasts, if_pos longest]
    exact ⟨rfl, rfl, rfl⟩
  · rw [if_neg lasts, if_neg (Nat.not_le.mpr within)]
    exact ⟨boost, rfl, rfl⟩

/-- A minute that finds the record in RUN-ON (R152). -/
theorem judgeBoost_runOn {r : HumidRec} (runOn : r.boost = .runOn) (set : Settings) (limit : Nat) (kind : RoomKind) :
    let r' := judgeBoost set limit kind r
    let rises := riseTrigger set kind r.ring = true
    r'.saturated = r.saturated ∧ (rises → r'.boost = .boost ∧ r'.boostMinutes = 0)
      ∧ (¬rises → set.runOnTime ≤ r.runOnMinutes + 1 → r'.boost = .quiet)
      ∧ (¬rises → r.runOnMinutes + 1 < set.runOnTime →
          r'.boost = .runOn ∧ r'.runOnMinutes = r.runOnMinutes + 1) := by
  intro r' rises
  have judged : r' = runOnMinute set kind r := by simp only [r', judgeBoost, runOn]
  rw [judged]
  unfold runOnMinute
  dsimp only
  by_cases starts : rises
  · rw [if_pos starts]
    exact ⟨rfl, fun _ => ⟨rfl, rfl⟩, fun no => absurd starts no, fun no => absurd starts no⟩
  · rw [if_neg starts]
    by_cases longest : set.runOnTime ≤ r.runOnMinutes + 1
    · rw [if_pos longest]
      exact ⟨rfl, fun yes => absurd yes starts, fun _ _ => rfl, fun _ within => absurd longest (Nat.not_le.mpr within)⟩
    · rw [if_neg longest]
      exact ⟨rfl, fun yes => absurd yes starts, fun _ long => absurd long longest, fun _ _ => ⟨runOn, rfl⟩⟩

/-! ### The minute -/

/-- The occurrences of a minute (R150, R152). -/
def humidityReports (s : State) : List (EventKind × Source) :=
  Slot.all.flatMap fun k =>
    boostReports k (s.humidity.slots.get k)
      ((s.humidity.slots.update (humidMinuteSlot s (thresholdOf s.settings (channelValue s .tOut)))).get k)

/-- The state whose H is formed at the end of a minute. -/
def humidityJudged (s : State) : State :=
  { reportAll (humidityReports s) s with
    humidity :=
      { s.humidity with
        rhLim := thresholdOf s.settings (channelValue s .tOut)
        slots := s.humidity.slots.update (humidMinuteSlot s (thresholdOf s.settings (channelValue s .tOut))) } }

theorem humidityMinute_eq (s : State) : humidityMinute s = formHumidity (humidityJudged s) := by
  unfold humidityMinute
  dsimp only
  rw [reportAll_humidity]
  rfl

theorem humidityMinute_boosted {s : State} {k : Slot} (rested : (s.humidity.slots.get k).boost ≠ .boost)
    (boosted : (humidMinuteSlot s (thresholdOf s.settings (channelValue s .tOut)) k (s.humidity.slots.get k)).boost = .boost) :
    flagRaised (humidityMinute s) .humidBoost = true := by
  have events : (humidityMinute s).events = (reportAll (humidityReports s) s).events := by
    rw [humidityMinute_eq]
    simp [humidityJudged]
  rw [flagRaised, events]
  refine reportAll_flagRaised _ .humidBoost (.slot k) _ ?_
  refine List.mem_flatMap.mpr ⟨k, mem_slots k, ?_⟩
  rw [boostReports, PerSlot.get_update, if_pos ⟨rested, boosted⟩]
  exact List.mem_singleton_self _

/-- Settles O49: the response formed by `formHumidity`, each record by the rule of its state. -/
theorem humidityMinuteJudgesTheSlots : Obligations.HumidityMinuteJudgesTheSlots := by
  unfold Obligations.HumidityMinuteJudgesTheSlots
  intro s powered
  have run : exec .humidityMinute s = .next (humidityMinute s) := exec_powered powered rfl
  have form := humidityMinute_eq s
  have reported : ReportsOnly s (reportAll (humidityReports s) s) :=
    (reportAll_cascade (heat := True) (humidityReports s) s).reportsOnly
  have humidity : (humidityMinute s).humidity =
      { (humidityJudged s).humidity with h := humidityDemand (humidityJudged s) } := by
    rw [form, formHumidity_humidity]
  refine ⟨_, run, by simp [form, humidityJudged, powered], by simp [form, humidityJudged], by simp [form, humidityJudged],
    by simp [form, humidityJudged], by simp [form, humidityJudged], by simp [form, humidityJudged],
    by simp [form, humidityJudged], by simp [form, humidityJudged], ?_, fun absent => ?_, fun v present => ?_, ?_, ?_,
    ?_, ?_, fun k => ?_⟩
  · obtain ⟨seconds, link, lines⟩ := reported
    have events : (humidityMinute s).events = (reportAll (humidityReports s) s).events := by simp [form, humidityJudged]
    have port : (humidityMinute s).link = (reportAll (humidityReports s) s).link := by simp [form, humidityJudged]
    have table : (humidityMinute s).lines = (reportAll (humidityReports s) s).lines := by simp [form, humidityJudged]
    exact ⟨by rw [events, seconds], by rw [port]; exact link, fun l => by rw [table]; exact lines l⟩
  · rw [humidity]
    simp [humidityJudged, thresholdOf, absent]
  · rw [humidity]
    simp [humidityJudged, thresholdOf, present]
  · rw [humidity]
    rfl
  · rw [form]
    exact formHumidity_formed _
  · intro same
    rw [form] at same ⊢
    exact (formHumidity_demand_same same).trans (by simp [humidityJudged])
  · intro moved
    rw [form] at moved ⊢
    rw [formHumidity_demand_moved moved]
    simp [humidityJudged]
  · have limit : (humidityMinute s).humidity.rhLim = thresholdOf s.settings (channelValue s .tOut) := by
      rw [humidity]
      rfl
    have record : (humidityMinute s).humidity.slots.get k =
        humidMinuteSlot s (thresholdOf s.settings (channelValue s .tOut)) k (s.humidity.slots.get k) := by
      rw [humidity]
      simp [humidityJudged]
    have boosted := @humidityMinute_boosted s k
    rw [limit, record]
    generalize thresholdOf s.settings (channelValue s .tOut) = lim at boosted ⊢
    intro slot r r' sample ring older habitable rise saturated above dry
    refine ⟨humidMinuteSlot_quiet lim, fun judged => ?_⟩
    let q := sampledRecord lim sample r
    have after : r' = judgeBoost s.settings lim (slotKind s k) q := if_pos ((judgedSlot_iff _).mpr judged)
    have pushed : pushSample sample r.ring = ring := pushSample_eq sample r.ring
    have newest : newestSample q.ring = sample := newestSample_push sample r.ring
    have sixth : olderSample q.ring = older := by
      rw [olderSample_eq, show q.ring = ring from pushed]
    have rises : riseTrigger s.settings (slotKind s k) q.ring = true ↔ rise := by
      rw [riseTrigger_iff, newest, sixth]
      exact and_congr (not_congr (slotKind_habitable s k)) .rfl
    have saturates : q.saturated = true ↔ saturated := by
      have judged := judgeSaturated_iff lim r.saturated (pushSample sample r.ring)
      rwa [newestSample_push] at judged
    have triggers : absoluteTrigger lim q.saturated q.ring = true ↔ above := by
      rw [absoluteTrigger_iff, newest, saturates]
    have dries : dried lim q.ring = true ↔ dry := by
      rw [dried_iff, newest]
    have ringed : r'.ring = ring := (congrArg HumidRec.ring after).trans ((judgeBoost_ring _ _ _ _).trans pushed)
    rw [← propext rises, ← propext saturates, ← propext triggers, ← propext dries]
    refine ⟨ringed, pushed ▸ pushSample_length sample r.ring, fun quiet => ?_, fun boost => ?_, fun runOn => ?_⟩
    · obtain ⟨mark, starts, stays⟩ := judgeBoost_quiet (r := q) quiet s.settings lim (slotKind s k)
      rw [← after] at mark starts stays
      refine ⟨by rw [mark], fun triggered => ?_, stays⟩
      obtain ⟨entered, zero⟩ := starts triggered
      exact ⟨entered, zero, boosted (by simp [show (s.humidity.slots.get k).boost = .quiet from quiet]) entered⟩
    · obtain ⟨ends, saturating, lasts⟩ := judgeBoost_boost (r := q) boost s.settings lim (slotKind s k)
      rw [← after] at ends saturating lasts
      refine ⟨fun long dryness => ?_, saturating, fun not within => ?_⟩
      · obtain ⟨state, zero, mark⟩ := ends ⟨long, dryness⟩
        exact ⟨state, zero, by rw [mark]⟩
      · obtain ⟨state, count, mark⟩ := lasts not within
        exact ⟨state, count, by rw [mark]⟩
    · obtain ⟨mark, starts, stops, lasts⟩ := judgeBoost_runOn (r := q) runOn s.settings lim (slotKind s k)
      rw [← after] at mark starts stops lasts
      refine ⟨by rw [mark], fun triggered => ?_, stops, lasts⟩
      obtain ⟨entered, zero⟩ := starts triggered
      exact ⟨entered, zero, boosted (by simp [show (s.humidity.slots.get k).boost = .runOn from runOn]) entered⟩

end Sys2Proof.Machine
end

section
/-! LINE SET (O51). -/

namespace Sys2Proof.Machine

theorem lineFunctionOfCode_none {n : Nat} : lineFunctionOfCode n = none ↔ 6 < n := by
  match n with
  | 0 | 1 | 2 | 3 | 4 | 5 | 6 => simp [lineFunctionOfCode]
  | n + 7 => simp [lineFunctionOfCode]

theorem polarityOfCode_none {n : Nat} : polarityOfCode n = none ↔ 1 < n := by
  match n with
  | 0 | 1 => simp [polarityOfCode]
  | n + 2 => simp [polarityOfCode]

theorem edgeOfCode_none {n : Nat} : edgeOfCode n = none ↔ 3 < n := by
  match n with
  | 0 | 1 | 2 | 3 => simp [edgeOfCode]
  | n + 4 => simp [edgeOfCode]

/-- A configuration is refused when one of its bytes names no value (R168). -/
theorem configOf_none {function polarity edge : Byte}
    (outside : 6 < function.toNat ∨ 1 < polarity.toNat ∨ 3 < edge.toNat) : configOf function polarity edge = none := by
  unfold configOf
  rw [← lineFunctionOfCode_none, ← polarityOfCode_none, ← edgeOfCode_none] at outside
  split
  next f p e hf hp he => simp [hf, hp, he] at outside
  next => rfl

/-- A line reported inactive: the smoke-clear timer starts when it was the last active one (R51, R163). -/
theorem smokeInactiveReport_eq (l : Line) (s : State) :
    smokeInactiveReport l s =
      { s with
        demand :=
          let active := s.demand.smokeActive.set l false
          let last := s.demand.smokeActive.get l && !Line.all.any (fun m => active.get m)
          { s.demand with
            smokeActive := active
            smokeClear := if last then 0 else s.demand.smokeClear
            smokeRunning := last || s.demand.smokeRunning } } := by
  have lasts : (s.demand.smokeActive.get l &&
      !anySmoke { s with demand := { s.demand with smokeActive := s.demand.smokeActive.set l false } }) =
      (s.demand.smokeActive.get l && !Line.all.any (fun m => (s.demand.smokeActive.set l false).get m)) := rfl
  unfold smokeInactiveReport
  dsimp only
  rw [lasts]
  cases (s.demand.smokeActive.get l && !Line.all.any (fun m => (s.demand.smokeActive.set l false).get m)) <;> rfl

theorem onlySmokeLine_iff (s : State) (l : Line) :
    onlySmokeLine s l = true ↔
      (s.settings.lines.get l).function = .smokeInput
        ∧ ∀ m ∈ Line.all, m ≠ l → (s.settings.lines.get m).function ≠ .smokeInput := by
  simp [onlySmokeLine, ← or_iff_not_imp_left]

theorem removesLastSmoke_iff (s : State) (l : Line) (c : LineConfig) :
    removesLastSmoke s l c = true ↔
      s.demand.runState = .smokeStop ∧ onlySmokeLine s l = true ∧ c.function ≠ .smokeInput := by
  simp [removesLastSmoke, and_assoc]

theorem wasActiveSmoke_iff (c : LineConfig) (r : LineRec) :
    wasActiveSmoke c r = true ↔ c.function = .smokeInput ∧ ∃ q, r.settled = some q ∧ activeOf c.polarity q = true := by
  unfold wasActiveSmoke
  cases r.settled <;> simp

theorem configChanges_iff (old new : LineConfig) :
    configChanges old new = true ↔ new.function ≠ old.function ∨ new.polarity ≠ old.polarity := by
  simp [configChanges, ne_comm]

/-- A line's record at a change of its function or polarity (R168). -/
theorem driveRec_unsettle (u : Lines) (c : LineConfig) (r : LineRec) :
    driveRec u c (unsettle r) =
      { r with
        settled := none, sampleRun := 0, mismatch := 0, fault := false, driven := drivenLevel u c r.latch } := by
  unfold driveRec
  split
  next same => exact congrArg (fun d => { unsettle r with driven := d }) same.symm
  next => rfl

theorem PerLine.set_get_self {α : Type} (p : PerLine α) (l : Line) : p.set l (p.get l) = p := by
  cases l <;> rfl

/-- What an accepted LINE SET leaves: the line's record when its function or polarity changes, and the controller told
when the line was active smoke (R168). -/
theorem configureLine_eq (l : Line) (c : LineConfig) (s : State) :
    configureLine l c s =
      { s with
        settings := { s.settings with lines := s.settings.lines.set l c }
        lines :=
          { s.lines with
            table := s.lines.table.set l
              (if configChanges (s.settings.lines.get l) c then driveRec s.lines c (unsettle (s.lines.table.get l))
              else s.lines.table.get l) }
        demand :=
          if configChanges (s.settings.lines.get l) c && wasActiveSmoke (s.settings.lines.get l) (s.lines.table.get l) then
            (smokeInactiveReport l s).demand
          else s.demand } := by
  have told (u : State) (same : u.demand = s.demand) :
      smokeInactiveReport l u = { u with demand := (smokeInactiveReport l s).demand } := by
    rw [smokeInactiveReport_eq, smokeInactiveReport_eq, same]
  unfold configureLine
  dsimp only
  cases configChanges (s.settings.lines.get l) c with
  | false => simp [setLineConfig, PerLine.set_get_self]
  | true =>
    cases wasActiveSmoke (s.settings.lines.get l) (s.lines.table.get l) with
    | false => rfl
    | true => exact told _ rfl

/-- Settles O51: the refusals, and the line's record and the controller's by the cases of `configureLine_eq`. -/
theorem lineSetConfigures : Obligations.LineSetConfigures := by
  unfold Obligations.LineSetConfigures
  intro line function polarity edge s powered opened
  have set : exec (.lineSet line function polarity edge) s =
      .next (replied (serveLineSet line function polarity edge s).1 (serveLineSet line function polarity edge s).2) :=
    exec_row powered opened rfl
  rw [set]
  refine ⟨fun outside => ?_, fun l f p e hl hf hp he => ?_⟩
  · have refused : serveLineSet line function polarity edge s = (refusal .range, s) := by
      unfold serveLineSet
      obtain unknown | bad := outside
      · rw [unknown]
      · rw [configOf_none bad]
        cases lineOfNumber line.toNat <;> rfl
    rw [refused]
  · have served : serveLineSet line function polarity edge s =
        if removesLastSmoke s l { function := f, polarity := p, edge := e } then (refusal .state, s)
        else (doneWith [], configureLine l { function := f, polarity := p, edge := e } s) := by
      simp only [serveLineSet, configOf, hl, hf, hp, he]
    rw [served]
    intro old r lastSmoke wasSmoking
    have removes := removesLastSmoke_iff s l { function := f, polarity := p, edge := e }
    rw [onlySmokeLine_iff] at removes
    refine ⟨fun stopped last other => ?_, fun accepted => ?_⟩
    · rw [if_pos (removes.mpr ⟨stopped, last, other⟩)]
    · have stays : ¬removesLastSmoke s l { function := f, polarity := p, edge := e } = true := by
        rw [removes]
        rintro ⟨stopped, last, other⟩
        obtain running | free | smoke := accepted
        · exact running stopped
        · exact free last
        · exact other smoke
      rw [if_neg stays]
      have written := configureLine_eq l { function := f, polarity := p, edge := e } s
      have changes := configChanges_iff old { function := f, polarity := p, edge := e }
      have smoked := wasActiveSmoke_iff old r
      refine ⟨_, rfl, ?_, fun function polarity => ?_, fun differs => ⟨?_, fun calm => ?_, fun smoke => ?_⟩⟩
      · rw [written]
        cases configChanges old { function := f, polarity := p, edge := e } && wasActiveSmoke old r with
        | false => simp [replied]
        | true => simp [replied, smokeInactiveReport_eq]
      · have same : configChanges old { function := f, polarity := p, edge := e } = false := by
          simpa using mt changes.mp (by simp [function, polarity])
        rw [written, same]
        exact ⟨by simp [replied, PerLine.set_get_self], rfl⟩
      · rw [written, changes.mpr differs]
        simp [replied, driveRec_unsettle, r]
      · have still : wasActiveSmoke old r = false := by simpa using mt smoked.mp calm
        rw [written, still, Bool.and_false]
        rfl
      · rw [written, changes.mpr differs, smoked.mpr smoke, smokeInactiveReport_eq]
        rfl

end Sys2Proof.Machine
end

section
/-! What a change of run state leaves, part by part. -/

namespace Sys2Proof.Machine

/-! ### Cascades: flags stand, and D stays current -/

section
variable {heat : Prop} {s t : State}

theorem Beat.flag (beat : Beat heat s t) (k : EventKind) (raised : flagRaised s k = true) : flagRaised t k = true := by
  cases beat with
  | report j src => exact report_keeps_flag j k src s raised
  | _ => simpa [flagRaised] using raised

/-- A flag that is raised stays raised through a cascade (R172). -/
theorem Cascade.flag (cascade : Cascade heat s t) {k : EventKind} (raised : flagRaised s k = true) :
    flagRaised t k = true :=
  cascade.keeps (P := fun s => flagRaised s k = true) (fun beat => beat.flag k) raised

theorem demandOf_inputs (settings : t.settings = s.settings) (same : SameInputs t.demand s.demand) :
    demandOf t = demandOf s := by
  simp [demandOf, demandInput, levelFlowNow, boostFlow, pullDemand, settings, same.captureInForce, same.hold, same.level,
    same.boost, same.h, same.pullTimer]

theorem Beat.demandNow (beat : Beat heat s t) (now : s.demand.d = demandOf s) : t.demand.d = demandOf t := by
  have kept (same : SameInputs t.demand s.demand) : t.demand.d = demandOf t := by
    rw [same.d, now, demandOf_inputs beat.outer.2.1 same]
  cases beat with
  | demand d same => exact kept same
  | recompute d f => simp
  | _ => exact kept (by constructor <;> simp)

/-- D that is what the demand rule gives stays so through a cascade (R60). -/
theorem Cascade.demandNow (cascade : Cascade heat s t) (now : s.demand.d = demandOf s) : t.demand.d = demandOf t :=
  cascade.keeps (P := fun s => s.demand.d = demandOf s) Beat.demandNow now

end

/-! ### The run state entered (R46, R67, R75, R94) -/

/-- The run state entered, the targets taken away outside RUN and the frost guard told. -/
def runStateEntered (rs : RunState) (s : State) : State :=
  let s₁ := { s with demand := { s.demand with runState := rs } }
  guardRunReport rs (if rs = .run then s₁ else setTargets 0 0 s₁)

theorem changeRunStateWith_left {rs : RunState} {s : State} (change : rs ≠ s.demand.runState)
    (left : s.demand.runState = .run) (os : List (EventKind × Source)) :
    changeRunStateWith rs os s =
      releaseHold .runState (reportAll os (filterPost .leftRun (runStateEntered rs s))) := by
  unfold changeRunStateWith
  rw [if_neg change]
  simp only [left, if_true]
  rfl

theorem changeRunStateWith_kept {rs : RunState} {s : State} (change : rs ≠ s.demand.runState)
    (stays : s.demand.runState ≠ .run) (os : List (EventKind × Source)) :
    changeRunStateWith rs os s = reportAll os (runStateEntered rs s) := by
  unfold changeRunStateWith
  rw [if_neg change]
  simp only [stays, if_false]
  rfl

theorem restGuard_governor (s : State) : (restGuard s).governor = { s.governor with r := 0 } := by
  unfold restGuard
  simp [setReduction]

theorem restGuard_output (s : State) :
    (restGuard s).frost.heaterOutput = 0 ∧ (restGuard s).frost.requested = 0
      ∧ (restGuard s).frost.runSeen = s.frost.runSeen := by
  unfold restGuard
  simp [setReduction, clearRuns]

theorem guardRunReport_governor (rs : RunState) (s : State) :
    (guardRunReport rs s).governor = if rests rs then { s.governor with r := 0 } else s.governor := by
  cases rs <;> simp [guardRunReport, rests, restGuard_governor]

/-- Outside RUN the interlock fails, so nothing heats (R75). -/
theorem guardRunReport_output {rs : RunState} (stops : rs ≠ .run) (s : State) :
    (guardRunReport rs s).frost.heaterOutput = 0 := by
  cases rs with
  | run => exact absurd rfl stops
  | startup | frostStop => simp [guardRunReport, interlock]
  | rest | smokeStop | faultStop => exact (restGuard_output _).1

theorem runStateEntered_demand (rs : RunState) (s : State) :
    (runStateEntered rs s).demand = { s.demand with runState := rs } := by
  unfold runStateEntered
  split
  · simp
  · simpa using (setTargets_keeps 0 0 { s with demand := { s.demand with runState := rs } }).1

theorem runStateEntered_loops (rs : RunState) (s : State) :
    (runStateEntered rs s).loops =
      if rs = .run then s.loops else ⟨offeredLoop 0 s.loops.supply, offeredLoop 0 s.loops.extract⟩ := by
  unfold runStateEntered
  split <;> simp

theorem runStateEntered_governor (rs : RunState) (s : State) :
    (runStateEntered rs s).governor =
      { s.governor with
        tS := if rs = .run then s.governor.tS else 0
        tE := if rs = .run then s.governor.tE else 0
        r := if rests rs then 0 else s.governor.r } := by
  unfold runStateEntered
  dsimp only
  rw [guardRunReport_governor]
  have targets : (setTargets 0 0 { s with demand := { s.demand with runState := rs } }).governor =
      { s.governor with tS := 0, tE := 0 } := (setTargets_keeps 0 0 _).2.1
  cases rs <;> simp [rests, targets]

theorem runStateEntered_filter (rs : RunState) (s : State) :
    (runStateEntered rs s).filter =
      { s.filter with
        held := (runStateEntered rs s).filter.held
        capture := { s.filter.capture with lockOut := (runStateEntered rs s).filter.capture.lockOut } } := by
  have told : (runStateEntered rs s).filter =
      (if rs = .run then { s with demand := { s.demand with runState := rs } }
      else setTargets 0 0 { s with demand := { s.demand with runState := rs } }).filter := by
    simp [runStateEntered]
  rw [told]
  split
  · rfl
  · obtain ⟨-, -, -, -, -, filter⟩ := setTargets_keeps 0 0 { s with demand := { s.demand with runState := rs } }
    exact filter

theorem runStateEntered_output {rs : RunState} (stops : rs ≠ .run) (s : State) :
    (runStateEntered rs s).frost.heaterOutput = 0 :=
  guardRunReport_output stops _

/-! ### The change -/

theorem releaseHold_demand_eq (c : HoldCause) (s : State) :
    (releaseHold c s).demand = { s.demand with hold := none, d := (releaseHold c s).demand.d } := by
  unfold releaseHold
  cases hold : s.demand.hold with
  | none => simp [← hold]
  | some v => simp [recomputeDemand_eq]

theorem releaseHold_output (c : HoldCause) (s : State) :
    (releaseHold c s).frost.heaterOutput = s.frost.heaterOutput := by
  unfold releaseHold
  cases s.demand.hold <;> simp [recomputeDemand_heat]

theorem releaseHold_governor (c : HoldCause) (s : State) :
    (releaseHold c s).governor = { s.governor with r := (releaseHold c s).governor.r } := by
  unfold releaseHold
  cases s.demand.hold <;> simp [recomputeDemand_eq]

theorem abortCapture_leaves (c : CaptureCause) (s : State) :
    (abortCapture c s).demand =
        { s.demand with
          captureInForce := (abortCapture c s).demand.captureInForce, d := (abortCapture c s).demand.d }
      ∧ (abortCapture c s).governor = { s.governor with r := (abortCapture c s).governor.r }
      ∧ (abortCapture c s).frost.heaterOutput = s.frost.heaterOutput := by
  unfold abortCapture captureReport
  split
  · exact ⟨rfl, rfl, rfl⟩
  · simp [recomputeDemand_eq]

theorem leftRunPosted_keeps (s : State) :
    (filterPost .leftRun s).demand =
        { s.demand with
          captureInForce := (filterPost .leftRun s).demand.captureInForce, d := (filterPost .leftRun s).demand.d }
      ∧ (filterPost .leftRun s).governor = { s.governor with r := (filterPost .leftRun s).governor.r }
      ∧ (filterPost .leftRun s).frost.heaterOutput = s.frost.heaterOutput := by
  unfold filterPost
  split
  · exact ⟨rfl, rfl, rfl⟩
  · exact abortCapture_leaves .runState s

/-- What a change of run state leaves of the controller (R46, R64). -/
theorem changeRunStateWith_demand {rs : RunState} {s : State} (os : List (EventKind × Source)) :
    (changeRunStateWith rs os s).demand =
      { s.demand with
        runState := rs
        hold := if s.demand.runState = .run ∧ rs ≠ .run then none else s.demand.hold
        captureInForce := (changeRunStateWith rs os s).demand.captureInForce
        d := (changeRunStateWith rs os s).demand.d } := by
  by_cases change : rs = s.demand.runState
  · rw [changeRunStateWith_same change, change]
    simp
  by_cases left : s.demand.runState = .run
  · have other : rs ≠ .run := fun run => change (run.trans left.symm)
    rw [changeRunStateWith_left change left, if_pos ⟨left, other⟩]
    rw [releaseHold_demand_eq, (reportAll_frame os _).2.2.2.2.2.1, (leftRunPosted_keeps _).1, runStateEntered_demand]
  · rw [changeRunStateWith_kept change left, if_neg fun both => left both.1]
    simp [runStateEntered_demand]

/-- What a change of run state leaves of the governor (R67). -/
theorem changeRunStateWith_governor {rs : RunState} {s : State} (change : rs ≠ s.demand.runState)
    (os : List (EventKind × Source)) :
    (changeRunStateWith rs os s).governor =
      { s.governor with
        tS := if rs = .run then s.governor.tS else 0
        tE := if rs = .run then s.governor.tE else 0
        r := (changeRunStateWith rs os s).governor.r } := by
  by_cases left : s.demand.runState = .run
  · rw [changeRunStateWith_left change left, releaseHold_governor, (reportAll_frame os _).2.2.2.2.2.2.1,
      (leftRunPosted_keeps _).2.1, runStateEntered_governor]
  · rw [changeRunStateWith_kept change left, (reportAll_frame os _).2.2.2.2.2.2.1, runStateEntered_governor]

theorem changeRunStateWith_loops {rs : RunState} {s : State} (change : rs ≠ s.demand.runState)
    (os : List (EventKind × Source)) :
    (changeRunStateWith rs os s).loops =
      if rs = .run then s.loops else ⟨offeredLoop 0 s.loops.supply, offeredLoop 0 s.loops.extract⟩ := by
  by_cases left : s.demand.runState = .run
  · rw [changeRunStateWith_left change left]
    simp [runStateEntered_loops]
  · rw [changeRunStateWith_kept change left]
    simp [runStateEntered_loops]

/-- Nothing heats outside RUN (R75). -/
theorem changeRunStateWith_output {rs : RunState} {s : State} (change : rs ≠ s.demand.runState) (stops : rs ≠ .run)
    (os : List (EventKind × Source)) : (changeRunStateWith rs os s).frost.heaterOutput = 0 := by
  by_cases left : s.demand.runState = .run
  · rw [changeRunStateWith_left change left, releaseHold_output, (reportAll_frame os _).2.2.2.2.2.2.2.1,
      (leftRunPosted_keeps _).2.2, runStateEntered_output stops]
  · rw [changeRunStateWith_kept change left, (reportAll_frame os _).2.2.2.2.2.2.2.1, runStateEntered_output stops]

/-! ### The monitor told that RUN was left (R118, R120) -/

theorem leftRunPosted_filter (s : State) :
    (filterPost .leftRun s).filter =
      if s.filter.rewriting then { s.filter with held := s.filter.held ++ [.leftRun] }
      else { s.filter with capture := if s.filter.capture.state = .none then s.filter.capture else Capture.empty } := by
  unfold filterPost
  split
  · rfl
  · by_cases present : s.filter.capture.state = .none
    · have still : filterTake .leftRun s = s := if_pos present
      rw [still, if_pos present]
    · rw [if_neg present]
      exact (abortCapture_effect .runState present).1

/-- What a change of run state leaves of the filter monitor. -/
theorem changeRunStateWith_filter {rs : RunState} {s : State} (change : rs ≠ s.demand.runState)
    (os : List (EventKind × Source)) :
    (changeRunStateWith rs os s).filter =
      if s.demand.runState = .run then (filterPost .leftRun (runStateEntered rs s)).filter
      else (runStateEntered rs s).filter := by
  by_cases left : s.demand.runState = .run
  · rw [changeRunStateWith_left change left, if_pos left]
    simp
  · rw [changeRunStateWith_kept change left, if_neg left]
    simp

theorem changeRunStateWith_records (rs : RunState) (os : List (EventKind × Source)) (s : State) :
    (changeRunStateWith rs os s).filter.records = s.filter.records := by
  by_cases change : rs = s.demand.runState
  · rw [changeRunStateWith_same change]
  · rw [changeRunStateWith_filter change]
    split
    · rw [leftRunPosted_filter]
      split <;> rw [runStateEntered_filter]
    · rw [runStateEntered_filter]

/-- The occurrences of a change of run state are raised (R46). -/
theorem changeRunStateWith_raises {rs : RunState} {s : State} (change : rs ≠ s.demand.runState)
    {os : List (EventKind × Source)} {k : EventKind} {src : Source} (placed : (k, src) ∈ os) :
    flagRaised (changeRunStateWith rs os s) k = true := by
  by_cases left : s.demand.runState = .run
  · rw [changeRunStateWith_left change left]
    exact (releaseHold_cascade (heat := True) _ _).flag (reportAll_flagRaised os k src _ placed)
  · rw [changeRunStateWith_kept change left]
    exact reportAll_flagRaised os k src _ placed

/-- RUN left aborts a capture, unless a rewrite holds that back (R118, R120). -/
theorem changeRunStateWith_aborts {rs : RunState} {s : State} (change : rs ≠ s.demand.runState)
    (left : s.demand.runState = .run) (free : s.filter.rewriting = false) (present : s.filter.capture.state ≠ .none)
    (os : List (EventKind × Source)) :
    (changeRunStateWith rs os s).filter.capture = Capture.empty
      ∧ (changeRunStateWith rs os s).demand.captureInForce = false
      ∧ flagRaised (changeRunStateWith rs os s) .captureAborted = true := by
  have filter := runStateEntered_filter rs s
  have rewriting : (runStateEntered rs s).filter.rewriting = false := by rw [filter, free]
  have stands : (runStateEntered rs s).filter.capture.state ≠ .none := by
    rw [filter]
    exact present
  have posted : filterPost .leftRun (runStateEntered rs s) = abortCapture .runState (runStateEntered rs s) :=
    filterPost_taken _ _ rewriting
  obtain ⟨emptied, demand, raised⟩ := abortCapture_effect .runState stands
  rw [changeRunStateWith_left change left, posted]
  refine ⟨?_, ?_, ?_⟩
  · rw [(releaseHold_frame _ _).2.2.2.2.2.1, (reportAll_frame os _).2.2.2.2.2.2.2.2.1, emptied]
  · rw [releaseHold_demand_eq, (reportAll_frame os _).2.2.2.2.2.1, demand]
  · have told := reportAll_keeps_flag os .captureAborted _ raised
    exact (releaseHold_cascade (heat := True) _ _).flag told

end Sys2Proof.Machine
end

section
/-! LEVEL SET (O31) and RESUME (O34). -/

namespace Sys2Proof.Machine

/-! ### LEVEL SET -/

/-- The state with another level selected, its flow told and D recomputed (R48, R54). -/
def levelSelected (level : Level) (s : State) : State :=
  recomputeDemand (tellLevelFlow { s with demand := { s.demand with level := level } })

theorem levelSelected_demand (level : Level) (s : State) :
    (levelSelected level s).demand =
      { s.demand with
        level := level, h := (levelSelected level s).demand.h, d := demandOf (levelSelected level s) } := by
  unfold levelSelected tellLevelFlow
  rw [demandOf_recomputeDemand, recomputeDemand_eq]
  simp only
  rw [formHumidity_demand]

theorem levelSelected_flow (level : Level) (s : State) :
    (levelSelected level s).humidity.levelFlow = levelFlow s.settings level := by
  simp [levelSelected, tellLevelFlow, formHumidity_humidity, levelFlowNow]

theorem setLevel_eq {level : Level} {s : State} (other : level ≠ s.demand.level) :
    setLevel level s = changeRunState (runStateForLevel level s.demand.runState) (levelSelected level s) := by
  have runState : (levelSelected level s).demand.runState = s.demand.runState := by rw [levelSelected_demand]
  rw [← runState]
  exact if_neg other

/-- The run state of a level (R48). -/
theorem runStateForLevel_eq (level : Level) (rs : RunState) :
    runStateForLevel level rs =
      if rs = .run ∧ level = .off then .rest else if rs = .rest ∧ level ≠ .off then .run else rs := by
  cases rs <;> by_cases off : level = .off <;> simp [runStateForLevel, off]

/-- What another level leaves of the controller (R48, R54, R64). -/
theorem setLevel_demand {level : Level} {s : State} (other : level ≠ s.demand.level) :
    (setLevel level s).demand =
      { s.demand with
        level := level
        runState := runStateForLevel level s.demand.runState
        hold :=
          if s.demand.runState = .run ∧ runStateForLevel level s.demand.runState ≠ .run then none else s.demand.hold
        captureInForce := (setLevel level s).demand.captureInForce
        h := (levelSelected level s).demand.h
        d := (setLevel level s).demand.d } := by
  have demand := levelSelected_demand level s
  have runState : (levelSelected level s).demand.runState = s.demand.runState := by rw [demand]
  have hold : (levelSelected level s).demand.hold = s.demand.hold := by rw [demand]
  rw [setLevel_eq other, changeRunState, changeRunStateWith_demand, runState, hold, demand]

/-- Settles O31: the level told, then the change of run state by its parts. -/
theorem levelSetSelects : Obligations.LevelSetSelects := by
  unfold Obligations.LevelSetSelects
  intro level s powered opened
  have set : exec (.levelSet level) s = .next (replied (serveLevelSet level s).1 (serveLevelSet level s).2) :=
    exec_row powered opened rfl
  rw [set]
  refine ⟨fun unknown => ?_, fun same => ?_, fun l known other => ?_⟩
  · rw [serveLevelSet, unknown]
  · have still : setLevel s.demand.level s = s := if_pos rfl
    rw [serveLevelSet, same]
    simp only [still]
  · have served : serveLevelSet level s = (doneWith [], setLevel l s) := by rw [serveLevelSet, known]
    have selected := setLevel_eq other
    have demand := levelSelected_demand l s
    have runState : (levelSelected l s).demand.runState = s.demand.runState := by rw [demand]
    have stands := setLevel_demand other
    have cascade : Cascade True (levelSelected l s) (setLevel l s) := selected ▸ changeRunState_cascade _ _
    have now : (setLevel l s).demand.d = demandOf (setLevel l s) := cascade.demandNow (by rw [demand])
    have flow : (setLevel l s).humidity.levelFlow = levelFlow s.settings l := by
      rw [selected, (changeRunState_frame _ _).2.2.2.2.1, levelSelected_flow]
    rw [served]
    refine ⟨replied (doneWith []) (setLevel l s), rfl, rfl, ?_, flow, now, ?_, fun run off => ?_, fun stays => ?_,
      by simp [replied], by simp [replied], by simp [replied], by simp [replied], by simp [replied], ?_, ?_, ?_⟩
    · exact (congrArg Demand.level stands : (setLevel l s).demand.level = l)
    · rw [← runStateForLevel_eq]
      exact (congrArg Demand.runState stands : (setLevel l s).demand.runState = _)
    · have rest : runStateForLevel l s.demand.runState = .rest := by simp [runStateForLevel, run, off]
      have change : RunState.rest ≠ (levelSelected l s).demand.runState := by simp [runState, run]
      have governor := changeRunStateWith_governor change []
      have output := changeRunStateWith_output change (by simp) []
      have hold : (setLevel l s).demand.hold = none := by
        rw [stands, rest]
        exact if_pos ⟨run, by simp⟩
      rw [rest] at selected
      rw [selected] at hold ⊢
      exact ⟨congrArg Governor.tS governor, congrArg Governor.tE governor, hold, output⟩
    · have hold : (setLevel l s).demand.hold = s.demand.hold := by
        rw [stands]
        exact if_neg fun both => stays both.1
      exact hold
    · exact (congrArg Demand.boost stands).trans rfl
    · exact (congrArg Demand.pullTimer stands).trans rfl
    · exact (congrArg Demand.smokeSource stands).trans rfl

/-! ### RESUME -/

theorem smokeCleared_iff (s : State) :
    smokeCleared s = true ↔ Line.all.any (fun l => s.demand.smokeActive.get l) = false ∧ 5000 ≤ s.demand.smokeClear := by
  unfold smokeCleared
  rw [Bool.and_eq_true, Bool.not_eq_true', decide_eq_true_iff]
  rfl

theorem anyLoopFailed_iff (s : State) :
    anyLoopFailed s = true ↔ s.loops.supply.state = .failed ∨ s.loops.extract.state = .failed := by
  simp [anyLoopFailed]

theorem ventilating_ne_stop (s : State) : ventilating s ≠ .smokeStop ∧ ventilating s ≠ .faultStop := by
  unfold ventilating
  split <;> simp

theorem orderedOut_demand (s : State) : (orderedOut s).demand = s.demand := by
  unfold orderedOut orderOutLoop
  dsimp only
  rw [(reportLoopChange_keeps _ _ _ _).1]
  exact (reportLoopChange_keeps _ _ _ _).1

theorem orderedOut_outer (s : State) : OuterKept s (orderedOut s) := by
  have cascade : Cascade True s (orderedOut s) := (orderOutLoop_cascade .supply s).trans (orderOutLoop_cascade .extract _)
  exact cascade.outer

theorem orderedOut_get (s : State) (x : Stream) : (orderedOut s).loops.get x = orderOut (s.loops.get x) := by
  rw [orderedOut_loops]
  cases x <;> rfl

/-- A loop ordered out of FAILED: STOPPED, its drive and its counts 0 and its mark clear (R37). -/
structure OrderedOut (l : LoopRec) : Prop where
  state : l.state = .stopped
  drive : l.drive = 0
  stallCount : l.stallCount = 0
  inBand : l.inBand = 0
  outBand : l.outBand = 0
  settling : l.settling = 0
  noEdge : l.noEdge = 0
  failReport : l.failReport = false

theorem orderOut_failed {l : LoopRec} (failed : l.state = .failed) : OrderedOut (orderOut l) := by
  unfold orderOut
  rw [if_pos failed]
  constructor <;> rfl

/-- A target of 0 leaves an ordered loop as it is but for its target (R38). -/
theorem OrderedOut.offered {l : LoopRec} (out : OrderedOut l) : OrderedOut (offeredLoop 0 l) := by
  have target : offeredLoop 0 l = { l with offered := 0, taken := 0, speedTarget := 0 } := by
    simp [offeredLoop, zeroTarget, out.state]
  rw [target]
  exact ⟨out.state, out.drive, out.stallCount, out.inBand, out.outBand, out.settling, out.noEdge, out.failReport⟩

/-- Settles O34: SMOKE STOP and FAULT STOP are left by a change of run state, the failed loops ordered out before. -/
theorem resumeLeavesStops : Obligations.ResumeLeavesStops := by
  unfold Obligations.ResumeLeavesStops
  intro s powered opened
  have resume : exec .resume s = .next (replied (serveResume s).1 (serveResume s).2) := exec_row powered opened rfl
  rw [resume]
  refine ⟨fun smoke fault => ?_, fun smoke early => ?_, fun smoke clear late => ?_, fun fault => ?_⟩
  · have refused : serveResume s = (refusal .state, s) := by
      unfold serveResume
      cases runState : s.demand.runState with
      | smokeStop => exact absurd runState smoke
      | faultStop => exact absurd runState fault
      | _ => rfl
    rw [refused]
  · have active : smokeCleared s = false := by
      rw [← Bool.not_eq_true, smokeCleared_iff]
      rintro ⟨clear, late⟩
      obtain active | early := early
      · simp [clear] at active
      · omega
    have refused : serveResume s = (refusal .state, s) := by simp [serveResume, smoke, active]
    rw [refused]
  · have served : serveResume s =
        (doneWith [], changeRunState (afterSmoke s) { s with demand := { s.demand with smokeSource := none } }) := by
      simp [serveResume, smoke, (smokeCleared_iff s).mpr ⟨clear, late⟩]
    have demand := changeRunStateWith_demand (rs := afterSmoke s)
      (s := { s with demand := { s.demand with smokeSource := none } }) []
    rw [served]
    refine ⟨_, rfl, by simp [OuterKept, replied], rfl, (congrArg Demand.smokeSource demand).trans rfl, ?_⟩
    refine (congrArg Demand.runState demand).trans ?_
    simp only [afterSmoke, anyLoopFailed_iff, ventilating]
  · have served : serveResume s =
        (doneWith [], changeRunState (ventilating (orderedOut s)) (orderedOut s)) := by
      simp [serveResume, fault, orderedOut]
    have demand : (changeRunState (ventilating (orderedOut s)) (orderedOut s)).demand.runState = ventilating (orderedOut s) :=
      congrArg Demand.runState (changeRunStateWith_demand [])
    have rest : ventilating (orderedOut s) = if s.demand.level = .off then .rest else .run := by
      rw [ventilating, orderedOut_demand]
    have change : ventilating (orderedOut s) ≠ (orderedOut s).demand.runState := by
      rw [orderedOut_demand, fault]
      exact (ventilating_ne_stop _).2
    have loops : (changeRunState (ventilating (orderedOut s)) (orderedOut s)).loops = _ := changeRunStateWith_loops change []
    have outer : OuterKept s (changeRunState (ventilating (orderedOut s)) (orderedOut s)) := by

      simpa [OuterKept] using orderedOut_outer s
    rw [served]
    generalize changeRunState (ventilating (orderedOut s)) (orderedOut s) = t at demand loops outer ⊢
    refine ⟨_, rfl, by simpa [OuterKept, replied] using outer, rfl, demand.trans rest, fun x failed => ?_,
      fun x sound on => ?_⟩
    · have out : OrderedOut (t.loops.get x) := by
        rw [loops]
        have ordered := orderOut_failed failed
        rw [← orderedOut_get] at ordered
        split
        · exact ordered
        · cases x <;> exact ordered.offered
      exact ⟨out.state, out.drive, out.stallCount, out.inBand, out.outBand, out.settling, out.noEdge, out.failReport⟩
    · have run : ventilating (orderedOut s) = .run := by rw [rest, if_neg on]
      have same : t.loops = (orderedOut s).loops := by rw [loops, if_pos run]
      refine (congrArg (fun l : PerStream LoopRec => l.get x) same).trans ?_
      rw [orderedOut_get]
      exact if_neg sound

end Sys2Proof.Machine
end

section
/-! One line at the auxiliary sample event: its sample, its settled level, its comparison and its reports (O50). -/

namespace Sys2Proof.Machine

/-! ### A line sampled (R160, R166) -/

/-- The mismatch run and the fault mark that the comparison with the driven level leaves (R166). -/
def comparison (pin : PinLevel) (r : LineRec) : Nat × Bool :=
  match r.driven with
  | none => (r.mismatch, r.fault)
  | some d => if d = pin then (0, false) else (min 3 (r.mismatch + 1), r.fault || decide (3 ≤ r.mismatch + 1))

theorem compareDriven_keeps (pin : PinLevel) (r : LineRec) :
    (compareDriven pin r).sample = r.sample ∧ (compareDriven pin r).sampleRun = r.sampleRun
      ∧ (compareDriven pin r).settled = r.settled ∧ (compareDriven pin r).latch = r.latch
      ∧ (compareDriven pin r).driven = r.driven := by
  unfold compareDriven
  (repeat' split) <;> exact ⟨rfl, rfl, rfl, rfl, rfl⟩

theorem compareDriven_marks (pin : PinLevel) (r : LineRec) :
    ((compareDriven pin r).mismatch, (compareDriven pin r).fault) = comparison pin r := by
  unfold compareDriven comparison mismatched
  cases driven : r.driven with
  | none => simp
  | some d => by_cases same : d = pin <;> simp [same, saturate]

theorem sampleLine_keeps (f : LineFunction) (pin : PinLevel) (r : LineRec) :
    (sampleLine f pin r).sample = some pin ∧ (sampleLine f pin r).sampleRun = runWith pin r
      ∧ (sampleLine f pin r).settled = settledWith f pin r ∧ (sampleLine f pin r).latch = r.latch
      ∧ (sampleLine f pin r).driven = r.driven :=
  compareDriven_keeps pin _

theorem sampleLine_marks (f : LineFunction) (pin : PinLevel) (r : LineRec) :
    ((sampleLine f pin r).mismatch, (sampleLine f pin r).fault) = comparison pin r :=
  compareDriven_marks pin _

theorem debounceLength_eq (f : LineFunction) : debounceLength f = if f = .smokeInput then 10 else 3 := by
  cases f <;> rfl

theorem settledWith_eq (f : LineFunction) (pin : PinLevel) (r : LineRec) :
    settledWith f pin r =
      if (if f = .smokeInput then 10 else 3) ≤ (if r.sample = some pin then min 10 (r.sampleRun + 1) else 1) then some pin
      else r.settled := by
  rw [settledWith, debounceLength_eq]
  rfl

/-- A settled level that changes comes to the level of the sample. -/
theorem settledWith_moved {f : LineFunction} {pin : PinLevel} {r : LineRec} (moved : settledWith f pin r ≠ r.settled) :
    settledWith f pin r = some pin := by
  unfold settledWith at moved ⊢
  split
  · rfl
  next stays =>
    rw [if_neg stays] at moved
    exact absurd rfl moved

/-! ### A line's reports (R161 to R163) -/

theorem transitionTo_of {before after : LineRec} {q p : PinLevel} (was : before.settled = some q)
    (now : after.settled = some p) (moved : q ≠ p) : transitionTo before after = some p := by
  simp [transitionTo, was, now, moved]

theorem selects_iff (e : EdgeSelection) (p : PinLevel) :
    selects e p = true ↔ e = .both ∨ (e = .rising ∧ p = .high) ∨ (e = .falling ∧ p = .low) := by
  cases e <;> simp [selects]

/-- A line reports an active settling of a SMOKE INPUT (R163). -/
def smokes (c : LineConfig) (before after : LineRec) : Bool :=
  decide (c.function = .smokeInput) && (settledTo before after).any (activeOf c.polarity)

/-- A line reports that it is no longer active (R163). -/
def clears (c : LineConfig) (before after : LineRec) : Bool :=
  decide (c.function = .smokeInput) && before.settled.isSome
    && (settledTo before after).any fun p => !activeOf c.polarity p

/-- A line reports a pull (R162). -/
def pulls (c : LineConfig) (before after : LineRec) : Bool :=
  decide (c.function = .pullSwitch) && (transitionTo before after).any (activeOf c.polarity)

theorem pullSwitchReport_eq (c : LineConfig) (before after : LineRec) (s : State) :
    pullSwitchReport c before after s = if pulls c before after then pullEdge s else s := by
  unfold pullSwitchReport pulls
  cases transitionTo before after <;> simp

theorem smokeReport_eq (c : LineConfig) (l : Line) (before after : LineRec) (s : State) :
    smokeReport c l before after s =
      if smokes c before after then smokeActiveReport l s
      else if clears c before after then smokeInactiveReport l s
      else s := by
  unfold smokeReport smokes clears
  by_cases input : c.function = .smokeInput
  · cases settledTo before after with
    | none => simp
    | some p =>
      by_cases active : activeOf c.polarity p = true
      · simp [input, active]
      · cases before.settled <;> simp [input, active]
  · simp [input]

/-- A smoke line that settles at this event settles at its sample. -/
theorem settledTo_sample (f : LineFunction) (pin : PinLevel) (r : LineRec) :
    settledTo r (sampleLine f pin r) = if settledWith f pin r ≠ r.settled then some pin else none := by
  unfold settledTo
  rw [(sampleLine_keeps f pin r).2.2.1]
  by_cases same : r.settled = settledWith f pin r
  · rw [if_pos same, if_neg (fun moved => moved same.symm)]
  · have moved : settledWith f pin r ≠ r.settled := fun e => same e.symm
    rw [if_neg same, if_pos moved, settledWith_moved moved]

theorem smokes_iff (c : LineConfig) (f : LineFunction) (pin : PinLevel) (r : LineRec) :
    smokes c r (sampleLine f pin r) = true ↔
      c.function = .smokeInput ∧ settledWith f pin r ≠ r.settled ∧ activeOf c.polarity pin = true := by
  unfold smokes
  rw [settledTo_sample]
  by_cases moved : settledWith f pin r ≠ r.settled <;> simp [moved]

theorem clears_iff (c : LineConfig) (f : LineFunction) (pin : PinLevel) (r : LineRec) :
    clears c r (sampleLine f pin r) = true ↔
      c.function = .smokeInput ∧ r.settled ≠ none ∧ settledWith f pin r ≠ r.settled ∧ activeOf c.polarity pin = false := by
  unfold clears
  rw [settledTo_sample]
  by_cases moved : settledWith f pin r ≠ r.settled <;> simp [moved, Option.isSome_iff_ne_none, and_assoc]

end Sys2Proof.Machine
end

section
/-! The reports of the lines to the controller, one line after another (O50). -/

namespace Sys2Proof.Machine

/-! ### One line's reports -/

/-- The reports of one line, by whether it reports a pull, an active smoke input or one no longer active. -/
def lineStep (p a d : Line → Bool) (s : State) (l : Line) : State :=
  let u := if p l then pullEdge s else s
  if a l then smokeActiveReport l u else if d l then smokeInactiveReport l u else u

theorem inputReport_eq (cfg : PerLine LineConfig) (before after : PerLine LineRec) :
    inputReport cfg before after =
      lineStep (fun l => pulls (cfg.get l) (before.get l) (after.get l))
        (fun l => smokes (cfg.get l) (before.get l) (after.get l))
        (fun l => clears (cfg.get l) (before.get l) (after.get l)) := by
  funext s l
  rw [inputReport, smokeReport_eq, pullSwitchReport_eq]
  rfl

theorem pullEdge_cascade {heat : Prop} (s : State) : Cascade heat s (pullEdge s) :=
  recompute_cascade _ rfl rfl rfl rfl

theorem lineStep_cascade {heat : Prop} (p a d : Line → Bool) (s : State) (l : Line) :
    Cascade heat s (lineStep p a d s l) := by
  have pulled : Cascade heat s (if p l then pullEdge s else s) := .ite (fun _ => pullEdge_cascade s) fun _ => .refl
  exact pulled.trans (Cascade.ite (fun _ => smokeActiveReport_cascade l _)
    fun _ => Cascade.ite (fun _ => smokeInactiveReport_cascade l _) fun _ => .refl)

theorem lineSteps_cascade {heat : Prop} (p a d : Line → Bool) (ls : List Line) (s : State) :
    Cascade heat s (ls.foldl (lineStep p a d) s) := by
  induction ls generalizing s with
  | nil => exact .refl
  | cons l ls rest => exact (lineStep_cascade p a d s l).trans (rest _)

/-! ### What the reports leave of the pull-switch timer and of the smoke figures -/

theorem pullEdge_demand (s : State) :
    (pullEdge s).demand =
      { s.demand with pullTimer := s.settings.switchTime * 60, d := (pullEdge s).demand.d } := by
  simp [pullEdge, setPullTimer, recomputeDemand_eq]

theorem smokeActiveReport_demand (l : Line) (s : State) :
    (smokeActiveReport l s).demand =
      { s.demand with
        runState := .smokeStop
        hold := if s.demand.runState = .run then none else s.demand.hold
        captureInForce := (smokeActiveReport l s).demand.captureInForce
        d := (smokeActiveReport l s).demand.d
        smokeActive := s.demand.smokeActive.set l true
        smokeClear := 0
        smokeRunning := false
        smokeSource := if s.demand.runState = .smokeStop then s.demand.smokeSource else some l } := by
  unfold smokeActiveReport
  by_cases stopped : s.demand.runState = .smokeStop
  · simp [stopped]
  · simp only [stopped, if_false]
    rw [changeRunStateWith_demand]
    simp

/-- The smoke figures of the controller. -/
structure SmokeFigures where
  active : PerLine Bool
  clear : Nat
  running : Bool

def smokeFigures (s : State) : SmokeFigures := ⟨s.demand.smokeActive, s.demand.smokeClear, s.demand.smokeRunning⟩

def SmokeFigures.any (f : SmokeFigures) : Bool := Line.all.any fun l => f.active.get l

/-- The figures after one line's report (R50, R51). -/
def SmokeFigures.told (a d : Line → Bool) (f : SmokeFigures) (l : Line) : SmokeFigures :=
  if a l then ⟨f.active.set l true, 0, false⟩
  else if d l then
    let last := f.active.get l && !Line.all.any fun m => (f.active.set l false).get m
    ⟨f.active.set l false, if last then 0 else f.clear, last || f.running⟩
  else f

theorem lineStep_figures (p a d : Line → Bool) (s : State) (l : Line) :
    smokeFigures (lineStep p a d s l) = (smokeFigures s).told a d l := by
  have pulled : smokeFigures (if p l then pullEdge s else s) = smokeFigures s := by
    split
    · rw [smokeFigures, pullEdge_demand]
      rfl
    · rfl
  rw [← pulled]
  unfold lineStep SmokeFigures.told
  generalize (if p l then pullEdge s else s) = u
  cases a l with
  | true =>
    rw [if_pos rfl, if_pos rfl, smokeFigures, smokeActiveReport_demand]
    rfl
  | false =>
    cases d l with
    | true =>
      rw [if_neg Bool.false_ne_true, if_pos rfl, smokeInactiveReport_eq]
      rfl
    | false => rfl

theorem lineStep_pullTimer (p a d : Line → Bool) (s : State) (l : Line) :
    (lineStep p a d s l).demand.pullTimer = if p l then s.settings.switchTime * 60 else s.demand.pullTimer := by
  have pulled : (if p l then pullEdge s else s).demand.pullTimer =
      if p l then s.settings.switchTime * 60 else s.demand.pullTimer := by
    split
    · rw [pullEdge_demand]
    · rfl
  rw [← pulled]
  unfold lineStep
  generalize (if p l then pullEdge s else s) = u
  cases a l with
  | true => rw [if_pos rfl, smokeActiveReport_demand]
  | false =>
    cases d l with
    | true => rw [if_neg Bool.false_ne_true, if_pos rfl, smokeInactiveReport_eq]
    | false => rfl

theorem lineSteps_figures (p a d : Line → Bool) (ls : List Line) (s : State) :
    smokeFigures (ls.foldl (lineStep p a d) s) = ls.foldl (SmokeFigures.told a d) (smokeFigures s) := by
  induction ls generalizing s with
  | nil => rfl
  | cons l ls rest => rw [List.foldl_cons, List.foldl_cons, rest, lineStep_figures]

/-- A pull of one of the lines starts the timer (R162). -/
theorem lineSteps_pullTimer (p a d : Line → Bool) {ls : List Line} {s : State} :
    (ls.foldl (lineStep p a d) s).demand.pullTimer =
      if ls.any p then s.settings.switchTime * 60 else s.demand.pullTimer := by
  induction ls generalizing s with
  | nil => rfl
  | cons l ls rest =>
    have settings : (lineStep p a d s l).settings = s.settings := by
      have cascade : Cascade True s (lineStep p a d s l) := lineStep_cascade p a d s l
      exact cascade.outer.2.1
    rw [List.foldl_cons, rest, settings, lineStep_pullTimer, List.any_cons]
    cases p l <;> cases ls.any p <;> rfl

namespace SmokeFigures

theorem told_active (a d : Line → Bool) (f : SmokeFigures) (l k : Line) :
    (f.told a d l).active.get k =
      if k = l then (if a l then true else if d l then false else f.active.get k) else f.active.get k := by
  unfold told
  by_cases own : k = l
  · subst own
    cases a k <;> cases d k <;> simp
  · cases a l <;> cases d l <;> simp [own, PerLine.get_set_other]

theorem tolds_active (a d : Line → Bool) (ls : List Line) (f : SmokeFigures) (k : Line) :
    (ls.foldl (told a d) f).active.get k =
      if k ∈ ls then (if a k then true else if d k then false else f.active.get k) else f.active.get k := by
  induction ls generalizing f with
  | nil => simp
  | cons l ls rest =>
    rw [List.foldl_cons, rest, told_active]
    by_cases own : k = l
    · subst own
      cases a k <;> cases d k <;> simp
    · simp [own]

/-- Some line is active among the figures. -/
theorem any_iff (f : SmokeFigures) : f.any = true ↔ ∃ l, f.active.get l = true := by
  unfold any
  rw [List.any_eq_true]
  constructor
  · rintro ⟨l, -, active⟩
    exact ⟨l, active⟩
  · rintro ⟨l, active⟩
    exact ⟨l, by cases l <;> simp [Line.all], active⟩

/-- With a line active the clear timer stands at 0 and stopped, once a line has reported active (R50, R51). -/
theorem told_smoking {a d : Line → Bool} {f : SmokeFigures} {l : Line}
    (smoking : a l = true ∨ (f.clear = 0 ∧ f.running = false ∧ ∃ k, a k = true ∧ f.active.get k = true)) :
    (f.told a d l).clear = 0 ∧ (f.told a d l).running = false
      ∧ ∃ k, a k = true ∧ (f.told a d l).active.get k = true := by
  by_cases starts : a l = true
  · refine ⟨by simp [told, starts], by simp [told, starts], l, starts, ?_⟩
    simp [told, starts]
  · obtain now | ⟨clear, running, k, reports, active⟩ := smoking
    · exact absurd now starts
    have other : k ≠ l := fun own => starts (own ▸ reports)
    have stands : (f.active.set l false).get k = true := by simp [PerLine.get_set_other, other, active]
    have some' : (Line.all.any fun m => (f.active.set l false).get m) = true :=
      (any_iff ⟨f.active.set l false, 0, false⟩).mpr ⟨k, stands⟩
    refine ⟨?_, ?_, k, reports, ?_⟩
    · by_cases gone : d l = true <;> simp [told, starts, some', clear, gone]
    · by_cases gone : d l = true <;> simp [told, starts, some', running, gone]
    · rw [told_active, if_neg other, active]

theorem tolds_smoking {a d : Line → Bool} {ls : List Line} {f : SmokeFigures}
    (smoking : ls.any a = true ∨ (f.clear = 0 ∧ f.running = false ∧ ∃ k, a k = true ∧ f.active.get k = true)) :
    (ls.foldl (told a d) f).clear = 0 ∧ (ls.foldl (told a d) f).running = false := by
  induction ls generalizing f with
  | nil =>
    obtain none | ⟨clear, running, -⟩ := smoking
    · simp at none
    · exact ⟨clear, running⟩
  | cons l ls rest =>
    rw [List.foldl_cons]
    refine rest ?_
    by_cases later : ls.any a = true
    · exact .inl later
    · refine .inr (told_smoking ?_)
      obtain here | before := smoking
      · rw [List.any_cons, Bool.or_eq_true] at here
        exact .inl (here.resolve_right later)
      · exact .inr before

/-- Without an active report the clear timer starts just when the last active line is gone (R51). -/
structure Cleared (f g : SmokeFigures) : Prop where
  fewer : g.any = true → f.any = true
  starts : f.any = true → g.any = false → g.clear = 0 ∧ g.running = true
  stays : f.any = false ∨ g.any = true → g.clear = f.clear ∧ g.running = f.running

theorem Cleared.refl (f : SmokeFigures) : Cleared f f :=
  ⟨id, fun any none => absurd any (by simp [none]), fun _ => ⟨rfl, rfl⟩⟩

theorem Cleared.trans {f g h : SmokeFigures} (first : Cleared f g) (then' : Cleared g h) : Cleared f h := by
  refine ⟨fun any => first.fewer (then'.fewer any), fun any none => ?_, fun still => ?_⟩
  · cases mid : g.any with
    | true => exact then'.starts mid none
    | false =>
      obtain ⟨clear, running⟩ := then'.stays (.inl mid)
      obtain ⟨zero, on⟩ := first.starts any mid
      exact ⟨clear.trans zero, running.trans on⟩
  · have both : (f.any = false ∨ g.any = true) ∧ (g.any = false ∨ h.any = true) := by
      obtain none | some' := still
      · have gone : g.any = false := by
          rw [← Bool.not_eq_true]
          intro any
          exact absurd (first.fewer any) (by simp [none])
        exact ⟨.inl none, .inl gone⟩
      · exact ⟨.inr (then'.fewer some'), .inr some'⟩
    obtain ⟨clear, running⟩ := first.stays both.1
    obtain ⟨clear', running'⟩ := then'.stays both.2
    exact ⟨clear'.trans clear, running'.trans running⟩

theorem told_cleared {a d : Line → Bool} {l : Line} (calm : a l = false) (f : SmokeFigures) : Cleared f (f.told a d l) := by
  unfold told
  rw [calm]
  cases d l with
  | false => exact .refl f
  | true =>
    let g : SmokeFigures := ⟨f.active.set l false, 0, false⟩
    have fewer : g.any = true → f.any = true := by
      rw [any_iff, any_iff]
      rintro ⟨k, active⟩
      refine ⟨k, ?_⟩
      by_cases own : k = l
      · subst own
        simp [g] at active
      · simpa [g, PerLine.get_set_other, own] using active
    have lasts : f.any = true → g.any = false → f.active.get l = true := by
      rw [any_iff]
      rintro ⟨k, active⟩ none
      by_contra idle
      have other : k ≠ l := by
        rintro rfl
        exact idle active
      have stands : g.any = true := (any_iff g).mpr ⟨k, by simp [g, PerLine.get_set_other, other, active]⟩
      simp [none] at stands
    refine ⟨fewer, fun any none => ?_, fun still => ?_⟩
    · have none' : (Line.all.any fun m => (f.active.set l false).get m) = false := none
      simp [lasts any none, none']
    · have last : (f.active.get l && !Line.all.any fun m => (f.active.set l false).get m) = false := by
        obtain none | some' := still
        · have idle : f.active.get l = false := by
            rw [← Bool.not_eq_true]
            intro active
            have stands := (any_iff f).mpr ⟨l, active⟩
            simp [none] at stands
          rw [idle, Bool.false_and]
        · have stands : (Line.all.any fun m => (f.active.set l false).get m) = true := some'
          rw [stands, Bool.not_true, Bool.and_false]
      simp [last]

theorem tolds_cleared {a d : Line → Bool} {ls : List Line} (calm : ls.any a = false) (f : SmokeFigures) :
    Cleared f (ls.foldl (told a d) f) := by
  induction ls generalizing f with
  | nil => exact .refl f
  | cons l ls rest =>
    rw [List.any_cons, Bool.or_eq_false_iff] at calm
    exact (told_cleared calm.1 f).trans (rest calm.2 _)

end SmokeFigures

end Sys2Proof.Machine
end

section
/-! What the lines' reports leave of the other blocks: nothing, until one of them enters SMOKE STOP (O50). -/

namespace Sys2Proof.Machine

/-! ### Reports that change no run state -/

/-- Between the two states the lines' reports have changed the pull-switch timer, the smoke figures, and D with what
follows it, and nothing else. -/
structure Calm (s t : State) : Prop where
  lines : t.lines = s.lines
  events : t.events = s.events
  filter : t.filter = s.filter
  targets : t.governor.tS = s.governor.tS ∧ t.governor.tE = s.governor.tE
  frost : t.frost = { s.frost with dHanded := t.frost.dHanded, r := t.frost.r }
  demand : t.demand.runState = s.demand.runState ∧ t.demand.level = s.demand.level ∧ t.demand.hold = s.demand.hold
    ∧ t.demand.captureInForce = s.demand.captureInForce ∧ t.demand.silence = s.demand.silence
    ∧ t.demand.smokeSource = s.demand.smokeSource

theorem Calm.refl (s : State) : Calm s s := ⟨rfl, rfl, rfl, ⟨rfl, rfl⟩, rfl, ⟨rfl, rfl, rfl, rfl, rfl, rfl⟩⟩

theorem Calm.trans {s t u : State} (first : Calm s t) (then' : Calm t u) : Calm s u := by
  obtain ⟨lines, events, filter, targets, frost, demand⟩ := first
  obtain ⟨lines', events', filter', targets', frost', demand'⟩ := then'
  refine ⟨lines'.trans lines, events'.trans events, filter'.trans filter, by simpa only [targets] using targets', ?_,
    by simpa only [demand] using demand'⟩
  rw [frost', frost]

theorem pullEdge_calm (s : State) : Calm s (pullEdge s) := by
  constructor <;> simp [pullEdge, setPullTimer, recomputeDemand_eq]

theorem smokeInactiveReport_calm (l : Line) (s : State) : Calm s (smokeInactiveReport l s) := by
  rw [smokeInactiveReport_eq]
  constructor <;> simp

theorem smokeActiveReport_calm {l : Line} {s : State} (stopped : s.demand.runState = .smokeStop) :
    Calm s (smokeActiveReport l s) := by
  unfold smokeActiveReport
  rw [if_pos stopped]
  constructor <;> simp

/-! ### SMOKE STOP entered (R50, R67, R75) -/

/-- A target of 0 leaves a capture alone that is not in RUN, or whose monitor is held by a rewrite (R100, R119). -/
theorem setTargets_capture {s : State} (tS tE : Nat)
    (idle : s.filter.rewriting = true ∨ s.filter.capture.state ≠ .run) :
    (setTargets tS tE s).filter.capture = s.filter.capture := by
  have posted (x : Stream) (before after : LoopState) (u : State)
      (idle : u.filter.rewriting = true ∨ u.filter.capture.state ≠ .run) :
      (filterPost (.loopChange x before after) u).filter.capture = u.filter.capture := by
    unfold filterPost
    split
    · rfl
    next free =>
      have off : u.filter.capture.state ≠ .run := idle.resolve_left free
      exact congrArg (fun t : State => t.filter.capture) (if_neg off : filterLoopChange x before after u = u)
  have told (x : Stream) (before after : LoopState) (u : State)
      (idle : u.filter.rewriting = true ∨ u.filter.capture.state ≠ .run) :
      (reportLoopChange x before after u).filter.capture = u.filter.capture := by
    unfold reportLoopChange
    split
    · rfl
    · dsimp only
      split
      · rw [(reevaluate_frame _).2.2.2.2.2.2.1, posted x before after u idle]
      · exact posted x before after u idle
  have offered (x : Stream) (target : Nat) (u : State)
      (idle : u.filter.rewriting = true ∨ u.filter.capture.state ≠ .run) :
      (offer x target u).filter.capture = u.filter.capture := by
    unfold offer
    dsimp only
    split
    · exact told x _ _ (setLoop x (zeroTarget (u.loops.get x)) u) idle
    · rfl
  unfold setTargets
  have first := offered .supply tS { s with governor := { s.governor with tS := tS, tE := tE } } idle
  have rewriting : (offer .supply tS { s with governor := { s.governor with tS := tS, tE := tE } }).filter.rewriting =
      s.filter.rewriting := by
    obtain ⟨-, -, -, -, -, filter⟩ := offer_keeps .supply tS { s with governor := { s.governor with tS := tS, tE := tE } }
    rw [filter]
  refine (offered .extract tE _ ?_).trans first
  rw [rewriting, first]
  exact idle

theorem runStateEntered_capture (rs : RunState) {s : State}
    (idle : s.filter.rewriting = true ∨ s.filter.capture.state ≠ .run) :
    (runStateEntered rs s).filter.capture = s.filter.capture := by
  unfold runStateEntered
  dsimp only
  rw [(guardRunReport_frame rs _).2.2.2.2.2.1]
  split
  · rfl
  · exact setTargets_capture (s := { s with demand := { s.demand with runState := rs } }) 0 0 idle

/-- What entering SMOKE STOP leaves, of a state that was in another run state. -/
structure SmokeEntered (s t : State) : Prop where
  runState : t.demand.runState = .smokeStop
  source : t.demand.smokeSource.isSome = true
  kept : t.demand.level = s.demand.level ∧ t.demand.silence = s.demand.silence ∧ t.filter.records = s.filter.records
  flag : flagRaised t .smokeStop = true
  still : t.governor.tS = 0 ∧ t.governor.tE = 0 ∧ t.frost.heaterOutput = 0
  capture : (s.filter.rewriting = true ∨ s.filter.capture.state = .none) → t.filter.capture = s.filter.capture
  aborts : s.demand.runState = .run → s.filter.rewriting = false → s.filter.capture.state ≠ .none →
    t.filter.capture = Capture.empty ∧ t.demand.captureInForce = false ∧ flagRaised t .captureAborted = true

theorem smokeActiveReport_entered {l : Line} {s : State} (other : s.demand.runState ≠ .smokeStop) :
    SmokeEntered s (smokeActiveReport l s) := by
  have demand := smokeActiveReport_demand l s
  let u : State :=
    { s with
      demand :=
        { s.demand with
          smokeActive := s.demand.smokeActive.set l true, smokeClear := 0, smokeRunning := false
          smokeSource := some l } }
  have entered : smokeActiveReport l s = changeRunStateWith .smokeStop [(.smokeStop, .line l)] u := if_neg other
  have change : RunState.smokeStop ≠ u.demand.runState := fun same => other same.symm
  have governor := changeRunStateWith_governor change [(.smokeStop, .line l)]
  refine ⟨by rw [demand], ?_, ⟨by rw [demand], by rw [demand], ?_⟩, ?_, ?_, fun idle => ?_, fun left free present => ?_⟩
  · rw [demand]
    simp [other]
  · rw [entered]
    exact changeRunStateWith_records _ _ u
  · rw [entered]
    exact changeRunStateWith_raises change (List.mem_singleton_self _)
  · rw [entered]
    exact ⟨congrArg Governor.tS governor, congrArg Governor.tE governor, changeRunStateWith_output change (by simp) _⟩
  · rw [entered, changeRunStateWith_filter change]
    have still : (runStateEntered .smokeStop u).filter.capture = s.filter.capture :=
      runStateEntered_capture .smokeStop (s := u) (idle.imp_right fun none => by simp [u, none])
    have filter := runStateEntered_filter .smokeStop u
    have rewriting : (runStateEntered .smokeStop u).filter.rewriting = s.filter.rewriting := by rw [filter]
    split
    · rw [leftRunPosted_filter, rewriting, still]
      obtain busy | none := idle
      · rw [if_pos busy]
        exact still
      · rw [if_pos none]
        split
        · exact still
        · rfl
    · exact still
  · rw [entered]
    exact changeRunStateWith_aborts change left free present _

/-! ### The reports one after another -/

theorem pulled_calm (p : Line → Bool) (s : State) (l : Line) : Calm s (if p l then pullEdge s else s) := by
  split
  · exact pullEdge_calm s
  · exact .refl s

theorem lineStep_calm {p a d : Line → Bool} {s : State} {l : Line}
    (calm : a l = false ∨ s.demand.runState = .smokeStop) : Calm s (lineStep p a d s l) := by
  have pulled := pulled_calm p s l
  refine pulled.trans ?_
  unfold lineStep
  generalize (if p l then pullEdge s else s) = u at pulled ⊢
  obtain ⟨runState, -⟩ := pulled.demand
  by_cases starts : a l = true
  · rw [if_pos starts]
    have stopped := calm.resolve_left (by simp [starts])
    exact smokeActiveReport_calm (runState.trans stopped)
  · rw [if_neg starts]
    split
    · exact smokeInactiveReport_calm l u
    · exact .refl u

theorem lineStep_entered {p a d : Line → Bool} {s : State} {l : Line} (starts : a l = true)
    (other : s.demand.runState ≠ .smokeStop) : ∃ u, Calm s u ∧ SmokeEntered u (lineStep p a d s l) := by
  have pulled := pulled_calm p s l
  refine ⟨_, pulled, ?_⟩
  unfold lineStep
  generalize (if p l then pullEdge s else s) = u at pulled ⊢
  obtain ⟨runState, -⟩ := pulled.demand
  rw [if_pos starts]
  exact smokeActiveReport_entered (by rwa [runState])

theorem lineSteps_calm {p a d : Line → Bool} {ls : List Line} {s : State}
    (calm : ls.any a = false ∨ s.demand.runState = .smokeStop) : Calm s (ls.foldl (lineStep p a d) s) := by
  induction ls generalizing s with
  | nil => exact .refl s
  | cons l ls rest =>
    rw [List.any_cons, Bool.or_eq_false_iff] at calm
    have step : Calm s (lineStep p a d s l) := lineStep_calm (calm.imp_left And.left)
    obtain ⟨runState, -⟩ := step.demand
    exact step.trans (rest (calm.imp And.right runState.trans))

/-- The first line that reports active enters SMOKE STOP; before and after it the reports are calm. -/
theorem lineSteps_entered {p a d : Line → Bool} {ls : List Line} {s : State} (starts : ls.any a = true)
    (other : s.demand.runState ≠ .smokeStop) :
    ∃ u v, Calm s u ∧ SmokeEntered u v ∧ Calm v (ls.foldl (lineStep p a d) s) := by
  induction ls generalizing s with
  | nil => simp at starts
  | cons l ls rest =>
    by_cases first : a l = true
    · obtain ⟨u, calm, entered⟩ := lineStep_entered (p := p) (d := d) first other
      exact ⟨u, _, calm, entered, lineSteps_calm (.inr entered.runState)⟩
    · have step : Calm s (lineStep p a d s l) := lineStep_calm (.inl (by simpa using first))
      obtain ⟨runState, -⟩ := step.demand
      rw [List.any_cons, Bool.or_eq_true] at starts
      obtain ⟨u, v, calm, entered, after⟩ := rest (starts.resolve_left first) (by rwa [runState])
      exact ⟨u, v, step.trans calm, entered, after⟩

theorem lineSteps_kept (p a d : Line → Bool) (ls : List Line) (s : State) :
    let t := ls.foldl (lineStep p a d) s
    t.filter.records = s.filter.records ∧ t.demand.level = s.demand.level ∧ t.demand.silence = s.demand.silence := by
  intro t
  by_cases calm : ls.any a = false ∨ s.demand.runState = .smokeStop
  · obtain ⟨-, -, filter, -, -, -, level, -, -, silence, -⟩ := lineSteps_calm (p := p) (d := d) calm
    exact ⟨by rw [filter], level, silence⟩
  · rw [not_or, Bool.not_eq_false] at calm
    obtain ⟨u, v, before, entered, after⟩ := lineSteps_entered (p := p) (d := d) calm.1 calm.2
    obtain ⟨-, -, filter, -, -, -, level, -, -, silence, -⟩ := before
    obtain ⟨level', silence', records'⟩ := entered.kept
    obtain ⟨-, -, filter'', -, -, -, level'', -, -, silence'', -⟩ := after
    exact ⟨(congrArg FilterMonitor.records filter'').trans (records'.trans (congrArg FilterMonitor.records filter)),
      level''.trans (level'.trans level), silence''.trans (silence'.trans silence)⟩

end Sys2Proof.Machine
end

section
/-! The auxiliary sample event (O50). -/

namespace Sys2Proof.Machine

/-! ### Mismatch runs and fault marks through a cascade (R165, R166) -/

/-- A line's mismatch run and fault mark. -/
def marks (s : State) (l : Line) : Nat × Bool := ((s.lines.table.get l).mismatch, (s.lines.table.get l).fault)

/-- Every line's marks are as they were, or cleared by a change of the driven level. -/
def MarksKept (s t : State) : Prop := ∀ l, marks t l = marks s l ∨ marks t l = (0, false)

theorem MarksKept.refl (s : State) : MarksKept s s := fun _ => .inl rfl

theorem MarksKept.trans {s t u : State} (first : MarksKept s t) (then' : MarksKept t u) : MarksKept s u := by
  intro l
  obtain same | cleared := then' l
  · rw [same]
    exact first l
  · exact .inr cleared

theorem MarksKept.of_lines {s t : State} (lines : t.lines = s.lines) : MarksKept s t := by
  intro l
  rw [marks, lines]
  exact .inl rfl

theorem driveLines_marks (s : State) : MarksKept s (driveLines s) := by
  intro l
  simp only [marks, driveLines, PerLine.get_update]
  unfold driveRec
  split
  · exact .inl rfl
  · exact .inr rfl

theorem report_marks (k : EventKind) (src : Source) (s : State) : MarksKept s (report k src s) := by
  have raised : MarksKept s (raiseFlag k s) := by
    unfold raiseFlag judgeSevere
    split
    · exact .of_lines rfl
    · exact driveLines_marks _
  unfold report
  split
  · exact raised.trans (.of_lines (by simp))
  · exact raised

theorem setHeaterOutput_marks (p : Nat) (s : State) : MarksKept s (setHeaterOutput p s) := by
  unfold setHeaterOutput
  split
  · exact .refl s
  · exact driveLines_marks _

theorem Beat.marks {heat : Prop} {s t : State} (beat : Beat heat s t) : MarksKept s t := by
  cases beat with
  | report k src => exact report_marks k src s
  | settle f l fm => exact setHeaterOutput_marks _ { s with frost := f, loops := l, filter := fm }
  | lamp b => exact driveLines_marks _
  | recompute d f => exact .of_lines (by simp)
  | _ => exact .of_lines rfl

theorem Cascade.marks {heat : Prop} {s t : State} (cascade : Cascade heat s t) : MarksKept s t :=
  cascade.keeps (P := MarksKept s) (fun beat kept => kept.trans beat.marks) (.refl s)

/-! ### Occurrences that leave the event unit as it was -/

theorem or_of_or_or {n : Nat} {a b c : BitVec n} (same : a ||| b ||| c = a) : a ||| b = a := by
  calc
    a ||| b = a ||| b ||| c ||| b := by rw [same]
    _ = a ||| b ||| c := by rw [BitVec.or_assoc a b c, BitVec.or_assoc, BitVec.or_assoc, BitVec.or_comm c b,
          ← BitVec.or_assoc b b c, BitVec.or_self]
    _ = a := same

theorem raiseFlag_same {k : EventKind} {s : State} (flags : s.events.flags ||| kindBit k = s.events.flags)
    (severe : s.events.severe = (s.events.flags &&& severeMask != 0)) : (raiseFlag k s).lines = s.lines := by
  unfold raiseFlag judgeSevere
  dsimp only
  rw [flags, if_pos severe.symm]

theorem reportAll_flags (os : List (EventKind × Source)) (s : State) :
    ∃ more, (reportAll os s).events.flags = s.events.flags ||| more := by
  induction os generalizing s with
  | nil => exact ⟨0, by simp [reportAll]⟩
  | cons o os rest =>
    obtain ⟨more, flags⟩ := rest (report o.1 o.2 s)
    refine ⟨kindBit o.1 ||| more, ?_⟩
    have first : (reportAll (o :: os) s).events.flags = (reportAll os (report o.1 o.2 s)).events.flags := rfl
    rw [first, flags, (report_events o.1 o.2 s).1, BitVec.or_assoc]

theorem reportAll_severe (o : EventKind × Source) (os : List (EventKind × Source)) (s : State) :
    (reportAll (o :: os) s).events.severe = ((reportAll (o :: os) s).events.flags &&& severeMask != 0) := by
  induction os generalizing o s with
  | nil =>
    have only : reportAll [o] s = report o.1 o.2 s := rfl
    rw [only, (report_events o.1 o.2 s).1, (report_events o.1 o.2 s).2.1]
  | cons o' os rest => exact rest o' (report o.1 o.2 s)

/-- Occurrences that leave the flags and the severe summary leave the lines (R165, R173). -/
theorem reportAll_lines {os : List (EventKind × Source)} {s : State}
    (flags : (reportAll os s).events.flags = s.events.flags) (severe : (reportAll os s).events.severe = s.events.severe) :
    (reportAll os s).lines = s.lines := by
  induction os generalizing s with
  | nil => rfl
  | cons o os rest =>
    have judged := reportAll_severe o os s
    have first : reportAll (o :: os) s = reportAll os (report o.1 o.2 s) := rfl
    obtain ⟨more, grown⟩ := reportAll_flags os (report o.1 o.2 s)
    obtain ⟨raised, summary, -⟩ := report_events o.1 o.2 s
    have saturated : s.events.flags ||| kindBit o.1 = s.events.flags := by
      rw [first, grown, raised] at flags
      exact or_of_or_or flags
    rw [flags, severe] at judged
    have lines : (report o.1 o.2 s).lines = s.lines := by
      have still := raiseFlag_same saturated judged
      unfold report
      split
      · simpa using still
      · exact still
    rw [saturated] at raised summary
    rw [first] at flags severe ⊢
    rw [← lines]
    exact rest (flags.trans raised.symm) (severe.trans (judged.trans summary.symm))

/-! ### The sample event -/

/-- The state with the timers advanced and every line sampled, before the event's occurrences. -/
def linesSampled (pins : PerLine PinLevel) (s : State) : State :=
  { advanceTimers s with lines := { s.lines with table := sampleLines pins s } }

/-- The occurrences of the event. -/
def sampleReports (pins : PerLine PinLevel) (s : State) : List (EventKind × Source) :=
  lineReports (flagRaised s .lineFault) s.settings.lines s.lines.table (sampleLines pins s)

/-- A line reports active smoke at the event. -/
def startsSmoke (pins : PerLine PinLevel) (s : State) (l : Line) : Bool :=
  smokes (s.settings.lines.get l) (s.lines.table.get l) ((sampleLines pins s).get l)

/-- A line reports at the event that it is no longer active. -/
def endsSmoke (pins : PerLine PinLevel) (s : State) (l : Line) : Bool :=
  clears (s.settings.lines.get l) (s.lines.table.get l) ((sampleLines pins s).get l)

/-- A line reports a pull at the event. -/
def startsPull (pins : PerLine PinLevel) (s : State) (l : Line) : Bool :=
  pulls (s.settings.lines.get l) (s.lines.table.get l) ((sampleLines pins s).get l)

theorem auxSample_eq (pins : PerLine PinLevel) (s : State) :
    auxSample pins s =
      Line.all.foldl (lineStep (startsPull pins s) (startsSmoke pins s) (endsSmoke pins s))
        (reportAll (sampleReports pins s) (linesSampled pins s)) := by
  unfold auxSample
  dsimp only
  rw [inputReport_eq]
  rfl

theorem auxSample_cascade {heat : Prop} (pins : PerLine PinLevel) (s : State) :
    Cascade heat (linesSampled pins s) (auxSample pins s) := by
  rw [auxSample_eq]
  exact (reportAll_cascade _ _).trans (lineSteps_cascade _ _ _ _ _)

theorem sampleLines_get (pins : PerLine PinLevel) (s : State) (l : Line) :
    (sampleLines pins s).get l =
      sampleLine (s.settings.lines.get l).function (pins.get l) (s.lines.table.get l) := by
  simp [sampleLines]

/-- Every line as the event leaves it: sampled, and its marks compared or cleared (R160, R166). -/
theorem auxSample_line (pins : PerLine PinLevel) (s : State) (l : Line) :
    let r := s.lines.table.get l
    let r' := (auxSample pins s).lines.table.get l
    r'.sample = some (pins.get l) ∧ r'.sampleRun = runWith (pins.get l) r ∧ r'.latch = r.latch
      ∧ r'.settled = settledWith (s.settings.lines.get l).function (pins.get l) r
      ∧ ((r'.mismatch, r'.fault) = comparison (pins.get l) r ∨ (r'.mismatch, r'.fault) = (0, false)) := by
  intro r r'
  have cascade : Cascade True (linesSampled pins s) (auxSample pins s) := auxSample_cascade pins s
  obtain ⟨-, -, lines⟩ := cascade.reportsOnly
  obtain ⟨latch, sample, run, settled⟩ := lines l
  have stands : (linesSampled pins s).lines.table.get l = sampleLine (s.settings.lines.get l).function (pins.get l) r :=
    sampleLines_get pins s l
  obtain ⟨sample', run', settled', latch', -⟩ := sampleLine_keeps (s.settings.lines.get l).function (pins.get l) r
  have compared := cascade.marks l
  rw [marks, marks, stands, sampleLine_marks] at compared
  rw [stands] at latch sample run settled
  exact ⟨sample.trans sample', run.trans run', latch.trans latch', settled.trans settled', compared⟩

theorem auxSample_runState (pins : PerLine PinLevel) (s : State) :
    ((reportAll (sampleReports pins s) (linesSampled pins s)).demand.runState = s.demand.runState)
      ∧ (reportAll (sampleReports pins s) (linesSampled pins s)).filter = (linesSampled pins s).filter
      ∧ (reportAll (sampleReports pins s) (linesSampled pins s)).settings = s.settings := by
  simp [linesSampled, advanceTimers]

/-- With no line that reports active, or in SMOKE STOP, the reports are calm. -/
theorem auxSample_calm {pins : PerLine PinLevel} {s : State}
    (calm : Line.all.any (startsSmoke pins s) = false ∨ s.demand.runState = .smokeStop) :
    Calm (reportAll (sampleReports pins s) (linesSampled pins s)) (auxSample pins s) := by
  rw [auxSample_eq]
  exact lineSteps_calm (calm.imp_right (auxSample_runState pins s).1.trans)

/-- A line that reports active enters SMOKE STOP from any other run state. -/
theorem auxSample_entered {pins : PerLine PinLevel} {s : State} (starts : Line.all.any (startsSmoke pins s) = true)
    (other : s.demand.runState ≠ .smokeStop) :
    ∃ u v, Calm (reportAll (sampleReports pins s) (linesSampled pins s)) u ∧ SmokeEntered u v
      ∧ Calm v (auxSample pins s) := by
  rw [auxSample_eq]
  exact lineSteps_entered starts (by rwa [(auxSample_runState pins s).1])

/-- An event that reports nothing and stays in its run state re-drives no line (R165, R166, log 47). -/
theorem auxSample_quiet {pins : PerLine PinLevel} {s : State} (events : (auxSample pins s).events = s.events)
    (runState : (auxSample pins s).demand.runState = s.demand.runState) :
    (auxSample pins s).lines = (linesSampled pins s).lines := by
  have calm : Calm (reportAll (sampleReports pins s) (linesSampled pins s)) (auxSample pins s) := by
    refine auxSample_calm ?_
    by_contra smoke
    rw [not_or, Bool.not_eq_false] at smoke
    obtain ⟨u, v, -, entered, after⟩ := auxSample_entered smoke.1 smoke.2
    obtain ⟨stopped, -⟩ := after.demand
    exact smoke.2 (runState.symm.trans (stopped.trans entered.runState))
  have before : (linesSampled pins s).events = s.events := rfl
  have same : (reportAll (sampleReports pins s) (linesSampled pins s)).events = (linesSampled pins s).events := by
    rw [before, ← events, calm.events]
  rw [calm.lines]
  exact reportAll_lines (congrArg Events.flags same) (congrArg Events.severe same)

/-- The occurrences of the event are raised. -/
theorem auxSample_raises {pins : PerLine PinLevel} {s : State} {k : EventKind} {src : Source}
    (placed : (k, src) ∈ sampleReports pins s) : flagRaised (auxSample pins s) k = true := by
  rw [auxSample_eq]
  exact (lineSteps_cascade (heat := True) _ _ _ _ _).flag (reportAll_flagRaised _ k src _ placed)

theorem mem_lines (l : Line) : l ∈ Line.all := by cases l <;> simp [Line.all]

theorem auxSample_fault {pins : PerLine PinLevel} {s : State} {l : Line}
    (fault : (comparison (pins.get l) (s.lines.table.get l)).2 = true)
    (fresh : (s.lines.table.get l).fault = false ∨ flagRaised s .lineFault = false) :
    flagRaised (auxSample pins s) .lineFault = true := by
  refine auxSample_raises (src := .line l) (List.mem_append_left _ (List.mem_flatMap.mpr ⟨l, mem_lines l, ?_⟩))
  have marked : ((sampleLines pins s).get l).fault = true := by
    rw [sampleLines_get, ← fault, ← sampleLine_marks (s.settings.lines.get l).function]
  have reports : (((sampleLines pins s).get l).fault
      && (!(s.lines.table.get l).fault || !flagRaised s .lineFault)) = true := by
    rw [marked]
    obtain clear | clear := fresh <;> simp [clear]
  rw [faultReports, if_pos reports]
  exact List.mem_singleton_self _

theorem auxSample_edge {pins : PerLine PinLevel} {s : State} {l : Line} {q : PinLevel}
    (was : (s.lines.table.get l).settled = some q)
    (now : settledWith (s.settings.lines.get l).function (pins.get l) (s.lines.table.get l) = some (pins.get l))
    (moved : q ≠ pins.get l) (selected : selects (s.settings.lines.get l).edge (pins.get l) = true) :
    flagRaised (auxSample pins s) .lineEdge = true := by
  refine auxSample_raises (src := .line l) (List.mem_append_right _ (List.mem_flatMap.mpr ⟨l, mem_lines l, ?_⟩))
  have settled : ((sampleLines pins s).get l).settled = some (pins.get l) := by
    rw [sampleLines_get, (sampleLine_keeps _ _ _).2.2.1, now]
  rw [edgeReports, transitionTo_of was settled moved]
  simp [selected]

theorem auxSample_pull {pins : PerLine PinLevel} {s : State} {l : Line} {q : PinLevel}
    (was : (s.lines.table.get l).settled = some q)
    (now : settledWith (s.settings.lines.get l).function (pins.get l) (s.lines.table.get l) = some (pins.get l))
    (moved : q ≠ pins.get l) (pull : (s.settings.lines.get l).function = .pullSwitch)
    (active : activeOf (s.settings.lines.get l).polarity (pins.get l) = true) :
    (auxSample pins s).demand.pullTimer = s.settings.switchTime * 60 := by
  have settled : ((sampleLines pins s).get l).settled = some (pins.get l) := by
    rw [sampleLines_get, (sampleLine_keeps _ _ _).2.2.1, now]
  have pulled : startsPull pins s l = true := by
    simp [startsPull, pulls, transitionTo_of was settled moved, pull, active]
  rw [auxSample_eq, lineSteps_pullTimer, if_pos (List.any_eq_true.mpr ⟨l, mem_lines l, pulled⟩),
    (auxSample_runState pins s).2.2]

/-- The smoke figures after the event: every line's report told to those with the clear timer advanced (R50, R51). -/
theorem auxSample_figures (pins : PerLine PinLevel) (s : State) :
    smokeFigures (auxSample pins s) =
      Line.all.foldl (SmokeFigures.told (startsSmoke pins s) (endsSmoke pins s))
        ⟨s.demand.smokeActive, if s.demand.smokeRunning then s.demand.smokeClear + 10 else s.demand.smokeClear,
          s.demand.smokeRunning⟩ := by
  rw [auxSample_eq, lineSteps_figures]
  congr 1
  simp [smokeFigures, linesSampled, advanceTimers, Config.auxSamplePeriod]

end Sys2Proof.Machine
end

section
/-! The auxiliary sample event settles the lines, reports, and stops the unit for smoke (O50). -/

namespace Sys2Proof.Machine

theorem startsSmoke_iff (pins : PerLine PinLevel) (s : State) (l : Line) :
    startsSmoke pins s l = true ↔
      (s.settings.lines.get l).function = .smokeInput
        ∧ ((auxSample pins s).lines.table.get l).settled ≠ (s.lines.table.get l).settled
        ∧ activeOf (s.settings.lines.get l).polarity (pins.get l) = true := by
  rw [startsSmoke, sampleLines_get, smokes_iff, (auxSample_line pins s l).2.2.2.1]

theorem endsSmoke_iff (pins : PerLine PinLevel) (s : State) (l : Line) :
    endsSmoke pins s l = true ↔
      (s.settings.lines.get l).function = .smokeInput ∧ (s.lines.table.get l).settled ≠ none
        ∧ ((auxSample pins s).lines.table.get l).settled ≠ (s.lines.table.get l).settled
        ∧ activeOf (s.settings.lines.get l).polarity (pins.get l) = false := by
  rw [endsSmoke, sampleLines_get, clears_iff, (auxSample_line pins s l).2.2.2.1]

theorem auxSample_smoke (pins : PerLine PinLevel) (s : State) :
    Line.all.any (startsSmoke pins s) = true ↔
      ∃ l ∈ Line.all,
        (s.settings.lines.get l).function = .smokeInput
          ∧ (s.lines.table.get l).settled ≠ ((auxSample pins s).lines.table.get l).settled
          ∧ activeOf (s.settings.lines.get l).polarity (pins.get l) = true := by
  rw [List.any_eq_true]
  refine exists_congr fun l => and_congr_right fun _ => ?_
  rw [startsSmoke_iff]
  exact and_congr_right fun _ => and_congr_left' ⟨Ne.symm, Ne.symm⟩

/-- What each line's controller figure is after the event: set by an active settling, cleared when a settled level goes
inactive (R50, R51). -/
theorem auxSample_active (pins : PerLine PinLevel) (s : State) (l : Line) :
    (auxSample pins s).demand.smokeActive.get l =
      if startsSmoke pins s l then true else if endsSmoke pins s l then false else s.demand.smokeActive.get l := by
  have figures := congrArg (fun f : SmokeFigures => f.active.get l) (auxSample_figures pins s)
  simp only [SmokeFigures.tolds_active, if_pos (mem_lines l)] at figures
  exact figures

/-- With smoke the clear timer stands at 0, stopped, and the unit is in SMOKE STOP (R50, R51). -/
theorem auxSample_smoking {pins : PerLine PinLevel} {s : State} (smoke : Line.all.any (startsSmoke pins s) = true) :
    (auxSample pins s).demand.runState = .smokeStop ∧ (auxSample pins s).demand.smokeClear = 0
      ∧ (auxSample pins s).demand.smokeRunning = false := by
  have figures := auxSample_figures pins s
  have clear := congrArg SmokeFigures.clear figures
  have running := congrArg SmokeFigures.running figures
  obtain ⟨zero, off⟩ := SmokeFigures.tolds_smoking (d := endsSmoke pins s) (f :=
    ⟨s.demand.smokeActive, if s.demand.smokeRunning then s.demand.smokeClear + 10 else s.demand.smokeClear,
      s.demand.smokeRunning⟩) (.inl smoke)
  refine ⟨?_, clear.trans zero, running.trans off⟩
  by_cases stopped : s.demand.runState = .smokeStop
  · obtain ⟨runState, -⟩ := (auxSample_calm (.inr stopped)).demand
    exact runState.trans ((auxSample_runState pins s).1.trans stopped)
  · obtain ⟨u, v, -, entered, after⟩ := auxSample_entered smoke stopped
    obtain ⟨runState, -⟩ := after.demand
    exact runState.trans entered.runState

/-- With SMOKE STOP entered the unit is still, and its source kept (R50, R67, R75). -/
theorem auxSample_stops {pins : PerLine PinLevel} {s : State} (smoke : Line.all.any (startsSmoke pins s) = true)
    (other : s.demand.runState ≠ .smokeStop) :
    flagRaised (auxSample pins s) .smokeStop = true ∧ (auxSample pins s).governor.tS = 0
      ∧ (auxSample pins s).governor.tE = 0 ∧ (auxSample pins s).frost.heaterOutput = 0
      ∧ (auxSample pins s).demand.smokeSource.isSome = true := by
  obtain ⟨u, v, -, entered, after⟩ := auxSample_entered smoke other
  obtain ⟨tS, tE, output⟩ := entered.still
  obtain ⟨tS', tE'⟩ := after.targets
  obtain ⟨-, -, -, -, -, source⟩ := after.demand
  refine ⟨?_, tS'.trans tS, tE'.trans tE, ?_, by rw [source, entered.source]⟩
  · rw [flagRaised, after.events]
    exact entered.flag
  · rw [after.frost]
    exact output

/-- Without smoke the clear timer runs on, or starts at 0 when the last active line is gone (R51). -/
theorem auxSample_clears {pins : PerLine PinLevel} {s : State} (calm : Line.all.any (startsSmoke pins s) = false) :
    SmokeFigures.Cleared
      ⟨s.demand.smokeActive, if s.demand.smokeRunning then s.demand.smokeClear + 10 else s.demand.smokeClear,
        s.demand.smokeRunning⟩
      (smokeFigures (auxSample pins s)) := by
  rw [auxSample_figures]
  exact SmokeFigures.tolds_cleared calm _

/-- The capture with its running timers advanced by the event's period (log 5). -/
def advancedCapture (c : Capture) : Capture :=
  { c with
    timer := match c.state with
      | .none => c.timer
      | .wait => min 120000 (c.timer + 10)
      | .run => min 60000 (c.timer + 10)
    lockOut := ⟨c.lockOut.supply.map fun m => min 10000 (m + 10), c.lockOut.extract.map fun m => min 10000 (m + 10)⟩ }

theorem linesSampled_filter (pins : PerLine PinLevel) (s : State) :
    (linesSampled pins s).filter = { s.filter with capture := advancedCapture s.filter.capture } := rfl

theorem auxSample_filter {pins : PerLine PinLevel} {s : State}
    (calm : Line.all.any (startsSmoke pins s) = false ∨ s.demand.runState = .smokeStop) :
    (auxSample pins s).filter = { s.filter with capture := advancedCapture s.filter.capture } :=
  (auxSample_calm calm).filter.trans (auxSample_runState pins s).2.1

theorem auxSample_capture {pins : PerLine PinLevel} {s : State}
    (idle : s.filter.rewriting = true ∨ s.filter.capture.state = .none) :
    (auxSample pins s).filter.capture = advancedCapture s.filter.capture := by
  by_cases calm : Line.all.any (startsSmoke pins s) = false ∨ s.demand.runState = .smokeStop
  · rw [auxSample_filter calm]
  · rw [not_or, Bool.not_eq_false] at calm
    obtain ⟨u, v, before, entered, after⟩ := auxSample_entered calm.1 calm.2
    have found : u.filter = { s.filter with capture := advancedCapture s.filter.capture } :=
      before.filter.trans (auxSample_runState pins s).2.1
    rw [after.filter, entered.capture (by rw [found]; exact idle), found]

theorem auxSample_aborts {pins : PerLine PinLevel} {s : State} (smoke : Line.all.any (startsSmoke pins s) = true)
    (left : s.demand.runState = .run) (free : s.filter.rewriting = false) (present : s.filter.capture.state ≠ .none) :
    (auxSample pins s).filter.capture = Capture.empty ∧ (auxSample pins s).demand.captureInForce = false
      ∧ flagRaised (auxSample pins s) .captureAborted = true := by
  obtain ⟨u, v, before, entered, after⟩ := auxSample_entered smoke (by rw [left]; decide)
  have found : u.filter = { s.filter with capture := advancedCapture s.filter.capture } :=
    before.filter.trans (auxSample_runState pins s).2.1
  obtain ⟨runState, -⟩ := before.demand
  obtain ⟨-, -, -, inForce, -⟩ := after.demand
  obtain ⟨capture, none, flag⟩ := entered.aborts (runState.trans ((auxSample_runState pins s).1.trans left))
    (by rw [found]; exact free) (by rw [found]; exact present)
  refine ⟨by rw [after.filter, capture], inForce.trans none, ?_⟩
  rw [flagRaised, after.events]
  exact flag

/-- The timers of the capture as the statement has them. -/
theorem advancedCapture_eq (c : Capture) :
    (advancedCapture c).timer =
        (match c.state with
          | .none => c.timer
          | .wait => min 120000 (c.timer + 10)
          | .run => min 60000 (c.timer + 10))
      ∧ (∀ x, (advancedCapture c).lockOut.get x = (c.lockOut.get x).map fun m => min 10000 (m + 10))
      ∧ advancedCapture c = { c with timer := (advancedCapture c).timer, lockOut := (advancedCapture c).lockOut } := by
  refine ⟨?_, fun x => by cases x <;> rfl, rfl⟩
  cases state : c.state <;> simp [advancedCapture, state]

/-- Settles O50: each line by its own sample, the smoke figures by their fold, the rest by the two shapes of a run of
reports: calm, or with SMOKE STOP entered once. -/
theorem auxSampleSettlesTheLines : Obligations.AuxSampleSettlesTheLines := by
  unfold Obligations.AuxSampleSettlesTheLines
  intro pins s powered
  have run : exec (.auxSampleEvent pins) s = .next (auxSample pins s) :=
    exec_powered (f := auxSample pins) powered rfl
  have cascade : Cascade True (linesSampled pins s) (auxSample pins s) := auxSample_cascade pins s
  obtain ⟨seconds, link, -⟩ := cascade.reportsOnly
  have kept := lineSteps_kept (startsPull pins s) (startsSmoke pins s) (endsSmoke pins s) Line.all
    (reportAll (sampleReports pins s) (linesSampled pins s))
  rw [← auxSample_eq] at kept
  obtain ⟨records, level, silence⟩ := kept
  have figures := auxSample_figures pins s
  refine ⟨_, run, ?_, ?_, link, seconds, ?_, ?_, ?_, fun l => ?_, ?_⟩
  · have outer := cascade.outer
    simpa [OuterKept, linesSampled] using outer
  · rw [cascade.channels]
    simp [linesSampled]
  · rw [records]
    simp [linesSampled, advanceTimers]
  · rw [level]
    simp [linesSampled, advanceTimers]
  · rw [silence]
    simp [linesSampled, advanceTimers, saturate, Config.silenceTime, Config.auxSamplePeriod]
  · intro c r r' pin ran needed moved compared
    obtain ⟨sample, sampleRun, latch, settled, marked⟩ := auxSample_line pins s l
    refine ⟨sample, sampleRun, latch, settled.trans (settledWith_eq _ _ _), marked, fun events runState => ?_,
      auxSample_fault, fun move selected => ?_, fun move pull active => ?_, ?_⟩
    · have lines := auxSample_quiet events runState
      have stands : r' = sampleLine c.function pin r := by
        simp only [r', lines]
        exact sampleLines_get pins s l
      rw [stands]
      exact ⟨sampleLine_marks _ _ _, (sampleLine_keeps _ _ _).2.2.2.2⟩
    · obtain ⟨q, was, now, differs⟩ := move
      exact auxSample_edge was (settled.symm.trans now) differs ((selects_iff _ _).mpr selected)
    · obtain ⟨q, was, now, differs⟩ := move
      exact auxSample_pull was (settled.symm.trans now) differs pull active
    · rw [auxSample_active]
      by_cases starts : startsSmoke pins s l = true
      · exact (if_pos starts).trans (if_pos ((startsSmoke_iff pins s l).mp starts)).symm
      · have idle := mt (startsSmoke_iff pins s l).mpr starts
        refine (if_neg starts).trans (Eq.trans ?_ (if_neg idle).symm)
        refine if_congr ((endsSmoke_iff pins s l).trans ?_) rfl rfl
        exact ⟨fun ⟨input, found, moved, _⟩ => ⟨input, found, moved⟩, fun ⟨input, found, moved⟩ =>
          ⟨input, found, moved, Bool.eq_false_iff.mpr fun active => idle ⟨input, moved, active⟩⟩⟩
  · intro smoke
    have starts : smoke ↔ Line.all.any (startsSmoke pins s) = true := (auxSample_smoke pins s).symm
    rw [propext starts]
    refine ⟨fun smoking => ?_, fun calm => ?_, ?_⟩
    · obtain ⟨runState, clear, running⟩ := auxSample_smoking smoking
      exact ⟨runState, clear, running, auxSample_stops smoking⟩
    · rw [Bool.not_eq_true] at calm
      have still := auxSample_calm (.inl calm)
      obtain ⟨runState, -, hold, -⟩ := still.demand
      obtain ⟨tS, tE⟩ := still.targets
      have cleared := auxSample_clears calm
      refine ⟨runState.trans (by simp [linesSampled, advanceTimers]), hold.trans (by simp [linesSampled, advanceTimers]),
        tS.trans (by simp [linesSampled, advanceTimers]), tE.trans (by simp [linesSampled, advanceTimers]), ?_, ?_, ?_⟩
      · intro any
        refine ⟨cleared.starts, fun stays => ?_⟩
        obtain ⟨clear, running⟩ := cleared.stays stays
        exact ⟨running, clear⟩
      · rw [still.frost]
        simp [linesSampled, advanceTimers, saturate, Config.auxSamplePeriod]
      · rw [still.frost]
        simp [linesSampled, advanceTimers, saturate, Config.auxSamplePeriod]
    · intro before after advanced
      have advances (found : after = advancedCapture before) : advanced := by
        have timers := advancedCapture_eq before
        rw [← found] at timers
        exact timers
      refine ⟨fun still => ?_, fun none => advances (auxSample_capture (.inr none)),
        fun _ _ busy => advances (auxSample_capture (.inl busy)), auxSample_aborts⟩
      have filter := auxSample_filter (pins := pins) (still.imp_left (Bool.not_eq_true _).mp)
      have found : after = advancedCapture before := congrArg FilterMonitor.capture filter
      exact ⟨advances found, by rw [found, filter]⟩

end Sys2Proof.Machine
end

section
/-! The frost guard apart from its heater output, through each of its transitions. -/

namespace Sys2Proof.Machine

/-! ### The guard apart from the heater output and cycle -/

/-- The frost guard without the figures that the interlock and the heater cycle set. -/
def guard (s : State) : FrostGuard := { s.frost with heaterOutput := 0, applied := 0, hto := false }

/-- What the guard reads apart from the output and the cycle. -/
@[simp] theorem guard_reads (s : State) :
    (guard s).mode = s.frost.mode ∧ (guard s).requested = s.frost.requested ∧ (guard s).r = s.frost.r
      ∧ (guard s).cold = s.frost.cold ∧ (guard s).warm = s.frost.warm
      ∧ (guard s).defrostTimer = s.frost.defrostTimer ∧ (guard s).defrostLimit = s.frost.defrostLimit
      ∧ (guard s).stopTimer = s.frost.stopTimer ∧ (guard s).stopLimit = s.frost.stopLimit
      ∧ (guard s).history = s.frost.history ∧ (guard s).dHanded = s.frost.dHanded
      ∧ (guard s).runSeen = s.frost.runSeen ∧ (guard s).exhaustion = s.frost.exhaustion :=
  ⟨rfl, rfl, rfl, rfl, rfl, rfl, rfl, rfl, rfl, rfl, rfl, rfl, rfl⟩

theorem guard_setHeaterOutput (p : Nat) (s : State) : guard (setHeaterOutput p s) = guard s := by simp [guard]

@[simp] theorem guard_reevaluate (s : State) : guard (reevaluate s) = guard s := guard_setHeaterOutput _ s

@[simp] theorem guard_setRequested (p : Nat) (s : State) :
    guard (setRequested p s) = { guard s with requested := p } :=
  (guard_reevaluate _).trans rfl

@[simp] theorem guard_setFrostMode (m : FrostMode) (s : State) : guard (setFrostMode m s) = { guard s with mode := m } := by
  simp [guard]

@[simp] theorem guard_report (k : EventKind) (src : Source) (s : State) : guard (report k src s) = guard s := by
  simp [guard]

@[simp] theorem guard_reportAll (os : List (EventKind × Source)) (s : State) : guard (reportAll os s) = guard s := by
  simp [guard]

theorem guard_clearRuns (s : State) : guard (clearRuns s) = { guard s with cold := 0, warm := 0 } := rfl

theorem guard_setReduction (r : Nat) (s : State) : guard (setReduction r s) = { guard s with r := r } := rfl

theorem guard_setTargets (tS tE : Nat) (s : State) : guard (setTargets tS tE s) = guard s := by
  obtain ⟨-, -, -, -, frost, -⟩ := setTargets_keeps tS tE s
  rw [guard, frost]
  rfl

/-- What the guard rests in (R94). -/
theorem guard_restGuard (s : State) :
    guard (restGuard s) =
      { guard s with
        mode := if warmOutside s then .idle else .watch, requested := 0, r := 0, cold := 0, warm := 0
        defrostTimer := 0, stopTimer := 0 } := by
  have rested :
      guard { setReduction 0 (setRequested 0 (clearRuns s)) with
              frost :=
                { (setReduction 0 (setRequested 0 (clearRuns s))).frost with defrostTimer := 0, stopTimer := 0 } } =
        { guard (setRequested 0 (clearRuns s)) with r := 0, defrostTimer := 0, stopTimer := 0 } := rfl
  unfold restGuard
  rw [guard_setFrostMode, rested, guard_setRequested, guard_clearRuns]

/-! ### D handed on: R follows in DEFROST, nothing else of the guard changes (R60, R86) -/

/-- R is what D as last handed on gives, and the governor has it (R85, R86). -/
def Reduced (s : State) : Prop := s.frost.r = reductionNow s ∧ s.governor.r = s.frost.r

/-- Between the two states D may have been handed on, and nothing else of the guard and the governor has changed. -/
structure Handed (s t : State) : Prop where
  settings : t.settings = s.settings
  runState : t.demand.runState = s.demand.runState
  guard : guard t = { guard s with dHanded := t.frost.dHanded, r := t.frost.r }
  output : t.frost.heaterOutput = s.frost.heaterOutput
  governor : t.governor = { s.governor with r := t.governor.r }
  kept : s.frost.mode ≠ .defrost → t.frost.r = s.frost.r ∧ t.governor.r = s.governor.r
  reduced : s.frost.mode = .defrost → Reduced s → Reduced t

theorem Handed.refl (s : State) : Handed s s := ⟨rfl, rfl, rfl, rfl, rfl, fun _ => ⟨rfl, rfl⟩, fun _ => id⟩

theorem Handed.mode {s t : State} (handed : Handed s t) : t.frost.mode = s.frost.mode := by
  simpa using congrArg FrostGuard.mode handed.guard

theorem Handed.trans {s t u : State} (first : Handed s t) (then' : Handed t u) : Handed s u := by
  refine ⟨then'.settings.trans first.settings, then'.runState.trans first.runState, ?_,
    then'.output.trans first.output, ?_, fun other => ?_, fun defrost reduced => ?_⟩
  · rw [then'.guard, first.guard]
  · rw [then'.governor, first.governor]
  · obtain ⟨r, governor⟩ := first.kept other
    obtain ⟨r', governor'⟩ := then'.kept (by rwa [first.mode])
    exact ⟨r'.trans r, governor'.trans governor⟩
  · exact then'.reduced (first.mode.trans defrost) (first.reduced defrost reduced)

theorem recomputeDemand_handed_on (s : State) : Handed s (recomputeDemand s) := by
  have same := recomputeDemand_eq s
  by_cases moved : demandOf s = s.demand.d
  · rw [recomputeDemand_steady moved]
    exact .refl s
  constructor
  · rw [same]
  · rw [same]
  · rw [same]
    rfl
  · rw [same]
  · rw [same]
  · intro other
    rw [same]
    simp [other]
  · intro defrost _
    rw [same]
    simp [Reduced, reductionNow, moved, defrost]

/-- A change of the controller or of the monitor alone hands nothing on. -/
theorem Handed.of_frost {s t : State} (settings : t.settings = s.settings)
    (runState : t.demand.runState = s.demand.runState) (frost : t.frost = s.frost) (governor : t.governor = s.governor) :
    Handed s t := by
  refine ⟨settings, runState, ?_, by rw [frost], by rw [governor], fun _ => ⟨by rw [frost], by rw [governor]⟩, ?_⟩
  · rw [Sys2Proof.Machine.guard, frost]
    rfl
  · simp [Reduced, reductionNow, settings, frost, governor]

theorem report_handed (k : EventKind) (src : Source) (s : State) : Handed s (report k src s) := by
  apply Handed.of_frost <;> simp

theorem reportAll_handed (os : List (EventKind × Source)) (s : State) : Handed s (reportAll os s) := by
  apply Handed.of_frost <;> simp

theorem releaseHold_handed (c : HoldCause) (s : State) : Handed s (releaseHold c s) := by
  unfold releaseHold
  split
  · have start : Handed s { s with demand := { s.demand with hold := none } } := .of_frost rfl rfl rfl rfl
    exact (start.trans (recomputeDemand_handed_on _)).trans (report_handed _ _ _)
  · exact .refl s

theorem abortCapture_handed (c : CaptureCause) (s : State) : Handed s (abortCapture c s) := by
  unfold abortCapture captureReport
  split
  · exact .refl s
  · refine Handed.trans ?_ (report_handed _ _ _)
    refine Handed.trans ?_ (recomputeDemand_handed_on _)
    exact .of_frost rfl rfl rfl rfl

theorem frostEntry_handed (s : State) : Handed s (filterPost .frostEntry s) := by
  unfold filterPost
  split
  · exact .of_frost rfl rfl rfl rfl
  · exact abortCapture_handed .frost s

theorem leftRun_handed (s : State) : Handed s (filterPost .leftRun s) := by
  unfold filterPost
  split
  · exact .of_frost rfl rfl rfl rfl
  · exact abortCapture_handed .runState s

/-! ### The run state told to the guard -/

theorem guard_runStateEntered (rs : RunState) (s : State) :
    guard (runStateEntered rs s) =
      guard (guardRunReport rs (if rs = .run then { s with demand := { s.demand with runState := rs } }
        else setTargets 0 0 { s with demand := { s.demand with runState := rs } })) := rfl

/-- FROST STOP and RUN reported to the guard change only what it has seen (R78). -/
theorem guard_runStateEntered_seen {rs : RunState} (calm : rests rs = false) (s : State) :
    guard (runStateEntered rs s) = { guard s with runSeen := rs } := by
  rw [guard_runStateEntered]
  have entered : guard (if rs = .run then { s with demand := { s.demand with runState := rs } }
      else setTargets 0 0 { s with demand := { s.demand with runState := rs } }) = guard s := by
    split
    · rfl
    · exact guard_setTargets 0 0 _
  generalize (if rs = .run then { s with demand := { s.demand with runState := rs } }
    else setTargets 0 0 { s with demand := { s.demand with runState := rs } }) = u at entered ⊢
  have seen : guard (reevaluate { u with frost := { u.frost with runSeen := rs } }) = { guard s with runSeen := rs } := by
    rw [guard_reevaluate, ← entered]
    rfl
  cases rs with
  | startup | run | frostStop => exact seen
  | rest | smokeStop | faultStop => simp [rests] at calm

/-- A change of run state hands D on after the guard has been told. -/
theorem changeRunStateWith_handed {rs : RunState} {s : State} (change : rs ≠ s.demand.runState)
    (os : List (EventKind × Source)) : Handed (runStateEntered rs s) (changeRunStateWith rs os s) := by
  by_cases left : s.demand.runState = .run
  · rw [changeRunStateWith_left change left]
    exact ((leftRun_handed _).trans (reportAll_handed _ _)).trans (releaseHold_handed _ _)
  · rw [changeRunStateWith_kept change left]
    exact reportAll_handed _ _

/-! ### The transitions (R85 to R93) -/

theorem guard_leaveDefrost (s : State) :
    guard (leaveDefrost s) = { guard s with mode := .preheat, r := 0, cold := 0, warm := 0, defrostTimer := 0 } := by
  unfold leaveDefrost
  rw [guard_setFrostMode]
  rfl

theorem leaveDefrost_governor (s : State) : (leaveDefrost s).governor = { s.governor with r := 0 } := by
  unfold leaveDefrost
  simp [setReduction]

theorem leaveDefrost_reports {s : State} (defrost : s.frost.mode = .defrost) :
    flagRaised (leaveDefrost s) .frostState = true := by
  refine setFrostMode_reports _ _ ?_
  simp [setReduction, clearRuns, defrost]

theorem guard_enterBlind (s : State) :
    guard (enterBlind s) =
      { guard s with
        mode := .blind, requested := s.settings.hMax / 2, r := 0, cold := 0, warm := 0, defrostTimer := 0 } := by
  have timed :
      guard { setReduction 0 (setRequested (s.settings.hMax / 2) (clearRuns s)) with
              frost :=
                { (setReduction 0 (setRequested (s.settings.hMax / 2) (clearRuns s))).frost with defrostTimer := 0 } } =
        { guard (setRequested (s.settings.hMax / 2) (clearRuns s)) with r := 0, defrostTimer := 0 } := rfl
  unfold enterBlind
  rw [guard_setFrostMode, guard_report, timed, guard_setRequested, guard_clearRuns]

theorem enterBlind_governor (s : State) : (enterBlind s).governor = { s.governor with r := 0 } := by
  unfold enterBlind
  simp [setReduction]

theorem setFrostMode_flag (m : FrostMode) {k : EventKind} {s : State} (raised : flagRaised s k = true) :
    flagRaised (setFrostMode m s) k = true := by
  unfold setFrostMode
  split
  · exact raised
  · exact report_keeps_flag _ k _ _ raised

theorem enterBlind_reports {s : State} (sighted : s.frost.mode ≠ .blind) :
    flagRaised (enterBlind s) .frostBlind = true ∧ flagRaised (enterBlind s) .frostState = true := by
  refine ⟨setFrostMode_flag _ (report_flagRaised _ _ _), setFrostMode_reports _ _ ?_⟩
  simpa [setReduction, clearRuns] using sighted.symm

theorem guard_leaveBlind (s : State) : guard (leaveBlind s) = { guard s with mode := .watch, requested := 0 } := by
  unfold leaveBlind
  rw [guard_setFrostMode, guard_setRequested]

theorem guard_enterPreheat (p : Nat) (s : State) :
    guard (enterPreheat p s) = { guard s with mode := .preheat, requested := p, cold := 0, warm := 0 } := by
  unfold enterPreheat
  rw [guard_setFrostMode, guard_setRequested, guard_clearRuns]

end Sys2Proof.Machine
end

section
/-! The frost guard's entries to DEFROST and FROST STOP, and the ends of both (R85, R88, R90, R91). -/

namespace Sys2Proof.Machine

theorem setFrostMode_frost_reports {m : FrostMode} {s : State} (moved : s.frost.mode ≠ m) :
    flagRaised (setFrostMode m s) .frostState = true :=
  setFrostMode_reports m s moved.symm

theorem frostEntry_cascade {heat : Prop} (s : State) : Cascade heat s (filterPost .frostEntry s) :=
  filterPost_cascade s (by simp)

theorem frostEntry_hold (s : State) : (filterPost .frostEntry s).demand.hold = s.demand.hold := by
  unfold filterPost
  split
  · rfl
  · exact (congrArg Demand.hold (abortCapture_leaves .frost s).1).trans rfl

/-! ### DEFROST entered (R85) -/

/-- The guard in DEFROST with R formed, before the controller and the monitor are told. -/
def defrostTaken (s : State) : State :=
  let s₁ := { s with frost := { s.frost with defrostTimer := 0, defrostLimit := s.settings.defrostMax } }
  setFrostMode .defrost (setReduction (reductionNow s₁) s₁)

theorem enterDefrost_eq (s : State) : enterDefrost s = filterPost .frostEntry (releaseHold .frost (defrostTaken s)) := rfl

theorem enterDefrost_handed (s : State) : Handed (defrostTaken s) (enterDefrost s) :=
  (releaseHold_handed _ _).trans (frostEntry_handed _)

theorem guard_enterDefrost (s : State) :
    guard (enterDefrost s) =
      { guard s with
        mode := .defrost, defrostTimer := 0, defrostLimit := s.settings.defrostMax
        dHanded := (enterDefrost s).frost.dHanded, r := (enterDefrost s).frost.r } := by
  rw [(enterDefrost_handed s).guard, defrostTaken, guard_setFrostMode]
  rfl

theorem enterDefrost_reduced (s : State) : Reduced (enterDefrost s) := by
  refine (enterDefrost_handed s).reduced ?_ ?_
  · simp [defrostTaken]
  · simp [defrostTaken, Reduced, reductionNow, setReduction]

theorem enterDefrost_hold (s : State) : (enterDefrost s).demand.hold = none :=
  (frostEntry_hold _).trans (releaseHold_demand _ _)

theorem enterDefrost_runState (s : State) : (enterDefrost s).demand.runState = s.demand.runState :=
  (enterDefrost_handed s).runState.trans (by simp [defrostTaken, setReduction])

theorem enterDefrost_reports {s : State} (moved : s.frost.mode ≠ .defrost) :
    flagRaised (enterDefrost s) .frostState = true
      ∧ (s.demand.hold.isSome = true → flagRaised (enterDefrost s) .holdReleased = true) := by
  have told : Cascade True (releaseHold .frost (defrostTaken s)) (enterDefrost s) := frostEntry_cascade _
  have released : Cascade True (defrostTaken s) (releaseHold .frost (defrostTaken s)) := releaseHold_cascade _ _
  refine ⟨told.flag (released.flag (setFrostMode_frost_reports moved)), fun held => told.flag (releaseHold_reports _ _ ?_)⟩
  simpa [defrostTaken, setReduction] using held

/-! ### FROST STOP entered (R90) -/

/-- The guard in FROST STOP with its history, before the controller and the monitor are told. -/
def frostStopTaken (s : State) : State :=
  let s₁ := setReduction 0 (setRequested 0 (clearRuns s))
  let s₂ :=
    { s₁ with
      frost :=
        { s₁.frost with
          defrostTimer := 0, stopTimer := 0, stopLimit := s.settings.stopTime
          history := addEntry s.events.seconds s₁.frost.history } }
  let s₃ := setFrostMode .frostStop s₂
  if repeated s₃.frost.history then report .frostRepeat .none s₃ else s₃

/-- The controller and the monitor told, before the run state changes. -/
def frostStopTold (s : State) : State := filterPost .frostEntry (releaseHold .frost (frostStopTaken s))

theorem enterFrostStop_eq (s : State) :
    enterFrostStop s =
      if (frostStopTold s).demand.runState = .run then changeRunState .frostStop (frostStopTold s) else frostStopTold s :=
  rfl

/-- What the guard is once FROST STOP is entered. -/
def frostStopped (s : State) : FrostGuard :=
  { guard s with
    mode := .frostStop, requested := 0, r := 0, cold := 0, warm := 0, defrostTimer := 0, stopTimer := 0
    stopLimit := s.settings.stopTime, history := addEntry s.events.seconds s.frost.history }

theorem guard_frostStopTaken (s : State) : guard (frostStopTaken s) = frostStopped s := by
  have history : (setReduction 0 (setRequested 0 (clearRuns s))).frost.history = s.frost.history := by
    simp [setReduction, clearRuns]
  have requested : guard (setReduction 0 (setRequested 0 (clearRuns s))) =
      { guard s with requested := 0, r := 0, cold := 0, warm := 0 } := by
    rw [guard_setReduction, guard_setRequested, guard_clearRuns]
  unfold frostStopTaken frostStopped
  dsimp only
  rw [history, apply_ite guard, guard_report, ite_self, guard_setFrostMode]
  generalize setReduction 0 (setRequested 0 (clearRuns s)) = u at requested ⊢
  have timed :
      guard { u with
              frost :=
                { u.frost with
                  defrostTimer := 0, stopTimer := 0, stopLimit := s.settings.stopTime
                  history := addEntry s.events.seconds s.frost.history } } =
        { guard u with
          defrostTimer := 0, stopTimer := 0, stopLimit := s.settings.stopTime
          history := addEntry s.events.seconds s.frost.history } := rfl
  rw [timed, requested]

theorem frostStopTaken_keeps (s : State) :
    (frostStopTaken s).frost.heaterOutput = 0 ∧ (frostStopTaken s).governor.r = 0
      ∧ (frostStopTaken s).demand = s.demand ∧ (frostStopTaken s).settings = s.settings := by
  unfold frostStopTaken
  dsimp only
  split <;> simp [setReduction]

theorem frostStopTaken_reports {s : State} (moved : s.frost.mode ≠ .frostStop) :
    flagRaised (frostStopTaken s) .frostState = true
      ∧ (repeated (addEntry s.events.seconds s.frost.history) = true →
          flagRaised (frostStopTaken s) .frostRepeat = true) := by
  unfold frostStopTaken
  dsimp only
  split
  next => exact ⟨report_keeps_flag _ _ _ _ (setFrostMode_frost_reports (by simpa [setReduction, clearRuns] using moved)),
      fun _ => report_flagRaised _ _ _⟩
  next single =>
    refine ⟨setFrostMode_frost_reports (by simpa [setReduction, clearRuns] using moved), fun three => absurd three ?_⟩
    simpa [setReduction, clearRuns] using single

theorem frostStopTold_handed (s : State) : Handed (frostStopTaken s) (frostStopTold s) :=
  (releaseHold_handed _ _).trans (frostEntry_handed _)

theorem frostStopTold_hold (s : State) : (frostStopTold s).demand.hold = none :=
  (frostEntry_hold _).trans (releaseHold_demand _ _)

theorem frostStopTold_flag {s : State} {k : EventKind} (raised : flagRaised (frostStopTaken s) k = true) :
    flagRaised (enterFrostStop s) k = true := by
  have told : Cascade True (frostStopTaken s) (frostStopTold s) :=
    (releaseHold_cascade _ _).trans (frostEntry_cascade _)
  have entered : Cascade True (frostStopTold s) (enterFrostStop s) := by
    rw [enterFrostStop_eq]
    exact .ite (fun _ => changeRunStateWith_cascade _ _ _) fun _ => .refl
  exact entered.flag (told.flag raised)

/-- What the guard is told of the run state before the entry's last figures are read. -/
theorem frostStopTold_frost (s : State) :
    guard (frostStopTold s) = { frostStopped s with dHanded := (frostStopTold s).frost.dHanded }
      ∧ (frostStopTold s).frost.heaterOutput = 0 ∧ (frostStopTold s).governor.r = 0
      ∧ (frostStopTold s).frost.mode = .frostStop ∧ (frostStopTold s).frost.r = 0 := by
  have handed := frostStopTold_handed s
  have taken := guard_frostStopTaken s
  have mode : (frostStopTaken s).frost.mode = .frostStop := by simpa [frostStopped] using congrArg FrostGuard.mode taken
  have zero : (frostStopTaken s).frost.r = 0 := by simpa [frostStopped] using congrArg FrostGuard.r taken
  obtain ⟨output, governor, -⟩ := frostStopTaken_keeps s
  obtain ⟨r, governor'⟩ := handed.kept (by simp [mode])
  refine ⟨?_, handed.output.trans output, governor'.trans governor, handed.mode.trans mode, r.trans zero⟩
  rw [handed.guard, taken, r, zero]
  rfl

/-- The guard after the entry to FROST STOP, but for the run state it has seen and D as last handed on (R90). -/
theorem guard_enterFrostStop (s : State) :
    guard (enterFrostStop s) =
      { frostStopped s with
        dHanded := (enterFrostStop s).frost.dHanded, runSeen := (enterFrostStop s).frost.runSeen } := by
  obtain ⟨told, -, -, mode, zero⟩ := frostStopTold_frost s
  rw [enterFrostStop_eq]
  split
  next run =>
    have change : RunState.frostStop ≠ (frostStopTold s).demand.runState := by simp [run]
    have handed := changeRunStateWith_handed change []
    have seen : guard (runStateEntered .frostStop (frostStopTold s)) =
        { guard (frostStopTold s) with runSeen := .frostStop } := guard_runStateEntered_seen rfl _
    have entered : (runStateEntered .frostStop (frostStopTold s)).frost.mode = .frostStop := by
      simpa [mode] using congrArg FrostGuard.mode seen
    obtain ⟨r, -⟩ := handed.kept (by simp [entered])
    have changed := handed.guard
    have r' : (runStateEntered .frostStop (frostStopTold s)).frost.r = 0 := by
      simpa [zero] using congrArg FrostGuard.r seen
    rw [r.trans r', seen, told] at changed
    have runSeen : (changeRunStateWith .frostStop [] (frostStopTold s)).frost.runSeen = .frostStop := by
      simpa using congrArg FrostGuard.runSeen changed
    unfold changeRunState
    rw [runSeen]
    exact changed
  next =>
    have seen : (frostStopTold s).frost.runSeen = s.frost.runSeen := by
      simpa [frostStopped] using congrArg FrostGuard.runSeen told
    rw [seen, told]
    rfl

/-- The entry takes the heat and R away, and in RUN the targets, the hold and the run (R46, R67, R90). -/
theorem enterFrostStop_stops (s : State) :
    (enterFrostStop s).frost.heaterOutput = 0 ∧ (enterFrostStop s).governor.r = 0
      ∧ (enterFrostStop s).demand.hold = none
      ∧ (s.demand.runState = .run →
          (enterFrostStop s).demand.runState = .frostStop ∧ (enterFrostStop s).governor.tS = 0
            ∧ (enterFrostStop s).governor.tE = 0) := by
  obtain ⟨told, output, governor, mode, -⟩ := frostStopTold_frost s
  have runState : (frostStopTold s).demand.runState = s.demand.runState :=
    (frostStopTold_handed s).runState.trans (congrArg Demand.runState (frostStopTaken_keeps s).2.2.1)
  rw [enterFrostStop_eq]
  by_cases run : (frostStopTold s).demand.runState = .run
  · rw [if_pos run]
    have change : RunState.frostStop ≠ (frostStopTold s).demand.runState := by simp [run]
    have demand : (changeRunState .frostStop (frostStopTold s)).demand = _ := changeRunStateWith_demand []
    have targets : (changeRunState .frostStop (frostStopTold s)).governor = _ := changeRunStateWith_governor change []
    have seen : guard (runStateEntered .frostStop (frostStopTold s)) =
        { guard (frostStopTold s) with runSeen := .frostStop } := guard_runStateEntered_seen rfl _
    have entered : (runStateEntered .frostStop (frostStopTold s)).frost.mode = .frostStop := by
      simpa [mode] using congrArg FrostGuard.mode seen
    obtain ⟨-, r⟩ := (changeRunStateWith_handed change []).kept (by simp [entered])
    refine ⟨changeRunStateWith_output change (by simp) [], r.trans ?_, ?_, fun _ => ⟨?_, ?_, ?_⟩⟩
    · rw [runStateEntered_governor]
      exact governor
    · rw [demand, frostStopTold_hold, ite_self]
    · rw [demand]
    · rw [targets]
      rfl
    · rw [targets]
      rfl
  · rw [if_neg run]
    exact ⟨output, governor, frostStopTold_hold s, fun left => absurd (runState.trans left) run⟩

theorem enterFrostStop_reports {s : State} (moved : s.frost.mode ≠ .frostStop) :
    flagRaised (enterFrostStop s) .frostState = true
      ∧ (repeated (addEntry s.events.seconds s.frost.history) = true →
          flagRaised (enterFrostStop s) .frostRepeat = true) := by
  obtain ⟨state, three⟩ := frostStopTaken_reports moved
  exact ⟨frostStopTold_flag state, fun thrice => frostStopTold_flag (three thrice)⟩

end Sys2Proof.Machine
end

section
/-! The exhaustion signal, the defrost maximum, the stop timer and the end of the on-time (O39). -/

namespace Sys2Proof.Machine

/-! ### The end of FROST STOP (R49, R91, R94) -/

/-- The guard in PREHEAT at H_max, before the controller is told. -/
def frostStopEnded (s : State) : State :=
  setFrostMode .preheat (setRequested s.settings.hMax (clearRuns { s with frost := { s.frost with stopTimer := 0 } }))

theorem endFrostStop_eq {s : State} (stopped : s.frost.mode = .frostStop) :
    endFrostStop s = frostExitReport (frostStopEnded s) := if_pos stopped

theorem guard_frostStopEnded (s : State) :
    guard (frostStopEnded s) =
      { guard s with mode := .preheat, requested := s.settings.hMax, cold := 0, warm := 0, stopTimer := 0 } := by
  unfold frostStopEnded
  rw [guard_setFrostMode, guard_setRequested, guard_clearRuns]
  rfl

theorem frostStopEnded_keeps (s : State) :
    (frostStopEnded s).demand = s.demand ∧ (frostStopEnded s).settings = s.settings
      ∧ (frostStopEnded s).measurement.channels = s.measurement.channels := by
  refine ⟨by simp [frostStopEnded], by simp [frostStopEnded], ?_⟩
  simp [frostStopEnded, setRequested, reevaluate, setHeaterOutput_channels]

/-- The guard told of REST, SMOKE STOP or FAULT STOP comes to rest (R94). -/
theorem guard_guardRunReport_rests {rs : RunState} (resting : rests rs = true) (s : State) :
    guard (guardRunReport rs s) =
      { guard s with
        mode := restMode s, requested := 0, r := 0, cold := 0, warm := 0, defrostTimer := 0, stopTimer := 0
        runSeen := rs } := by
  have seen : guard (reevaluate { s with frost := { s.frost with runSeen := rs } }) = { guard s with runSeen := rs } := by
    rw [guard_reevaluate]
    rfl
  have warm : warmOutside (reevaluate { s with frost := { s.frost with runSeen := rs } }) = warmOutside s :=
    warmOutside_congr (runSeen_cascade (heat := True) rs s).channels (by simp)
  have told : guard (restGuard (reevaluate { s with frost := { s.frost with runSeen := rs } })) =
      { guard s with
        mode := restMode s, requested := 0, r := 0, cold := 0, warm := 0, defrostTimer := 0, stopTimer := 0
        runSeen := rs } := by
    rw [guard_restGuard, warm, seen]
    rfl
  cases rs with
  | startup | run | frostStop => simp [rests] at resting
  | rest | smokeStop | faultStop => exact told

theorem guard_runStateEntered_rests {rs : RunState} (resting : rests rs = true) (s : State) :
    guard (runStateEntered rs s) =
      { guard s with
        mode := restMode s, requested := 0, r := 0, cold := 0, warm := 0, defrostTimer := 0, stopTimer := 0
        runSeen := rs } := by
  have stops : rs ≠ .run := by
    rintro rfl
    simp [rests] at resting
  have mode : restMode (setTargets 0 0 { s with demand := { s.demand with runState := rs } }) = restMode s := by
    have cascade : Cascade True { s with demand := { s.demand with runState := rs } } _ := setTargets_cascade 0 0 _
    rw [restMode, warmOutside_congr cascade.channels (by simp)]
    rfl
  rw [guard_runStateEntered, if_neg stops, guard_guardRunReport_rests resting, mode, guard_setTargets]
  rfl

theorem restMode_idle (s : State) : restMode s = .idle ↔ ∃ v, channelValue s .tOut = some v ∧ s.settings.tWatch ≤ v := by
  unfold restMode warmOutside
  cases channelValue s .tOut <;> simp

theorem restMode_watch (s : State) : restMode s = .watch ↔ ∀ v, channelValue s .tOut = some v → v < s.settings.tWatch := by
  unfold restMode warmOutside
  cases channelValue s .tOut <;> simp

/-- With the level selected RUN follows, with the guard in PREHEAT at H_max (R49, R91). -/
theorem endFrostStop_run {s : State} (stopped : s.frost.mode = .frostStop) (run : s.demand.runState = .frostStop)
    (level : s.demand.level ≠ .off) :
    (endFrostStop s).demand = { s.demand with runState := .run }
      ∧ guard (endFrostStop s) = { guard (frostStopEnded s) with runSeen := .run }
      ∧ (endFrostStop s).frost.heaterOutput = if interlock (endFrostStop s) then s.settings.hMax else 0 := by
  obtain ⟨demand, settings, -⟩ := frostStopEnded_keeps s
  have guarded := guard_frostStopEnded s
  have requested : (frostStopEnded s).frost.requested = s.settings.hMax := by
    simpa using congrArg FrostGuard.requested guarded
  rw [endFrostStop_eq stopped]
  generalize frostStopEnded s = u at demand settings guarded requested ⊢
  have from' : u.demand.runState = .frostStop := by rw [demand, run]
  have entered : frostExitReport u = changeRunStateWith .run [] u := by
    have to' : ventilating u = .run := if_neg (by rwa [demand])
    exact (if_pos from').trans (by rw [to', changeRunState])
  have kept : changeRunStateWith .run [] u = runStateEntered .run u :=
    changeRunStateWith_kept (by simp [from']) (by simp [from']) []
  rw [entered, kept]
  refine ⟨by rw [runStateEntered_demand, demand], guard_runStateEntered_seen rfl u, ?_⟩
  simp [runStateEntered, guardRunReport, requested, interlock]

/-- With the level OFF REST follows, with the guard at rest (R49, R94). -/
theorem endFrostStop_rest {s : State} (stopped : s.frost.mode = .frostStop) (run : s.demand.runState = .frostStop)
    (level : s.demand.level = .off) :
    (endFrostStop s).demand = { s.demand with runState := .rest }
      ∧ guard (endFrostStop s) =
          { guard (frostStopEnded s) with
            mode := restMode s, requested := 0, r := 0, cold := 0, warm := 0, defrostTimer := 0, stopTimer := 0
            runSeen := .rest } := by
  obtain ⟨demand, settings, channels⟩ := frostStopEnded_keeps s
  have mode : restMode (frostStopEnded s) = restMode s := by
    rw [restMode, restMode, warmOutside_congr channels settings]
  rw [endFrostStop_eq stopped]
  generalize frostStopEnded s = u at demand settings channels mode ⊢
  have from' : u.demand.runState = .frostStop := by rw [demand, run]
  have entered : frostExitReport u = changeRunStateWith .rest [] u := by
    have to' : ventilating u = .rest := if_pos (by rwa [demand])
    exact (if_pos from').trans (by rw [to', changeRunState])
  have kept : changeRunStateWith .rest [] u = runStateEntered .rest u :=
    changeRunStateWith_kept (by simp [from']) (by simp [from']) []
  rw [entered, kept]
  exact ⟨by rw [runStateEntered_demand, demand], by rw [guard_runStateEntered_rests rfl, mode]⟩

/-- Whatever the run state, the end clears the counts and the stop timer and is reported (R91, R95). -/
theorem endFrostStop_ends {s : State} (stopped : s.frost.mode = .frostStop) :
    (endFrostStop s).frost.stopTimer = 0 ∧ (endFrostStop s).frost.cold = 0 ∧ (endFrostStop s).frost.warm = 0
      ∧ flagRaised (endFrostStop s) .frostState = true := by
  have guarded := guard_frostStopEnded s
  have told : Cascade True (frostStopEnded s) (endFrostStop s) := by
    rw [endFrostStop_eq stopped]
    exact frostExitReport_cascade _
  have raised : flagRaised (frostStopEnded s) .frostState = true :=
    setFrostMode_frost_reports (by simp [clearRuns, stopped])
  have counts (g : FrostGuard) (same : guard (endFrostStop s) = g) (timer : g.stopTimer = 0) (cold : g.cold = 0)
      (warm : g.warm = 0) :
      (endFrostStop s).frost.stopTimer = 0 ∧ (endFrostStop s).frost.cold = 0 ∧ (endFrostStop s).frost.warm = 0 := by
    subst same
    exact ⟨timer, cold, warm⟩
  obtain ⟨timer, cold, warm⟩ : (endFrostStop s).frost.stopTimer = 0 ∧ (endFrostStop s).frost.cold = 0
      ∧ (endFrostStop s).frost.warm = 0 := by
    by_cases run : s.demand.runState = .frostStop
    · by_cases level : s.demand.level = .off
      · exact counts _ (endFrostStop_rest stopped run level).2 rfl rfl rfl
      · exact counts _ ((endFrostStop_run stopped run level).2.1.trans (by rw [guarded])) rfl rfl rfl
    · have still : endFrostStop s = frostStopEnded s := by
        rw [endFrostStop_eq stopped]
        exact if_neg (by rwa [(frostStopEnded_keeps s).1])
      exact counts _ ((congrArg guard still).trans guarded) rfl rfl rfl
  exact ⟨timer, cold, warm, told.flag raised⟩

/-! ### The end of DEFROST (R88) -/

theorem exhaustCold_iff (s : State) : exhaustCold s = true ↔ ∃ v, channelValue s .tExh = some v ∧ v < s.settings.tFrost := by
  unfold exhaustCold
  cases channelValue s .tExh <;> simp

/-- DEFROST ended by exhaustion or by its maximum, to FROST STOP or to PREHEAT (R88). -/
theorem endDefrost_ends {s : State} (defrost : s.frost.mode = .defrost) :
    let t := endDefrost s
    OuterKept s t ∧ ReportsOnly s t ∧ t.frost.r = 0 ∧ t.governor.r = 0
      ∧ t.frost.cold = 0 ∧ t.frost.warm = 0 ∧ t.frost.defrostTimer = 0 ∧ flagRaised t .frostState = true
      ∧ t.frost.exhaustion = s.frost.exhaustion
      ∧ ((∃ v, channelValue s .tExh = some v ∧ v < s.settings.tFrost) →
          t.frost.mode = .frostStop ∧ t.frost.requested = 0 ∧ t.frost.stopTimer = 0
            ∧ (s.demand.runState = .run → t.demand.runState = .frostStop ∧ t.governor.tS = 0 ∧ t.governor.tE = 0))
      ∧ (channelValue s .tExh = none ∨ (∃ v, channelValue s .tExh = some v ∧ s.settings.tFrost ≤ v) →
          t.frost.mode = .preheat ∧ t.frost.requested = s.frost.requested ∧ t.demand = s.demand
            ∧ t.loops = s.loops ∧ t.filter = s.filter) := by
  intro t
  have cascade : Cascade True s t := endDefrost_cascade s
  refine ⟨cascade.outer, cascade.reportsOnly, ?_⟩
  by_cases cold : exhaustCold s = true
  · have ended : t = enterFrostStop s := (if_pos defrost).trans (if_pos cold)
    have guarded := guard_enterFrostStop s
    obtain ⟨-, governor, -, stops⟩ := enterFrostStop_stops s
    obtain ⟨reports, -⟩ := enterFrostStop_reports (s := s) (by simp [defrost])
    rw [ended]
    generalize enterFrostStop s = u at guarded governor stops reports
    have reads := guard_reads u
    rw [guarded] at reads
    simp only [frostStopped, guard_reads] at reads
    obtain ⟨mode, requested, r, count, warm, timer, -, stop, -, -, -, -, exhaustion⟩ := reads
    refine ⟨r.symm, governor, count.symm, warm.symm, timer.symm, reports, exhaustion.symm,
      fun _ => ⟨mode.symm, requested.symm, stop.symm, stops⟩, fun above => ?_⟩
    obtain ⟨v, value, low⟩ := (exhaustCold_iff s).mp cold
    obtain none | ⟨w, value', high⟩ := above
    · simp [value] at none
    · rw [value] at value'
      injection value' with same
      omega
  · have ended : t = leaveDefrost s := (if_pos defrost).trans (if_neg cold)
    have guarded := guard_leaveDefrost s
    have reports := leaveDefrost_reports defrost
    have governor := leaveDefrost_governor s
    obtain ⟨-, -, -, loops, demand, filter, -⟩ := leaveDefrost_frame s
    rw [ended]
    generalize leaveDefrost s = u at guarded governor loops demand filter reports
    have reads := guard_reads u
    rw [guarded] at reads
    simp only [guard_reads] at reads
    obtain ⟨mode, requested, r, count, warm, timer, -, -, -, -, -, -, exhaustion⟩ := reads
    exact ⟨r.symm, by rw [governor], count.symm, warm.symm, timer.symm, reports, exhaustion.symm,
      fun low => absurd ((exhaustCold_iff s).mpr low) cold,
      fun _ => ⟨mode.symm, requested.symm, demand, loops, filter⟩⟩

/-- Settles O39: the four rows by what they end, each through the lemma of its end. -/
theorem frostSignalsAndTimersEndTheirStates : Obligations.FrostSignalsAndTimersEndTheirStates := by
  unfold Obligations.FrostSignalsAndTimersEndTheirStates
  intro s powered
  have signal : exec .exhaustionSignal s = .next (takeExhaustion s) := exec_powered powered rfl
  have maximum : exec .defrostMaximumExpiry s = .next (endDefrost s) := exec_powered powered rfl
  have timer : exec .stopTimerExpiry s = .next (endFrostStop s) := exec_powered powered rfl
  have onTime : exec .htoOnTimeEnd s = .next (endOnTime s) := exec_powered powered rfl
  rw [timer, onTime]
  refine ⟨fun other => ?_, fun c rows defrost => ?_, fun other => ?_, fun stopped => ⟨_, rfl, ?_⟩, rfl⟩
  · rw [signal, maximum]
    exact ⟨congrArg _ (if_neg other), congrArg _ (if_neg other)⟩
  · obtain rfl | rfl := rows
    · have ends := endDefrost_ends (s := { s with frost := { s.frost with exhaustion := false } }) defrost
      obtain ⟨outer, reports, r, governor, cold, warm, defrostTimer, flag, exhaustion, down, up⟩ := ends
      exact ⟨_, signal, outer, reports, r, governor, cold, warm, defrostTimer, flag, fun _ => exhaustion, down, up⟩
    · obtain ⟨outer, reports, r, governor, cold, warm, defrostTimer, flag, -, down, up⟩ := endDefrost_ends defrost
      exact ⟨_, maximum, outer, reports, r, governor, cold, warm, defrostTimer, flag, (fun other => nomatch other),
        down, up⟩
  · exact congrArg _ (if_neg other)
  · have cascade : Cascade True s (endFrostStop s) := endFrostStop_cascade s
    obtain ⟨stopTimer, cold, warm, flag⟩ := endFrostStop_ends stopped
    have ended := guard_frostStopEnded s
    refine ⟨cascade.outer, cascade.reportsOnly, stopTimer, cold, warm, flag, fun run level => ?_, fun run level => ?_⟩
    · obtain ⟨demand, guarded, output⟩ := endFrostStop_run stopped run level
      rw [ended] at guarded
      have reads := guard_reads (endFrostStop s)
      rw [guarded] at reads
      obtain ⟨mode, requested, -⟩ := reads
      exact ⟨demand, mode.symm, requested.symm, output⟩
    · obtain ⟨demand, guarded⟩ := endFrostStop_rest stopped run level
      have reads := guard_reads (endFrostStop s)
      rw [guarded] at reads
      obtain ⟨mode, requested, -⟩ := reads
      rw [← mode]
      exact ⟨demand, requested.symm, restMode_idle s, restMode_watch s⟩

end Sys2Proof.Machine
end

section
/-! The frost period: its judgement and its heater cycle (O37). -/

namespace Sys2Proof.Machine

/-! ### What the period adds to its judgement (R74, R77) -/

theorem frostPeriod_judged (s : State) :
    guard (frostPeriod s) = guard (judgePeriod s) ∧ (frostPeriod s).demand = (judgePeriod s).demand
      ∧ (frostPeriod s).governor = (judgePeriod s).governor ∧ (frostPeriod s).events = (judgePeriod s).events := by
  refine ⟨?_, ?_, ?_, ?_⟩
  · exact (guard_reevaluate (judgePeriod s))
  · exact (reevaluate_frame (judgePeriod s)).2.2.2.2.1
  · exact (reevaluate_frame (judgePeriod s)).2.2.2.2.2.1
  · exact (reevaluate_frame (judgePeriod s)).2.2.2.2.2.2.2.2.2.1

theorem frostPeriod_flag (s : State) (k : EventKind) : flagRaised (frostPeriod s) k = flagRaised (judgePeriod s) k := by
  rw [flagRaised, (frostPeriod_judged s).2.2.2, flagRaised]

/-- The heater cycle starts at the output, which is the requested power while the interlock holds (R75, R77). -/
theorem frostPeriod_cycle (s : State) :
    (frostPeriod s).frost.applied = (frostPeriod s).frost.heaterOutput
      ∧ (frostPeriod s).frost.hto = decide (0 < (frostPeriod s).frost.heaterOutput)
      ∧ (frostPeriod s).frost.heaterOutput = (if interlock (frostPeriod s) then (frostPeriod s).frost.requested else 0) := by
  refine ⟨rfl, rfl, ?_⟩
  obtain ⟨output, -, requested, -, -, -, -, seen, -⟩ := reevaluate_frost (judgePeriod s)
  have held : interlock (frostPeriod s) = interlock (judgePeriod s) :=
    interlock_congr seen (reevaluate_frame (judgePeriod s)).2.2.2.1 (reevaluate_frame (judgePeriod s)).2.1
  have asked : (frostPeriod s).frost.requested = (judgePeriod s).frost.requested := requested
  rw [held, asked]
  exact output

/-- What the guard reads after the period is what its judgement leaves. -/
theorem frostPeriod_reads {s : State} {g : FrostGuard} (judged : guard (judgePeriod s) = g) :
    (frostPeriod s).frost.mode = g.mode ∧ (frostPeriod s).frost.requested = g.requested
      ∧ (frostPeriod s).frost.r = g.r ∧ (frostPeriod s).frost.cold = g.cold ∧ (frostPeriod s).frost.warm = g.warm
      ∧ (frostPeriod s).frost.defrostTimer = g.defrostTimer ∧ (frostPeriod s).frost.defrostLimit = g.defrostLimit
      ∧ (frostPeriod s).frost.stopTimer = g.stopTimer ∧ (frostPeriod s).frost.stopLimit = g.stopLimit
      ∧ (frostPeriod s).frost.history = g.history ∧ (frostPeriod s).frost.dHanded = g.dHanded := by
  have same := (frostPeriod_judged s).1.trans judged
  have reads := guard_reads (frostPeriod s)
  rw [same] at reads
  obtain ⟨mode, requested, r, cold, warm, timer, limit, stop, stopLimit, history, handed, -⟩ := reads
  exact ⟨mode.symm, requested.symm, r.symm, cold.symm, warm.symm, timer.symm, limit.symm, stop.symm, stopLimit.symm,
    history.symm, handed.symm⟩

/-! ### The judgement by the guard's state -/

theorem bothAbsent_iff (s : State) : bothAbsent s = true ↔ channelValue s .tOut = none ∧ channelValue s .tExh = none := by
  simp [bothAbsent]

theorem outsideReleased_iff (s : State) :
    outsideReleased s = true ↔ ∃ v, channelValue s .tOut = some v ∧ s.settings.tWatch + 10 ≤ v := by
  unfold outsideReleased
  cases channelValue s .tOut <;> simp

theorem iceSuspected_iff (s : State) :
    iceSuspected s = true ↔
      s.measurement.fresh = true
        ∧ (∃ e, s.measurement.effectiveness = some e ∧ e < s.settings.effFloor)
        ∧ ∃ v, channelValue s .tOut = some v ∧ v < -50 := by
  unfold iceSuspected
  cases s.measurement.effectiveness with
  | none => simp
  | some e => cases channelValue s .tOut <;> simp [and_assoc]

theorem judgePeriod_blind {s : State} (blind : bothAbsent s = true) (can : canGoBlind s.frost.mode = true) :
    judgePeriod s = enterBlind s := by
  simp [judgePeriod, blind, can]

theorem judgePeriod_rule {s : State} (sighted : bothAbsent s = false ∨ canGoBlind s.frost.mode = false) :
    judgePeriod s = stateRule (flagRaised s .frostBlind) s := by
  unfold judgePeriod
  obtain none | cannot := sighted
  · simp [none]
  · simp [cannot]

/-- BLIND kept asks half of H_max again, with its flag raised (R92, R93). -/
theorem blindRule_stays {s : State} (blind : bothAbsent s = true) :
    guard (blindRule (flagRaised s .frostBlind) s) = { guard s with requested := s.settings.hMax / 2 }
      ∧ flagRaised (blindRule (flagRaised s .frostBlind) s) .frostBlind = true := by
  unfold blindRule
  rw [blind]
  cases flag : flagRaised s .frostBlind with
  | true =>
    refine ⟨guard_setRequested _ s, ?_⟩
    have events : (setRequested (s.settings.hMax / 2) s).events = s.events := by simp
    have raised : flagRaised (setRequested (s.settings.hMax / 2) s) .frostBlind = flagRaised s .frostBlind := by
      rw [flagRaised, events, flagRaised]
    exact raised.trans flag
  | false => exact ⟨(guard_report _ _ _).trans (guard_setRequested _ s), report_flagRaised _ _ _⟩

theorem guard_idleRule {s : State} (idle : s.frost.mode = .idle) : guard (idleRule s) = { guard s with mode := restMode s } := by
  unfold idleRule restMode
  split
  · rw [guard, idle]
  · exact guard_setFrostMode .watch s

/-- The power that the third item of R80 asks, while T_EXH is absent and T_OUT below the watch temperature. -/
theorem unknownExhaustPower_cold {s : State} {v : Int} (absent : channelValue s .tExh = none)
    (outside : channelValue s .tOut = some v) (below : v < s.settings.tWatch) :
    unknownExhaustPower s = some (degradedPower s.settings v) := by
  simp [unknownExhaustPower, absent, outside, below]

theorem unknownExhaustPower_warm {s : State}
    (known : (channelValue s .tExh).isSome = true ∨ ∀ v, channelValue s .tOut = some v → s.settings.tWatch ≤ v) :
    unknownExhaustPower s = none := by
  unfold unknownExhaustPower
  cases exhaust : channelValue s .tExh with
  | some t => rfl
  | none =>
    cases outside : channelValue s .tOut with
    | none => rfl
    | some v =>
      obtain present | warm := known
      · simp [exhaust] at present
      · exact if_neg (by have := warm v outside; omega)

theorem watchRunRule_preheats {s : State} (frost : exhaustCold s = true ∨ iceSuspected s = true) :
    watchRunRule s = enterPreheat (min 500 s.settings.hMax) s := by
  obtain frost | frost := frost <;> simp [watchRunRule, frost]

theorem watchRunRule_unknown {s : State} {p : Nat} (calm : ¬(exhaustCold s = true ∨ iceSuspected s = true))
    (unknown : unknownExhaustPower s = some p) : watchRunRule s = enterPreheat p s := by
  have still : (exhaustCold s || iceSuspected s) = false := by simpa using calm
  simp [watchRunRule, still, unknown]

theorem watchRunRule_known {s : State} (calm : ¬(exhaustCold s = true ∨ iceSuspected s = true))
    (known : unknownExhaustPower s = none) :
    watchRunRule s = if outsideReleased s then setFrostMode .idle s else s := by
  have still : (exhaustCold s || iceSuspected s) = false := by simpa using calm
  simp [watchRunRule, still, known]

/-- In WATCH a released outside returns the guard to IDLE (R80). -/
theorem guard_released (s : State) :
    guard (if outsideReleased s then setFrostMode .idle s else s) =
      { guard s with mode := if outsideReleased s then .idle else s.frost.mode } := by
  split
  · exact guard_setFrostMode .idle s
  · rfl

/-- Settles O37: the heater cycle from the output, and the judgement by the state that the guard is in. -/
theorem frostPeriodJudgesAndStartsACycle : Obligations.FrostPeriodJudgesAndStartsACycle := by
  unfold Obligations.FrostPeriodJudgesAndStartsACycle
  intro s powered
  have run : exec .frostPeriod s = .next (frostPeriod s) := exec_powered powered rfl
  have cascade : Cascade True s (frostPeriod s) := frostPeriod_cascade s
  obtain ⟨applied, hto, output⟩ := frostPeriod_cycle s
  obtain ⟨judged, demand, governor, events⟩ := frostPeriod_judged s
  refine ⟨_, run, cascade.outer, cascade.reportsOnly, cascade.channels, applied, hto, output, ?_⟩
  intro tOut tExh blind cold ice released
  have absent : blind ↔ bothAbsent s = true := (bothAbsent_iff s).symm
  have exhaust : cold ↔ exhaustCold s = true := (exhaustCold_iff s).symm
  have suspected : ice ↔ iceSuspected s = true := (iceSuspected_iff s).symm
  have warm : released ↔ outsideReleased s = true := (outsideReleased_iff s).symm
  rw [propext absent, propext exhaust, propext suspected, propext warm]
  have rule (sighted : ¬bothAbsent s = true) : judgePeriod s = stateRule (flagRaised s .frostBlind) s :=
    judgePeriod_rule (.inl (by simpa using sighted))
  refine ⟨fun absent live => ?_, fun sighted mode => ?_, fun mode => ?_, fun sighted mode => ?_, fun sighted mode other => ?_,
    fun sighted mode running => ?_, fun mode sighted other => ?_⟩
  · by_cases already : s.frost.mode = .blind
    · have stays : judgePeriod s = blindRule (flagRaised s .frostBlind) s :=
        (judgePeriod_rule (.inr (by simp [already, canGoBlind]))).trans (by simp [stateRule, already])
      obtain ⟨guarded, flag⟩ := blindRule_stays absent
      obtain ⟨mode, requested, -⟩ := frostPeriod_reads ((congrArg guard stays).trans guarded)
      refine ⟨mode.trans already, requested, ?_, fun moved => absurd already moved⟩
      rw [frostPeriod_flag, stays, flag]
    · have can : canGoBlind s.frost.mode = true := by
        cases mode : s.frost.mode <;> simp_all [canGoBlind]
      have enters := judgePeriod_blind absent can
      obtain ⟨mode, requested, r, cold', warm', timer, -⟩ :=
        frostPeriod_reads ((congrArg guard enters).trans (guard_enterBlind s))
      obtain ⟨told, moved⟩ := enterBlind_reports already
      refine ⟨mode, requested, ?_, fun _ => ⟨r, ?_, cold', warm', timer, ?_⟩⟩
      · rw [frostPeriod_flag, enters, told]
      · rw [governor, enters, enterBlind_governor]
      · rw [frostPeriod_flag, enters, moved]
  · have leaves : judgePeriod s = leaveBlind s := by
      have absent : bothAbsent s = false := by simpa using sighted
      rw [rule sighted]
      simp [stateRule, mode, blindRule, absent]
    obtain ⟨mode', requested, -⟩ := frostPeriod_reads ((congrArg guard leaves).trans (guard_leaveBlind s))
    exact ⟨mode', requested⟩
  · have stays : judgePeriod s = s :=
      (judgePeriod_rule (.inr (by simp [mode, canGoBlind]))).trans (by simp [stateRule, mode])
    obtain ⟨mode', requested, -⟩ := frostPeriod_reads (congrArg guard stays)
    exact ⟨mode'.trans mode, requested, demand.trans (congrArg State.demand stays), events.trans (congrArg State.events stays)⟩
  · have idles : judgePeriod s = idleRule s := (rule sighted).trans (by simp [stateRule, mode])
    obtain ⟨mode', requested, -⟩ := frostPeriod_reads ((congrArg guard idles).trans (guard_idleRule mode))
    refine ⟨requested, fun absent => ?_, fun v present => ?_⟩
    · rw [mode', restMode_watch]
      intro v present
      exact absurd (absent.symm.trans present) (by simp)
    · have present' : channelValue s .tOut = some v := present
      rw [mode']
      simp [restMode, warmOutside, present']
  · have watches : judgePeriod s = if outsideReleased s then setFrostMode .idle s else s :=
      (rule sighted).trans (by simp [stateRule, mode, watchRule, other])
    obtain ⟨mode', requested, -⟩ := frostPeriod_reads ((congrArg guard watches).trans (guard_released s))
    exact ⟨requested, fun warm => mode'.trans (if_pos warm), fun cool => mode'.trans ((if_neg cool).trans mode)⟩
  · have watches : judgePeriod s = watchRunRule s := (rule sighted).trans (by simp [stateRule, mode, watchRule, running])
    refine ⟨fun frost => ?_, fun calm => ⟨fun v absent present below => ?_, ?_⟩⟩
    · obtain ⟨mode', requested, -, cold', warm', -⟩ :=
        frostPeriod_reads ((congrArg guard (watches.trans (watchRunRule_preheats frost))).trans (guard_enterPreheat _ s))
      exact ⟨mode', requested, cold', warm'⟩
    · have unknown := watchRunRule_unknown calm (unknownExhaustPower_cold absent present below)
      obtain ⟨mode', requested, -, cold', warm', -⟩ :=
        frostPeriod_reads ((congrArg guard (watches.trans unknown)).trans (guard_enterPreheat _ s))
      exact ⟨mode', requested, cold', warm'⟩
    · have known (warm : tExh.isSome = true ∨ ∀ v, tOut = some v → s.settings.tWatch ≤ v) :=
        frostPeriod_reads
          ((congrArg guard (watches.trans (watchRunRule_known calm (unknownExhaustPower_warm warm)))).trans
            (guard_released s))
      refine ⟨fun warm => ?_, fun cool sensed => ?_⟩
      · obtain ⟨v, present, above⟩ := (outsideReleased_iff s).mp warm
        have outside (w : Int) (found : tOut = some w) : s.settings.tWatch ≤ w := by
          have same : some v = some w := present.symm.trans found
          injection same with same
          omega
        obtain ⟨mode', -⟩ := known (.inr outside)
        exact mode'.trans (if_pos warm)
      · obtain ⟨mode', requested, -⟩ := known sensed
        exact ⟨mode'.trans ((if_neg cool).trans mode), requested⟩
  · have stays : judgePeriod s = s := (rule sighted).trans (by simp [stateRule, mode, other])
    obtain ⟨mode', requested, -, cold', warm', -⟩ := frostPeriod_reads (congrArg guard stays)
    exact ⟨mode'.trans mode, requested, cold', warm'⟩

end Sys2Proof.Machine
end

section
/-! A frost period in PREHEAT and in DEFROST (O38). -/

namespace Sys2Proof.Machine

/-! ### PREHEAT with T_EXH present (R81 to R83) -/

/-- The power that a period in PREHEAT asks (R81). -/
def askedPower (v : Int) (s : State) : Nat := stepPower s.settings v s.frost.requested

/-- The warm run after a period in PREHEAT (R82). -/
def warmRun (v : Int) (s : State) : Nat :=
  if askedPower v s = 0 ∧ s.settings.tFrost + 15 ≤ v then s.frost.warm + 1 else 0

/-- The cold run after a period in PREHEAT (R83). -/
def coldRun (v : Int) (s : State) : Nat :=
  if v < s.settings.tFrost ∧ (askedPower v s = s.settings.hMax ∨ s.settings.hMax = 0 ∨ interlock s = false) then
    s.frost.cold + 1
  else 0

/-- The state with the power and the warm run of a period in PREHEAT. -/
def preheated (v : Int) (s : State) : State :=
  let s₁ := setRequested (askedPower v s) s
  { s₁ with frost := { s₁.frost with warm := warmRun v s } }

theorem guard_preheated (v : Int) (s : State) :
    guard (preheated v s) = { guard s with requested := askedPower v s, warm := warmRun v s } := by
  have warmed : guard (preheated v s) = { guard (setRequested (askedPower v s) s) with warm := warmRun v s } := rfl
  rw [warmed, guard_setRequested]

theorem preheated_keeps (v : Int) (s : State) :
    (preheated v s).settings = s.settings ∧ (preheated v s).demand = s.demand
      ∧ (preheated v s).governor = s.governor ∧ (preheated v s).events.seconds = s.events.seconds
      ∧ interlock (preheated v s) = interlock s := by
  have cascade : Cascade True s (setRequested (askedPower v s) s) := setRequested_cascade _ _
  obtain ⟨seconds, -⟩ := cascade.reportsOnly
  refine ⟨by simp [preheated], by simp [preheated], by simp [preheated], seconds, interlock_congr ?_ ?_ ?_⟩ <;>
    simp [preheated]

theorem preheatNormal_eq (v : Int) (s : State) :
    preheatNormal v s =
      if 3 ≤ warmRun v s then setFrostMode .watch (clearRuns (setRequested (askedPower v s) s))
      else judgeEscalation v (preheated v s) := by
  have run : runAfter ((setRequested (askedPower v s) s).frost.requested == 0 && decide (s.settings.tFrost + 15 ≤ v))
      (setRequested (askedPower v s) s).frost.warm = warmRun v s := by
    simp [runAfter, warmRun]
  unfold preheatNormal preheated
  rw [← run]
  rfl

theorem judgeEscalation_preheated (v : Int) (s : State) :
    judgeEscalation v (preheated v s) =
      if 6 ≤ coldRun v s then escalate (preheated v s)
      else { preheated v s with frost := { (preheated v s).frost with cold := coldRun v s } } := by
  obtain ⟨settings, -, -, -, held⟩ := preheated_keeps v s
  have guarded := guard_preheated v s
  have requested : (preheated v s).frost.requested = askedPower v s := by
    simpa using congrArg FrostGuard.requested guarded
  have cold : (preheated v s).frost.cold = s.frost.cold := by simpa using congrArg FrostGuard.cold guarded
  have run : runAfter (decide (v < (preheated v s).settings.tFrost) && unableToRise (preheated v s))
      (preheated v s).frost.cold = coldRun v s := by
    simp [runAfter, coldRun, unableToRise, settings, requested, cold, held, or_assoc]
  unfold judgeEscalation
  rw [run]

/-- The state that a cold run of six hands to the escalation (R83). -/
def escalating (v : Int) (s : State) : State :=
  { preheated v s with frost := { (preheated v s).frost with cold := 0 } }

theorem guard_escalating (v : Int) (s : State) :
    guard (escalating v s) = { guard s with requested := askedPower v s, warm := warmRun v s, cold := 0 } := by
  have counted : guard (escalating v s) = { guard (preheated v s) with cold := 0 } := rfl
  rw [counted, guard_preheated]

theorem escalate_preheated (v : Int) (s : State) :
    escalate (preheated v s) =
      if s.settings.aEnter ≤ s.governor.allowance then enterDefrost (escalating v s)
      else enterFrostStop (escalating v s) := by
  obtain ⟨settings, -, governor, -⟩ := preheated_keeps v s
  unfold escalate
  exact if_congr (by rw [settings, governor]) rfl rfl

/-- The period in PREHEAT, in RUN with T_EXH present. -/
theorem judgePeriod_preheat {s : State} {v : Int} (mode : s.frost.mode = .preheat) (running : s.frost.runSeen = .run)
    (present : channelValue s .tExh = some v) : judgePeriod s = preheatNormal v s := by
  rw [judgePeriod_rule (.inl (by simp [bothAbsent, present]))]
  simp [stateRule, mode, running, preheatRule, present]

theorem frostPeriod_preheat_escalates {s : State} {v : Int} (mode : s.frost.mode = .preheat)
    (running : s.frost.runSeen = .run) (present : channelValue s .tExh = some v) (cool : warmRun v s < 3)
    (cold : 6 ≤ coldRun v s) :
    judgePeriod s =
      if s.settings.aEnter ≤ s.governor.allowance then enterDefrost (escalating v s)
      else enterFrostStop (escalating v s) := by
  rw [judgePeriod_preheat mode running present, preheatNormal_eq, if_neg (by omega),
    judgeEscalation_preheated, if_pos cold, escalate_preheated]

/-- Six cold periods with allowance enough enter DEFROST (R83, R85). -/
theorem frostPeriod_defrosts {s : State} {v : Int} (mode : s.frost.mode = .preheat)
    (running : s.frost.runSeen = .run) (present : channelValue s .tExh = some v) (cool : warmRun v s < 3)
    (cold : 6 ≤ coldRun v s) (allowed : s.settings.aEnter ≤ s.governor.allowance) :
    let t := frostPeriod s
    t.frost.mode = .defrost ∧ t.frost.requested = askedPower v s ∧ t.frost.cold = 0
      ∧ t.frost.defrostTimer = 0 ∧ t.frost.defrostLimit = s.settings.defrostMax
      ∧ t.frost.r = t.frost.dHanded * s.settings.reduction / 100 ∧ t.governor.r = t.frost.r
      ∧ t.demand.hold = none ∧ t.demand.runState = s.demand.runState ∧ flagRaised t .frostState = true
      ∧ (s.demand.hold.isSome = true → flagRaised t .holdReleased = true) := by
  intro t
  have enters : judgePeriod s = enterDefrost (escalating v s) :=
    (frostPeriod_preheat_escalates mode running present cool cold).trans (if_pos allowed)
  obtain ⟨settings, demand, -⟩ := preheated_keeps v s
  have settings' : (escalating v s).settings = s.settings := settings
  have demand' : (escalating v s).demand = s.demand := demand
  have guarded := guard_escalating v s
  have from' : (escalating v s).frost.mode = .preheat := by simpa [mode] using congrArg FrostGuard.mode guarded
  obtain ⟨moved, released⟩ := enterDefrost_reports (s := escalating v s) (by simp [from'])
  obtain ⟨r, governor⟩ := enterDefrost_reduced (escalating v s)
  have entered := guard_enterDefrost (escalating v s)
  have hold := enterDefrost_hold (escalating v s)
  have runState := enterDefrost_runState (escalating v s)
  have kept : (enterDefrost (escalating v s)).settings = s.settings := (enterDefrost_frame _).2.1.trans settings'
  obtain ⟨-, period, targets, -⟩ := frostPeriod_judged s
  rw [enters] at period targets
  have flag (k : EventKind) : flagRaised t k = flagRaised (enterDefrost (escalating v s)) k := by
    rw [frostPeriod_flag, enters]
  obtain ⟨-, -, r', -, -, -, -, -, -, -, handed⟩ := frostPeriod_reads (congrArg guard enters)
  have judged : guard (judgePeriod s) = _ := (congrArg guard enters).trans (entered.trans (by rw [guarded, settings']))
  obtain ⟨mode', requested, -, cold', -, timer, limit, -⟩ := frostPeriod_reads judged
  have r'' : t.frost.r = (enterDefrost (escalating v s)).frost.r := r'
  have handed' : t.frost.dHanded = (enterDefrost (escalating v s)).frost.dHanded := handed
  refine ⟨mode', requested, cold', timer, limit, ?_, ?_, ?_, ?_, ?_, fun held => ?_⟩
  · rw [r'', handed', r, reductionNow, kept]
  · rw [r'', targets, governor]
  · rw [period, hold]
  · rw [period, runState, demand']
  · rw [flag, moved]
  · rw [flag, released (by rwa [demand'])]

/-- Six cold periods without it enter FROST STOP (R83, R90). -/
theorem frostPeriod_stops {s : State} {v : Int} (mode : s.frost.mode = .preheat)
    (running : s.frost.runSeen = .run) (run : s.demand.runState = .run) (present : channelValue s .tExh = some v)
    (cool : warmRun v s < 3) (cold : 6 ≤ coldRun v s) (short : s.governor.allowance < s.settings.aEnter) :
    let t := frostPeriod s
    t.frost.mode = .frostStop ∧ t.frost.requested = 0 ∧ t.frost.heaterOutput = 0 ∧ t.frost.r = 0
      ∧ t.governor.r = 0 ∧ t.frost.cold = 0 ∧ t.frost.warm = 0 ∧ t.frost.stopTimer = 0
      ∧ t.frost.stopLimit = s.settings.stopTime
      ∧ t.demand.runState = .frostStop ∧ t.demand.hold = none ∧ t.governor.tS = 0 ∧ t.governor.tE = 0
      ∧ t.frost.history = addEntry s.events.seconds s.frost.history
      ∧ (repeated t.frost.history = true → flagRaised t .frostRepeat = true) := by
  intro t
  have enters : judgePeriod s = enterFrostStop (escalating v s) :=
    (frostPeriod_preheat_escalates mode running present cool cold).trans (if_neg (by omega))
  obtain ⟨settings, demand, -, seconds, -⟩ := preheated_keeps v s
  have settings' : (escalating v s).settings = s.settings := settings
  have demand' : (escalating v s).demand = s.demand := demand
  have seconds' : (escalating v s).events.seconds = s.events.seconds := seconds
  have guarded := guard_escalating v s
  have from' : (escalating v s).frost.mode = .preheat := by simpa [mode] using congrArg FrostGuard.mode guarded
  have history' : (escalating v s).frost.history = s.frost.history := by
    simpa using congrArg FrostGuard.history guarded
  obtain ⟨-, thrice⟩ := enterFrostStop_reports (s := escalating v s) (by simp [from'])
  obtain ⟨-, governor, hold, stops⟩ := enterFrostStop_stops (escalating v s)
  obtain ⟨runState, tS, tE⟩ := stops (by rw [demand', run])
  have entered := guard_enterFrostStop (escalating v s)
  obtain ⟨-, period, targets, -⟩ := frostPeriod_judged s
  rw [enters] at period targets
  have judged : guard (judgePeriod s) = _ :=
    (congrArg guard enters).trans (entered.trans (by rw [frostStopped, settings', seconds', history']))
  obtain ⟨mode', requested, r, cold', warm, -, -, timer, limit, history, -⟩ := frostPeriod_reads judged
  obtain ⟨-, -, output⟩ := frostPeriod_cycle s
  refine ⟨mode', requested, ?_, r, ?_, cold', warm, timer, limit, ?_, ?_, ?_, ?_, history, fun three => ?_⟩
  · rw [output, requested]
    exact ite_self 0
  · rw [targets, governor]
  · rw [period, runState]
  · rw [period, hold]
  · rw [targets, tS]
  · rw [targets, tE]
  · rw [frostPeriod_flag, enters]
    refine thrice ?_
    rw [seconds', history']
    exact (congrArg repeated history).symm.trans three

/-- Three warm periods with no power return the guard to WATCH (R82). -/
theorem frostPeriod_warms {s : State} {v : Int} (mode : s.frost.mode = .preheat) (running : s.frost.runSeen = .run)
    (present : channelValue s .tExh = some v) (warm : 3 ≤ warmRun v s) :
    let t := frostPeriod s
    t.frost.mode = .watch ∧ t.frost.requested = 0 ∧ t.frost.cold = 0 ∧ t.frost.warm = 0 ∧ t.demand = s.demand := by
  intro t
  have returns : judgePeriod s = setFrostMode .watch (clearRuns (setRequested (askedPower v s) s)) := by
    rw [judgePeriod_preheat mode running present, preheatNormal_eq, if_pos warm]
  have zero : askedPower v s = 0 := by
    by_contra power
    rw [warmRun, if_neg fun both => power both.1] at warm
    omega
  have judged := (congrArg guard returns).trans (guard_setFrostMode _ _)
  rw [guard_clearRuns, guard_setRequested, zero] at judged
  obtain ⟨mode', requested, -, cold, warm', -⟩ := frostPeriod_reads judged
  obtain ⟨-, period, -⟩ := frostPeriod_judged s
  refine ⟨mode', requested, cold, warm', period.trans ?_⟩
  rw [returns]
  simp

/-- A period between both stays in PREHEAT (R81 to R83). -/
theorem frostPeriod_preheats {s : State} {v : Int} (mode : s.frost.mode = .preheat) (running : s.frost.runSeen = .run)
    (present : channelValue s .tExh = some v) (cool : warmRun v s < 3) (calm : coldRun v s < 6) :
    let t := frostPeriod s
    t.frost.mode = .preheat ∧ t.frost.requested = askedPower v s ∧ t.frost.cold = coldRun v s
      ∧ t.frost.warm = warmRun v s ∧ t.demand = s.demand := by
  intro t
  have stays : judgePeriod s = { preheated v s with frost := { (preheated v s).frost with cold := coldRun v s } } := by
    rw [judgePeriod_preheat mode running present, preheatNormal_eq, if_neg (by omega), judgeEscalation_preheated,
      if_neg (by omega)]
  have counted : guard { preheated v s with frost := { (preheated v s).frost with cold := coldRun v s } } =
      { guard (preheated v s) with cold := coldRun v s } := rfl
  obtain ⟨mode', requested, -, cold, warm, -⟩ :=
    frostPeriod_reads ((congrArg guard stays).trans (counted.trans (by rw [guard_preheated])))
  obtain ⟨-, period, -⟩ := frostPeriod_judged s
  exact ⟨mode'.trans mode, requested, cold, warm,
    (period.trans (congrArg State.demand stays)).trans (preheated_keeps v s).2.1⟩

/-! ### PREHEAT in its degraded form (R84) -/

/-- The warm run after a period in the degraded form (R84). -/
def degradedRun (v : Int) (s : State) : Nat :=
  if degradedPower s.settings v = 0 ∧ s.settings.tWatch + 10 ≤ v then s.frost.warm + 1 else 0

theorem guard_preheatDegraded (v : Int) (s : State) :
    guard (preheatDegraded v s) =
      { guard s with
        mode := if 3 ≤ degradedRun v s then .watch else s.frost.mode
        requested := degradedPower s.settings v, cold := 0
        warm := if 3 ≤ degradedRun v s then 0 else degradedRun v s } := by
  have asked := guard_setRequested (degradedPower s.settings v) s
  have run : runAfter ((setRequested (degradedPower s.settings v) s).frost.requested == 0
      && decide (s.settings.tWatch + 10 ≤ v)) (setRequested (degradedPower s.settings v) s).frost.warm =
        degradedRun v s := by
    simp [runAfter, degradedRun]
  unfold preheatDegraded
  dsimp only
  rw [run]
  generalize setRequested (degradedPower s.settings v) s = u at asked
  by_cases three : 3 ≤ degradedRun v s
  · simp only [three, if_true]
    rw [guard_setFrostMode, guard_clearRuns, asked]
  · simp only [three, if_false]
    have counted : guard { u with frost := { u.frost with cold := 0, warm := degradedRun v s } } =
        { guard u with cold := 0, warm := degradedRun v s } := rfl
    rw [counted, asked]
    rfl

theorem judgePeriod_degraded {s : State} {v : Int} (mode : s.frost.mode = .preheat) (running : s.frost.runSeen = .run)
    (absent : channelValue s .tExh = none) (present : channelValue s .tOut = some v) :
    judgePeriod s = preheatDegraded v s := by
  rw [judgePeriod_rule (.inl (by simp [bothAbsent, present]))]
  simp [stateRule, mode, running, preheatRule, present, absent]

/-! ### DEFROST (R86, R87) -/

/-- The power asked and R following D, before DEFROST is released. -/
def defrosted (v : Int) (s : State) : State := setRequested (askedPower v s) (setReduction (reductionNow s) s)

theorem judgePeriod_defrost {s : State} {v : Int} (mode : s.frost.mode = .defrost) (running : s.frost.runSeen = .run)
    (present : channelValue s .tExh = some v) :
    judgePeriod s = if s.settings.tRelease ≤ v then leaveDefrost (defrosted v s) else defrosted v s := by
  rw [judgePeriod_rule (.inl (by simp [bothAbsent, present]))]
  simp [stateRule, mode, running, defrostRule, present, defrosted, askedPower]

theorem guard_defrosted (v : Int) (s : State) :
    guard (defrosted v s) = { guard s with requested := askedPower v s, r := reductionNow s } := by
  unfold defrosted
  rw [guard_setRequested, guard_setReduction]

theorem defrosted_keeps (v : Int) (s : State) :
    (defrosted v s).demand = s.demand ∧ (defrosted v s).governor = { s.governor with r := reductionNow s } := by
  simp [defrosted, setReduction]

/-- Settles O38: each case by the lemma of its rule. -/
theorem frostPeriodEscalates : Obligations.FrostPeriodEscalates := by
  unfold Obligations.FrostPeriodEscalates
  intro s powered running inRun
  have run : exec .frostPeriod s = .next (frostPeriod s) := exec_powered powered rfl
  obtain ⟨-, period, targets, -⟩ := frostPeriod_judged s
  refine ⟨_, run, fun v present => ?_, fun v absent present mode => ?_⟩
  · intro power warm stuck cold

    refine ⟨fun mode three => frostPeriod_warms mode running present three,
      fun mode cool calm => frostPeriod_preheats mode running present cool calm,
      fun mode cool six allowed => ?_, fun mode cool six short => ?_, fun mode released => ?_, fun mode held => ?_⟩
    · have entered := frostPeriod_defrosts mode running present cool six allowed
      rwa [inRun] at entered
    · obtain ⟨mode', requested, output, r, governor, cold, warm, timer, limit, runState, hold, tS, tE, history, thrice⟩ :=
        frostPeriod_stops mode running inRun present cool six short
      refine ⟨mode', requested, output, r, governor, cold, warm, timer, limit, runState, hold, tS, tE, history,
        fun a b c three within => thrice ?_⟩
      rw [three]
      exact decide_eq_true within
    · have leaves := (judgePeriod_defrost mode running present).trans (if_pos released)
      obtain ⟨demand, -⟩ := defrosted_keeps v s
      obtain ⟨mode', requested, r, cold, warm, -⟩ := frostPeriod_reads
        ((congrArg guard leaves).trans ((guard_leaveDefrost _).trans (by rw [guard_defrosted])))
      refine ⟨mode', requested, r, ?_, cold, warm, ?_⟩
      · rw [targets, leaves, leaveDefrost_governor]
      · rw [period, leaves, (leaveDefrost_frame _).2.2.2.2.1, demand]
    · have stays := (judgePeriod_defrost mode running present).trans (if_neg (by omega))
      obtain ⟨demand, governor⟩ := defrosted_keeps v s
      obtain ⟨mode', requested, r, -⟩ := frostPeriod_reads ((congrArg guard stays).trans (guard_defrosted v s))
      refine ⟨mode'.trans mode, requested, r, ?_, ?_⟩
      · rw [targets, stays, governor]
        exact r.symm
      · rw [period, stays, demand]
  · intro power warm
    have degrades := judgePeriod_degraded mode running absent present
    obtain ⟨mode', requested, -, cold, warm', -⟩ :=
      frostPeriod_reads ((congrArg guard degrades).trans (guard_preheatDegraded v s))
    refine ⟨?_, requested, cold, fun three => ⟨mode'.trans (if_pos three), warm'.trans (if_pos three)⟩, fun cool => ?_⟩
    · rw [period, degrades, (preheatDegraded_frame v s).2.2.2.2.1]
    · have below : ¬3 ≤ degradedRun v s := Nat.not_le.mpr cool
      exact ⟨mode'.trans ((if_neg below).trans mode), warm'.trans (if_neg below)⟩

end Sys2Proof.Machine
end

section
/-! The course of a window end: its loop set, the unit perhaps stopped, the governor's step, the filter monitor. -/

namespace Sys2Proof.Machine

/-! ### The parts of the course (R29, R39) -/

/-- The loop as its own work of the window end leaves it. -/
def windowAfter (x : Stream) (s : State) : LoopRec :=
  windowLoop s.settings (s.settings.loops.get x) (loopPressure s x) (s.loops.get x)

/-- The loop set, and the occurrences of its transition placed. -/
def windowReported (x : Stream) (s : State) : State :=
  reportAll (loopReports x (s.loops.get x) (windowAfter x s)) (setLoop x (windowAfter x s) s)

/-- The window end fails the loop, in a run state that the failure ends (R37, R52). -/
def StopsUnit (x : Stream) (s : State) : Prop :=
  ((s.loops.get x).state ≠ .failed ∧ (windowAfter x s).state = .failed)
    ∧ s.demand.runState ≠ .smokeStop ∧ s.demand.runState ≠ .faultStop

/-- The transition with its reports. -/
def windowTold (x : Stream) (s : State) : State :=
  reportTransition x (s.loops.get x) (windowAfter x s) (setLoop x (windowAfter x s) s)

/-- After the readers other than the filter monitor. -/
def windowStepped (x : Stream) (s : State) : State :=
  if x = .supply then reevaluate (governorStep (windowTold x s)) else windowTold x s

theorem windowEnd_eq (x : Stream) (s : State) :
    windowEnd x s =
      filterPost (.windowEnd x (windowFigures x ((windowTold x s).loops.get x) (windowStepped x s))) (windowStepped x s) :=
  rfl

theorem loopFailedReport_stops {s : State} (live : s.demand.runState ≠ .smokeStop ∧ s.demand.runState ≠ .faultStop) :
    loopFailedReport s = changeRunState .faultStop s := by
  obtain ⟨smoke, fault⟩ := live
  unfold loopFailedReport
  cases runState : s.demand.runState with
  | startup | run | rest | frostStop => rfl
  | smokeStop => exact absurd runState smoke
  | faultStop => exact absurd runState fault

theorem loopFailedReport_stands {s : State} (stopped : ¬(s.demand.runState ≠ .smokeStop ∧ s.demand.runState ≠ .faultStop)) :
    loopFailedReport s = s := by
  unfold loopFailedReport
  cases runState : s.demand.runState with
  | smokeStop | faultStop => rfl
  | startup | run | rest | frostStop => exact absurd ⟨by simp [runState], by simp [runState]⟩ stopped

@[simp] theorem windowReported_keeps (x : Stream) (s : State) :
    (windowReported x s).loops = s.loops.set x (windowAfter x s) ∧ (windowReported x s).demand = s.demand
      ∧ (windowReported x s).governor = s.governor ∧ (windowReported x s).frost = s.frost
      ∧ (windowReported x s).filter = s.filter ∧ (windowReported x s).settings = s.settings := by
  simp [windowReported]

/-- A failure stops the unit before the loop's change of state is told (R29, R37). -/
theorem windowTold_stops {x : Stream} {s : State} (stops : StopsUnit x s) :
    windowTold x s =
      reportLoopChange x (s.loops.get x).state (windowAfter x s).state (changeRunState .faultStop (windowReported x s)) := by
  obtain ⟨fails, live⟩ := stops
  have failed : loopFailedReport (windowReported x s) = changeRunState .faultStop (windowReported x s) :=
    loopFailedReport_stops (by simpa using live)
  rw [← failed]
  unfold windowTold reportTransition
  dsimp only
  rw [if_pos fails]
  rfl

theorem windowTold_stands {x : Stream} {s : State} (stands : ¬StopsUnit x s) :
    windowTold x s = reportLoopChange x (s.loops.get x).state (windowAfter x s).state (windowReported x s) := by
  unfold windowTold reportTransition
  dsimp only
  by_cases fails : (s.loops.get x).state ≠ .failed ∧ (windowAfter x s).state = .failed
  · have stood : loopFailedReport (windowReported x s) = windowReported x s :=
      loopFailedReport_stands (by simpa using fun live => stands ⟨fails, live⟩)
    rw [if_pos fails]
    exact congrArg (reportLoopChange x (s.loops.get x).state (windowAfter x s).state) stood
  · rw [if_neg fails]
    rfl

/-! ### Loops, run state and governor -/

theorem changeRunState_faultStop {s : State} (live : s.demand.runState ≠ .faultStop) :
    (changeRunState .faultStop s).loops = ⟨offeredLoop 0 s.loops.supply, offeredLoop 0 s.loops.extract⟩
      ∧ (changeRunState .faultStop s).demand.runState = .faultStop
      ∧ (changeRunState .faultStop s).governor.tS = 0 ∧ (changeRunState .faultStop s).governor.tE = 0 := by
  have change : RunState.faultStop ≠ s.demand.runState := live.symm
  have governor := changeRunStateWith_governor change []
  refine ⟨(changeRunStateWith_loops change []).trans (if_neg (by simp)), ?_,
    congrArg Governor.tS governor, congrArg Governor.tE governor⟩
  exact congrArg Demand.runState (changeRunStateWith_demand [])

theorem windowTold_stopped {x : Stream} {s : State} (stops : StopsUnit x s) :
    (∀ y, (windowTold x s).loops.get y = offeredLoop 0 ((s.loops.set x (windowAfter x s)).get y))
      ∧ (windowTold x s).demand.runState = .faultStop
      ∧ (windowTold x s).governor.tS = 0 ∧ (windowTold x s).governor.tE = 0 := by
  obtain ⟨reported, demand, -⟩ := windowReported_keeps x s
  obtain ⟨loops, runState, tS, tE⟩ := changeRunState_faultStop (s := windowReported x s) (by rw [demand]; exact stops.2.2)
  rw [windowTold_stops stops]
  obtain ⟨demand', governor', -⟩ := reportLoopChange_keeps x (s.loops.get x).state (windowAfter x s).state
    (changeRunState .faultStop (windowReported x s))
  refine ⟨fun y => ?_, by rw [demand', runState], by rw [governor', tS], by rw [governor', tE]⟩
  rw [(reportLoopChange_frame x _ _ _).2.2.2.1, loops, reported]
  cases y <;> rfl

theorem windowTold_kept {x : Stream} {s : State} (stands : ¬StopsUnit x s) :
    (windowTold x s).loops = s.loops.set x (windowAfter x s) ∧ (windowTold x s).demand = s.demand
      ∧ (windowTold x s).governor = s.governor ∧ (windowTold x s).settings = s.settings := by
  obtain ⟨loops, demand, governor, -, -, settings⟩ := windowReported_keeps x s
  rw [windowTold_stands stands]
  obtain ⟨demand', governor', -⟩ := reportLoopChange_keeps x (s.loops.get x).state (windowAfter x s).state
    (windowReported x s)
  exact ⟨(reportLoopChange_frame x _ _ _).2.2.2.1.trans loops, demand'.trans demand, governor'.trans governor,
    (reportLoopChange_frame x _ _ _).2.1.trans settings⟩

/-- Outside RUN the governor's step offers nothing (R67). -/
theorem stepSetTargets_idle {s : State} (idle : s.demand.runState ≠ .run) : stepSetTargets s = s := if_neg idle

theorem stepSetTargets_run {s : State} (run : s.demand.runState = .run) :
    stepSetTargets s = setTargets (stepTargets s).supply.toNat (stepTargets s).extract.toNat s := if_pos run

theorem governorStep_loops (s : State) : (governorStep s).loops = (stepSetTargets s).loops := by simp [governorStep]

theorem governorStep_demand (s : State) : (governorStep s).demand = s.demand := by
  have judged : (governorStep s).demand = (stepSetTargets s).demand := by simp [governorStep]
  rw [judged]
  by_cases run : s.demand.runState = .run
  · rw [stepSetTargets_run run]
    exact (setTargets_keeps _ _ s).1
  · rw [stepSetTargets_idle run]

/-- The monitor's work before a capture passes to RUN is on the monitor alone. -/
theorem filterWindowEnd_counted (x : Stream) (w : WindowFigures) (s : State) :
    ∃ f, f.capture = countedCapture x (sampledCapture x w s.filter.capture)
      ∧ filterWindowEnd x w s = passToRun w.onTarget { s with filter := f } := by
  unfold filterWindowEnd sampledCapture
  dsimp only
  rw [countWindow_eq, accrueVolume_eq]
  cases pressureSample w <;> exact ⟨_, rfl, rfl⟩

/-- What the monitor's work of a window end leaves of the other blocks: D may be handed on, when a capture passes to
RUN (R115). -/
theorem windowPosted_keeps (x : Stream) (w : WindowFigures) (s : State) :
    (filterPost (.windowEnd x w) s).loops = s.loops
      ∧ (filterPost (.windowEnd x w) s).demand =
          { s.demand with
            captureInForce := (filterPost (.windowEnd x w) s).demand.captureInForce
            d := (filterPost (.windowEnd x w) s).demand.d }
      ∧ (filterPost (.windowEnd x w) s).governor =
          { s.governor with r := (filterPost (.windowEnd x w) s).governor.r }
      ∧ (filterPost (.windowEnd x w) s).frost =
          { s.frost with
            dHanded := (filterPost (.windowEnd x w) s).frost.dHanded, r := (filterPost (.windowEnd x w) s).frost.r }
      ∧ (filterPost (.windowEnd x w) s).events = s.events := by
  refine ⟨by simp, ?_⟩
  unfold filterPost
  split
  · exact ⟨rfl, rfl, rfl, rfl⟩
  · obtain ⟨f, -, counted⟩ := filterWindowEnd_counted x w s
    have taken : filterTake (.windowEnd x w) s = passToRun w.onTarget { s with filter := f } := counted
    rw [taken]
    unfold passToRun captureReport
    dsimp only
    split
    · simp [recomputeDemand_eq]
    · exact ⟨rfl, rfl, rfl, rfl⟩

/-! ### The window end as a whole -/

/-- A window end that stops the unit leaves both loops offered 0, in FAULT STOP (R52, R67). -/
theorem windowEnd_stopped {x : Stream} {s : State} (stops : StopsUnit x s) :
    (∀ y, (windowEnd x s).loops.get y = offeredLoop 0 ((s.loops.set x (windowAfter x s)).get y))
      ∧ (windowEnd x s).demand.runState = .faultStop
      ∧ (windowEnd x s).governor.tS = 0 ∧ (windowEnd x s).governor.tE = 0 := by
  obtain ⟨loops, runState, tS, tE⟩ := windowTold_stopped stops
  have idle : (windowTold x s).demand.runState ≠ .run := by simp [runState]
  obtain ⟨loops', demand', governor', -⟩ := windowPosted_keeps x
    (windowFigures x ((windowTold x s).loops.get x) (windowStepped x s)) (windowStepped x s)
  rw [← windowEnd_eq] at loops' demand' governor'
  have stepped : (windowStepped x s).loops = (windowTold x s).loops
      ∧ (windowStepped x s).demand = (windowTold x s).demand
      ∧ (windowStepped x s).governor.tS = 0 ∧ (windowStepped x s).governor.tE = 0 := by
    unfold windowStepped
    split
    · obtain ⟨tS', tE'⟩ := judgeAllowance_targets (stepSetTargets (windowTold x s))
      rw [stepSetTargets_idle idle] at tS' tE'
      refine ⟨?_, ?_, ?_, ?_⟩
      · simp [governorStep_loops, stepSetTargets_idle idle]
      · simp [governorStep_demand]
      · rw [(reevaluate_frame _).2.2.2.2.2.1, governorStep, stepSetTargets_idle idle, tS', tS]
      · rw [(reevaluate_frame _).2.2.2.2.2.1, governorStep, stepSetTargets_idle idle, tE', tE]
    · exact ⟨rfl, rfl, tS, tE⟩
  obtain ⟨loops'', demand'', tS'', tE''⟩ := stepped
  refine ⟨fun y => by rw [loops', loops'', loops], ?_, ?_, ?_⟩
  · rw [demand', demand'', runState]
  · rw [governor', tS'']
  · rw [governor', tE'']

/-- Any other window end keeps the run state; in RUN that of loop S offers the targets of the governor's step (R65). -/
theorem windowEnd_kept {x : Stream} {s : State} (stands : ¬StopsUnit x s) :
    (windowEnd x s).demand.runState = s.demand.runState ∧ (windowEnd x s).demand.hold = s.demand.hold
      ∧ (¬(x = .supply ∧ s.demand.runState = .run) →
          (windowEnd x s).loops = s.loops.set x (windowAfter x s) ∧ (windowEnd x s).governor.tS = s.governor.tS
            ∧ (windowEnd x s).governor.tE = s.governor.tE)
      ∧ (x = .supply → s.demand.runState = .run →
          let targets := bothOrNeither (ceilingMatch s.settings (s.loops.set x (windowAfter x s))
            (rawTargets s.demand.d s.settings.offset s.governor.r))
          (windowEnd x s).governor.tS = targets.supply.toNat ∧ (windowEnd x s).governor.tE = targets.extract.toNat
            ∧ (windowEnd x s).loops =
                ⟨offeredLoop targets.supply.toNat (s.loops.set x (windowAfter x s)).supply,
                  offeredLoop targets.extract.toNat (s.loops.set x (windowAfter x s)).extract⟩) := by
  obtain ⟨loops, demand, governor, settings⟩ := windowTold_kept stands
  obtain ⟨loops', demand', governor', -⟩ := windowPosted_keeps x
    (windowFigures x ((windowTold x s).loops.get x) (windowStepped x s)) (windowStepped x s)
  rw [← windowEnd_eq] at loops' demand' governor'
  have stepped : (windowStepped x s).demand = s.demand := by
    unfold windowStepped
    split
    · rw [(reevaluate_frame _).2.2.2.2.1, governorStep_demand, demand]
    · exact demand
  refine ⟨by rw [demand', stepped], by rw [demand', stepped], fun idle => ?_, fun supply run => ?_⟩
  · have still : (windowStepped x s).loops = (windowTold x s).loops
        ∧ (windowStepped x s).governor.tS = s.governor.tS ∧ (windowStepped x s).governor.tE = s.governor.tE := by
      unfold windowStepped
      split
      next supply =>
        have stopped : (windowTold x s).demand.runState ≠ .run := fun run => idle ⟨supply, by rwa [demand] at run⟩
        obtain ⟨tS', tE'⟩ := judgeAllowance_targets (stepSetTargets (windowTold x s))
        rw [stepSetTargets_idle stopped] at tS' tE'
        refine ⟨?_, ?_, ?_⟩
        · simp [governorStep_loops, stepSetTargets_idle stopped]
        · rw [(reevaluate_frame _).2.2.2.2.2.1, governorStep, stepSetTargets_idle stopped, tS', governor]
        · rw [(reevaluate_frame _).2.2.2.2.2.1, governorStep, stepSetTargets_idle stopped, tE', governor]
      next => exact ⟨rfl, by rw [governor], by rw [governor]⟩
    obtain ⟨loops'', tS, tE⟩ := still
    exact ⟨by rw [loops', loops'', loops], by rw [governor', tS], by rw [governor', tE]⟩
  · intro targets
    have running : (windowTold x s).demand.runState = .run := by rw [demand, run]
    have taken : stepTargets (windowTold x s) = targets := by rw [stepTargets, settings, loops, demand, governor]
    have step : windowStepped x s = reevaluate (governorStep (windowTold x s)) := if_pos supply
    obtain ⟨tS, tE⟩ := judgeAllowance_targets (stepSetTargets (windowTold x s))
    obtain ⟨-, set, -⟩ := setTargets_keeps targets.supply.toNat targets.extract.toNat (windowTold x s)
    rw [stepSetTargets_run running, taken] at tS tE
    rw [set] at tS tE
    refine ⟨?_, ?_, ?_⟩
    · rw [governor', step, (reevaluate_frame _).2.2.2.2.2.1, governorStep, stepSetTargets_run running, taken, tS]
    · rw [governor', step, (reevaluate_frame _).2.2.2.2.2.1, governorStep, stepSetTargets_run running, taken, tE]
    · rw [loops', step, (reevaluate_frame _).2.2.2.1, governorStep_loops, stepSetTargets_run running, taken,
        setTargets_loops, loops]

end Sys2Proof.Machine
end

section
/-! The targets of the governor's step, and the unit stopped by a third stall (O28, O27). -/

namespace Sys2Proof.Machine

/-! ### The targets (R65, R66) -/

/-- A target offered leaves the measured figures and the AT CEILING mark (R38). -/
@[simp] theorem offeredLoop_measured (target : Nat) (l : LoopRec) :
    (offeredLoop target l).flow = l.flow ∧ (offeredLoop target l).atCeiling = l.atCeiling := by
  unfold offeredLoop zeroTarget stopped
  split
  · cases l.state <;> exact ⟨rfl, rfl⟩
  · exact ⟨rfl, rfl⟩

theorem clampInt_bounds {v lo hi : Int} (order : lo ≤ hi) : lo ≤ clampInt v lo hi ∧ clampInt v lo hi ≤ hi := by
  unfold clampInt
  omega

theorem bothOrNeither_eq (t : Targets) :
    (bothOrNeither t).supply = (if (t.supply = 0 ∧ 0 < t.extract) ∨ (t.extract = 0 ∧ 0 < t.supply) then 0 else t.supply)
      ∧ (bothOrNeither t).extract =
          (if (t.supply = 0 ∧ 0 < t.extract) ∨ (t.extract = 0 ∧ 0 < t.supply) then 0 else t.extract) := by
  unfold bothOrNeither
  split <;> exact ⟨rfl, rfl⟩

/-- No step asks a flow below 0 (R65, R66). -/
theorem ceilingMatch_nonneg (set : Settings) (loops : PerStream LoopRec) (d : Nat) (offset : Int) (r : Nat) :
    0 ≤ (ceilingMatch set loops (rawTargets d offset r)).supply
      ∧ 0 ≤ (ceilingMatch set loops (rawTargets d offset r)).extract := by
  obtain ⟨supply, -⟩ := clampInt_bounds (v := (d : Int) + offset - r) (lo := 0) (hi := 2500) (by omega)
  obtain ⟨extract, -⟩ := clampInt_bounds (v := (d : Int)) (lo := 0) (hi := 2500) (by omega)
  unfold ceilingMatch rawTargets
  dsimp only
  constructor <;> split <;> omega

/-- Settles O28: in RUN the step's own targets, which the state shows by the AT CEILING marks and flows it leaves. -/
theorem governorFormsTargets : Obligations.GovernorFormsTargets := by
  unfold Obligations.GovernorFormsTargets
  intro s powered
  have exec : exec (.windowEnd .supply) s = .next (windowEnd .supply s) :=
    exec_powered (f := windowEnd .supply) powered rfl
  refine ⟨_, exec, fun idle noS noE => ?_, fun run stays => ?_⟩
  · by_cases stops : StopsUnit .supply s
    · obtain ⟨-, -, tS, tE⟩ := windowEnd_stopped stops
      exact ⟨tS, tE⟩
    · obtain ⟨-, -, still, -⟩ := windowEnd_kept stops
      obtain ⟨-, tS, tE⟩ := still fun both => idle both.2
      exact ⟨tS.trans noS, tE.trans noE⟩
  · have stands : ¬StopsUnit .supply s := by
      intro stops
      obtain ⟨-, runState, -⟩ := windowEnd_stopped stops
      simp [runState] at stays
    obtain ⟨-, -, -, step⟩ := windowEnd_kept stands
    obtain ⟨tS, tE, loops⟩ := step rfl run
    obtain ⟨nonS, nonE⟩ := ceilingMatch_nonneg s.settings (s.loops.set .supply (windowAfter .supply s)) s.demand.d
      s.settings.offset s.governor.r
    obtain ⟨supply, extract⟩ := bothOrNeither_eq (ceilingMatch s.settings (s.loops.set .supply (windowAfter .supply s))
      (rawTargets s.demand.d s.settings.offset s.governor.r))
    have ceiling : (windowEnd .supply s).loops.supply.atCeiling = (windowAfter .supply s).atCeiling := by
      rw [loops]
      exact (offeredLoop_measured _ _).2
    have flow : (windowEnd .supply s).loops.supply.flow = (windowAfter .supply s).flow := by
      rw [loops]
      exact (offeredLoop_measured _ _).1
    intro set rawS rawE limS limE none'
    have forms : ceilingMatch s.settings (s.loops.set .supply (windowAfter .supply s))
        (rawTargets s.demand.d s.settings.offset s.governor.r) = ⟨limS, limE⟩ := by
      simp only [limE, ceiling, flow]
      rfl
    rw [forms] at nonS nonE supply extract tS tE loops
    have whole (v : Int) (above : 0 ≤ v) (p : Prop) [Decidable p] : ((if p then 0 else v).toNat : Int) = if p then 0 else v := by
      split <;> omega
    refine ⟨?_, ?_, ?_, ?_⟩
    · rw [tS, supply]
      exact whole limS nonS _
    · rw [tE, extract]
      exact whole limE nonE _
    · rw [tS, loops]
      exact offeredLoop_offered _ _
    · rw [tE, loops]
      exact offeredLoop_offered _ _

/-! ### The unit stopped (R52) -/

/-- No power is asked and none is put out. -/
def Cold (s : State) : Prop := s.frost.requested = 0 ∧ s.frost.heaterOutput = 0

theorem reevaluate_cold {s : State} (cold : Cold s) : Cold (reevaluate s) := by
  obtain ⟨output, -, requested, -⟩ := reevaluate_frost s
  exact ⟨requested.trans cold.1, output.trans (by rw [cold.1, ite_self])⟩

theorem reportLoopChange_cold {x : Stream} {before after : LoopState} {s : State} (cold : Cold s) :
    Cold (reportLoopChange x before after s) := by
  have posted : Cold (filterPost (.loopChange x before after) s) := by
    rw [Cold, (filterPost_loopChange_eq x before after s).1]
    exact cold
  unfold reportLoopChange
  split
  · exact cold
  · dsimp only
    split
    · exact reevaluate_cold posted
    · exact posted

theorem judgeAllowance_cold {s : State} (cold : Cold s) : Cold (judgeAllowance s) := by
  unfold judgeAllowance
  split
  · rw [chargeAllowance_eq]
    split
    · exact (by simpa [Cold, exhausted] using cold)
    · exact cold
  · exact cold

theorem windowStepped_cold {x : Stream} {s : State} (idle : (windowTold x s).demand.runState ≠ .run)
    (cold : Cold (windowTold x s)) : Cold (windowStepped x s) := by
  unfold windowStepped governorStep
  rw [stepSetTargets_idle idle]
  split
  · exact reevaluate_cold (judgeAllowance_cold cold)
  · exact cold

theorem changeRunState_faultStop_cold {s : State} (live : s.demand.runState ≠ .faultStop) :
    Cold (changeRunState .faultStop s) := by
  have change : RunState.faultStop ≠ s.demand.runState := live.symm
  refine ⟨?_, changeRunStateWith_output change (by simp) []⟩
  have handed := changeRunStateWith_handed change []
  have rested : guard (runStateEntered .faultStop s) = _ := guard_runStateEntered_rests rfl s
  have entered : (runStateEntered .faultStop s).frost.requested = 0 := by
    simpa using congrArg FrostGuard.requested rested
  have kept := congrArg FrostGuard.requested handed.guard
  simp only [guard_reads] at kept
  exact kept.trans entered

/-- The window end that stops the unit leaves no heat, and in RUN no hold (R46, R52, R75). -/
theorem windowEnd_stopped_cold {x : Stream} {s : State} (stops : StopsUnit x s) :
    Cold (windowEnd x s) ∧ (s.demand.runState = .run → (windowEnd x s).demand.hold = none) := by
  obtain ⟨-, runState, -⟩ := windowTold_stopped stops
  obtain ⟨-, demand, -⟩ := windowReported_keeps x s
  have live : (windowReported x s).demand.runState ≠ .faultStop := by
    rw [demand]
    exact stops.2.2
  have told : Cold (windowTold x s) := by
    rw [windowTold_stops stops]
    exact reportLoopChange_cold (changeRunState_faultStop_cold live)
  have stepped := windowStepped_cold (by simp [runState]) told
  obtain ⟨-, demand', -, frost', -⟩ := windowPosted_keeps x
    (windowFigures x ((windowTold x s).loops.get x) (windowStepped x s)) (windowStepped x s)
  rw [← windowEnd_eq] at demand' frost'
  refine ⟨?_, fun run => ?_⟩
  · rw [Cold, frost']
    exact stepped
  · have same : (windowStepped x s).demand = (windowTold x s).demand := by
      unfold windowStepped
      split
      · rw [(reevaluate_frame _).2.2.2.2.1, governorStep_demand]
      · rfl
    have changed := changeRunStateWith_demand (rs := .faultStop) (s := windowReported x s) []
    have hold : (windowTold x s).demand.hold = none := by
      rw [windowTold_stops stops, (reportLoopChange_keeps x _ _ _).1, changeRunState, changed]
      simp [run]
    rw [demand', same, hold]

/-- What follows the loop's occurrences at a window end. -/
theorem windowReported_cascade (x : Stream) (s : State) : Cascade True (windowReported x s) (windowEnd x s) := by
  have told : Cascade True (windowReported x s) (windowTold x s) := by
    by_cases stops : StopsUnit x s
    · rw [windowTold_stops stops]
      exact (changeRunStateWith_cascade _ _ _).trans (reportLoopChange_cascade _ _ _ _)
    · rw [windowTold_stands stops]
      exact reportLoopChange_cascade _ _ _ _
  exact told.trans (handWindowEnd_cascade _ _)

/-- The occurrences of the loop's transition are raised (R42, R43). -/
theorem windowEnd_raises {x : Stream} {s : State} {k : EventKind} {src : Source}
    (placed : (k, src) ∈ loopReports x (s.loops.get x) (windowAfter x s)) : flagRaised (windowEnd x s) k = true :=
  (windowReported_cascade x s).flag (reportAll_flagRaised _ k src _ placed)

/-! ### A third stall (R31, R36, R37) -/

theorem windowAfter_third_stall {x : Stream} {s : State} (starting : (s.loops.get x).state = .starting)
    (stalls : (s.loops.get x).stallCount = 2) (time : 2000 ≤ (s.loops.get x).startTime + (s.loops.get x).window)
    (still : (s.loops.get x).edges < 2) :
    (windowAfter x s).state = .failed ∧ (windowAfter x s).drive = 0 ∧ (windowAfter x s).stallCount = 3
      ∧ (windowAfter x s).latch = true ∧ (windowAfter x s).failReport = true := by
  have ended : ¬(saturate 2000 ((s.loops.get x).startTime + (s.loops.get x).window) < 2000) := by
    rw [saturate]
    omega
  simp [windowAfter, windowLoop, judgeLatch, transition, updateDrive, measureWindow, starting, running, startingEnd,
    ended, speedOf, still, enterStall, stalls]

theorem offeredLoop_zero_failed {l : LoopRec} (failed : l.state = .failed) :
    offeredLoop 0 l = { l with offered := 0, taken := 0, speedTarget := 0 } := by
  simp [offeredLoop, zeroTarget, failed]

/-- Settles O27: the third stall fails the loop, and a failure in RUN stops the unit. -/
theorem thirdStallStopsTheUnit : Obligations.ThirdStallStopsTheUnit := by
  unfold Obligations.ThirdStallStopsTheUnit
  intro x s powered run starting stalls time still
  have exec : exec (.windowEnd x) s = .next (windowEnd x s) := exec_powered (f := windowEnd x) powered rfl
  obtain ⟨failed, drive, count, latch, mark⟩ := windowAfter_third_stall starting stalls time still
  have stops : StopsUnit x s := ⟨⟨by simp [starting], failed⟩, by simp [run], by simp [run]⟩
  obtain ⟨loops, runState, tS, tE⟩ := windowEnd_stopped stops
  obtain ⟨⟨requested, output⟩, hold⟩ := windowEnd_stopped_cold stops
  have own : (windowEnd x s).loops.get x = { windowAfter x s with offered := 0, taken := 0, speedTarget := 0 } := by
    rw [loops, PerStream.get_set_same, offeredLoop_zero_failed failed]
  refine ⟨_, exec, ?_, ?_, ?_, ?_, ?_, windowEnd_raises (src := .fan x) ?_, runState, hold run, tS, tE, fun y other live => ?_,
    output, requested⟩
  · rw [own, failed]
  · rw [own, drive]
  · rw [own, count]
  · rw [own, latch]
  · rw [own, mark]
  · simp [loopReports, starting, failed]
  · left
    rw [loops, PerStream.get_set_other _ _ other]
    cases state : (s.loops.get y).state <;> simp_all [offeredLoop, zeroTarget, stopped]

end Sys2Proof.Machine
end

section
/-! What one window end can do to its loop (R29 to R37), stated once. -/

namespace Sys2Proof.Machine

/-- The loop with its no-edge run judged (R35). -/
def edgeJudged (c : LoopSettings) (l : LoopRec) : LoopRec := { l with noEdge := noEdgeAfter c l }

/-- The in-band run of a window end (R28). -/
def bandRun (b : LockBand) (l : LoopRec) : Nat := runAfter (windowInBand b l) l.inBand

/-- The out-of-band run of a window end (R28). -/
def offBandRun (b : LockBand) (l : LoopRec) : Nat := runAfter (!windowInBand b l) l.outBand

/-- The transitions of a loop whose no-edge run is judged, with the conditions of each. -/
inductive Transits (b : LockBand) (c : LoopSettings) (before : Nat) (l : LoopRec) : LoopRec → Prop
  | stall (moving : running l.state = true ∨ l.state = .starting)
      (due : if l.state = .starting then 2000 ≤ l.startTime ∧ l.speed = 0 else 3 ≤ l.noEdge) :
      Transits b c before l (enterStall l)
  | rest (state : l.state = .stopped) (asked : l.taken = 0) : Transits b c before l l
  | start (state : l.state = .stopped) (asked : 0 < l.taken) : Transits b c before l (enterStarting c l)
  | spinUp (state : l.state = .starting) (time : l.startTime < 2000) : Transits b c before l l
  | turn (state : l.state = .starting) (time : 2000 ≤ l.startTime) (speed : 0 < l.speed) :
      Transits b c before l { l with state := .settling, inBand := 0, settling := 0, noEdge := 0 }
  | settle (state : l.state = .settling) (edges : l.noEdge < 3) (band : bandRun b l < 3) (count : l.settling + 1 < 20) :
      Transits b c before l { l with settling := l.settling + 1, inBand := bandRun b l }
  | settleLock (state : l.state = .settling) (edges : l.noEdge < 3) (band : 3 ≤ bandRun b l) :
      Transits b c before l (enterLocked { l with settling := l.settling + 1, inBand := bandRun b l })
  | settleLate (state : l.state = .settling) (edges : l.noEdge < 3) (band : bandRun b l < 3)
      (count : 20 ≤ l.settling + 1) :
      Transits b c before l (enterUnlocked { l with settling := l.settling + 1, inBand := bandRun b l })
  | moved (state : l.state = .locked) (edges : l.noEdge < 3) (target : targetMoved b before l = true) :
      Transits b c before l (resettle l)
  | hold (state : l.state = .locked) (edges : l.noEdge < 3) (target : targetMoved b before l = false)
      (off : offBandRun b l < 2) : Transits b c before l { l with outBand := offBandRun b l }
  | unlock (state : l.state = .locked) (edges : l.noEdge < 3) (target : targetMoved b before l = false)
      (off : 2 ≤ offBandRun b l) : Transits b c before l (enterUnlocked { l with outBand := offBandRun b l })
  | seek (state : l.state = .unlocked) (edges : l.noEdge < 3) (band : bandRun b l < 3) :
      Transits b c before l { l with inBand := bandRun b l }
  | relock (state : l.state = .unlocked) (edges : l.noEdge < 3) (band : 3 ≤ bandRun b l) :
      Transits b c before l (enterLocked { l with inBand := bandRun b l })
  | pause (state : l.state = .stalled) (time : l.pauseTime < 10000) : Transits b c before l l
  | restart (state : l.state = .stalled) (time : 10000 ≤ l.pauseTime) (asked : 0 < l.taken) :
      Transits b c before l (enterStarting c l)
  | giveUp (state : l.state = .stalled) (time : 10000 ≤ l.pauseTime) (asked : l.taken = 0) :
      Transits b c before l { l with state := .stopped, noEdge := 0 }
  | failed (state : l.state = .failed) : Transits b c before l { l with failReport := true }

section
variable (b : LockBand) (c : LoopSettings) (before : Nat) {l : LoopRec}

theorem stoppedEnd_transits (state : l.state = .stopped) : Transits b c before l (stoppedEnd c l) := by
  unfold stoppedEnd
  split
  next asked => exact .start state asked
  next idle => exact .rest state (by omega)

theorem startingEnd_transits (state : l.state = .starting) : Transits b c before l (startingEnd l) := by
  unfold startingEnd
  split
  next early => exact .spinUp state early
  next late =>
    split
    next turns => exact .turn state (by omega) turns
    next still => exact .stall (.inr state) (by rw [if_pos state]; omega)

theorem settlingEnd_transits (state : l.state = .settling) (edges : l.noEdge < 3) :
    Transits b c before l (settlingEnd b l) := by
  unfold settlingEnd
  dsimp only
  split
  next locks => exact .settleLock state edges locks
  next =>
    split
    next late => exact .settleLate state edges (by unfold bandRun; omega) late
    next => exact .settle state edges (by unfold bandRun; omega) (by omega)

theorem lockedEnd_transits (state : l.state = .locked) (edges : l.noEdge < 3) :
    Transits b c before l (lockedEnd b before l) := by
  unfold lockedEnd
  split
  next moves => exact .moved state edges moves
  next stays =>
    dsimp only
    split
    next unlocks => exact .unlock state edges (by simpa using stays) unlocks
    next => exact .hold state edges (by simpa using stays) (by unfold offBandRun; omega)

theorem unlockedEnd_transits (state : l.state = .unlocked) (edges : l.noEdge < 3) :
    Transits b c before l (unlockedEnd b l) := by
  unfold unlockedEnd
  dsimp only
  split
  next locks => exact .relock state edges locks
  next => exact .seek state edges (by unfold bandRun; omega)

theorem stalledEnd_transits (state : l.state = .stalled) : Transits b c before l (stalledEnd c l) := by
  unfold stalledEnd
  split
  next early => exact .pause state early
  next late =>
    split
    next asked => exact .restart state (by omega) asked
    next => exact .giveUp state (by omega) (by omega)

/-- A transition is one of those listed. -/
theorem transition_transits (l : LoopRec) : Transits b c before (edgeJudged c l) (transition b c before l) := by
  have state : (edgeJudged c l).state = l.state := rfl
  unfold transition
  dsimp only
  by_cases stalls : (running l.state && decide (3 ≤ noEdgeAfter c l)) = true
  · rw [if_pos stalls]
    rw [Bool.and_eq_true, decide_eq_true_eq] at stalls
    refine .stall (.inl stalls.1) ?_
    have runs : l.state ≠ .starting := by
      intro starting
      simp [starting, running] at stalls
    exact (if_neg runs).mpr stalls.2
  · rw [if_neg stalls]
    have edges (runs : running l.state = true) : (edgeJudged c l).noEdge < 3 := by
      simpa [runs, edgeJudged] using stalls
    split
    next found => exact stoppedEnd_transits (l := edgeJudged c l) b c before found
    next found => exact startingEnd_transits (l := edgeJudged c l) b c before found
    next found => exact settlingEnd_transits (l := edgeJudged c l) b c before found (edges (by simp [found, running]))
    next found => exact lockedEnd_transits (l := edgeJudged c l) b c before found (edges (by simp [found, running]))
    next found => exact unlockedEnd_transits (l := edgeJudged c l) b c before found (edges (by simp [found, running]))
    next found => exact stalledEnd_transits (l := edgeJudged c l) b c before found
    next found => exact .failed (l := edgeJudged c l) found

end

/-! ### What each transition leaves -/

section
variable {b : LockBand} {c : LoopSettings} {before : Nat} {l r : LoopRec}

theorem enterStall_state (l : LoopRec) : (enterStall l).state = if 3 ≤ l.stallCount + 1 then .failed else .stalled := by
  unfold enterStall
  split <;> rfl

theorem enterStall_leaves (l : LoopRec) :
    (enterStall l).drive = 0 ∧ (enterStall l).atCeiling = false ∧ (enterStall l).noEdge = 0
      ∧ (enterStall l).latch = true ∧ (enterStall l).startTime = l.startTime ∧ (enterStall l).inBand = l.inBand
      ∧ (enterStall l).outBand = l.outBand ∧ (enterStall l).settling = l.settling := by
  unfold enterStall
  split <;> exact ⟨rfl, rfl, rfl, rfl, rfl, rfl, rfl, rfl⟩

/-- A stall leaves a state other than the one it begins in, since it begins in STARTING or a running state. -/
theorem enterStall_moves (moving : running l.state = true ∨ l.state = .starting) :
    LoopState.failed ≠ l.state ∧ LoopState.stalled ≠ l.state
      ∧ ((enterStall l).state = .failed ∧ (enterStall l).stallCount = 3 ∧ (enterStall l).failReport = true
            ∧ (enterStall l).pauseTime = l.pauseTime
          ∨ (enterStall l).state = .stalled ∧ (enterStall l).stallCount = l.stallCount + 1
            ∧ (enterStall l).failReport = l.failReport ∧ (enterStall l).pauseTime = 0) := by
  have live : LoopState.failed ≠ l.state ∧ LoopState.stalled ≠ l.state := by
    obtain runs | starts := moving
    · constructor <;> (intro other; simp [← other, running] at runs)
    · simp [starts]
  unfold enterStall
  split
  · exact ⟨live.1, live.2, .inl ⟨rfl, rfl, rfl, rfl⟩⟩
  · exact ⟨live.1, live.2, .inr ⟨rfl, rfl, rfl, rfl⟩⟩

/-- The drive after a transition: the updated one in the running states, the start drive at a start, 0 at a stall (R25, R30, R36). -/
theorem Transits.drive {driven orig : Nat} (held : l.drive = if running l.state then driven else orig)
    (transits : Transits b c before l r) :
    r.drive =
      if running l.state = true ∧ running r.state = true then driven
      else if r.state = l.state then orig
      else
        match r.state with
        | .starting => c.startDrive
        | .stalled | .failed => 0
        | .stopped | .settling | .locked | .unlocked => orig := by
  cases transits with
  | stall moving =>
    obtain ⟨drive, ceiling, edges, latch, start, inBand, outBand, settling⟩ := enterStall_leaves l
    obtain ⟨notFailed, notStalled, ⟨state, count, mark, pause⟩ | ⟨state, count, mark, pause⟩⟩ := enterStall_moves moving
    all_goals simp [state, running, notFailed, notStalled, drive]
  | rest state | start state | spinUp state | turn state | settle state | settleLock state | settleLate state
  | moved state | hold state | unlock state | seek state | relock state | pause state | restart state | giveUp state
  | failed state =>
    simp [state, enterStarting, enterLocked, enterUnlocked, resettle, running, held]

/-- A stall takes the AT CEILING mark away; no other transition changes it (R26). -/
theorem Transits.atCeiling (idle : running l.state = false → l.atCeiling = false)
    (transits : Transits b c before l r) :
    r.atCeiling = (l.atCeiling && decide (r.state ≠ .stalled ∧ r.state ≠ .failed)) := by
  cases transits with
  | stall moving =>
    obtain ⟨drive, ceiling, edges, latch, start, inBand, outBand, settling⟩ := enterStall_leaves l
    obtain ⟨notFailed, notStalled, ⟨state, count, mark, pause⟩ | ⟨state, count, mark, pause⟩⟩ := enterStall_moves moving
    all_goals simp [state, ceiling]
  | rest state | start state | spinUp state | turn state | settle state | settleLock state | settleLate state
  | moved state | hold state | unlock state | seek state | relock state | pause state | restart state | giveUp state
  | failed state =>
    simp [state, enterStarting, enterLocked, enterUnlocked, resettle, running, idle]

/-- The stall count after a transition (R33, R36, R37). -/
theorem Transits.stallCount (transits : Transits b c before l r) :
    r.stallCount =
      if r.state = l.state then l.stallCount
      else
        match r.state with
        | .failed => 3
        | .stalled => l.stallCount + 1
        | .locked => 0
        | .stopped | .starting | .settling | .unlocked => l.stallCount := by
  cases transits with
  | stall moving =>
    obtain ⟨notFailed, notStalled, ⟨state, count, mark, pause⟩ | ⟨state, count, mark, pause⟩⟩ := enterStall_moves moving
    all_goals simp [notFailed, notStalled, state, count]
  | rest state | start state | spinUp state | turn state | settle state | settleLock state | settleLate state
  | moved state | hold state | unlock state | seek state | relock state | pause state | restart state | giveUp state
  | failed state =>
    simp [state, enterStarting, enterLocked, enterUnlocked, resettle]

/-- The no-edge run after a transition (R35). -/
theorem Transits.noEdge (transits : Transits b c before l r) :
    r.noEdge =
      if running r.state = true then (if running l.state = true then l.noEdge else 0)
      else if r.state = l.state then l.noEdge
      else 0 := by
  cases transits with
  | stall moving =>
    obtain ⟨drive, ceiling, edges, latch, start, inBand, outBand, settling⟩ := enterStall_leaves l
    obtain ⟨notFailed, notStalled, ⟨state, count, mark, pause⟩ | ⟨state, count, mark, pause⟩⟩ := enterStall_moves moving
    all_goals simp [state, running, notFailed, notStalled, edges]
  | rest state | start state | spinUp state | turn state | settle state | settleLock state | settleLate state
  | moved state | hold state | unlock state | seek state | relock state | pause state | restart state | giveUp state
  | failed state =>
    simp [state, enterStarting, enterLocked, enterUnlocked, resettle, running]

/-- The start time after a transition (R30, R31). -/
theorem Transits.startTime (transits : Transits b c before l r) :
    r.startTime = if r.state = .starting ∧ l.state ≠ .starting then 0 else l.startTime := by
  cases transits with
  | stall moving =>
    obtain ⟨drive, ceiling, edges, latch, start, inBand, outBand, settling⟩ := enterStall_leaves l
    obtain ⟨notFailed, notStalled, ⟨state, count, mark, pause⟩ | ⟨state, count, mark, pause⟩⟩ := enterStall_moves moving
    all_goals simp [state, start]
  | rest state | start state | spinUp state | turn state | settle state | settleLock state | settleLate state
  | moved state | hold state | unlock state | seek state | relock state | pause state | restart state | giveUp state
  | failed state =>
    simp [state, enterStarting, enterLocked, enterUnlocked, resettle]

/-- The pause time after a transition (R36). -/
theorem Transits.pauseTime (transits : Transits b c before l r) :
    r.pauseTime = if r.state = .stalled ∧ l.state ≠ .stalled then 0 else l.pauseTime := by
  cases transits with
  | stall moving =>
    obtain ⟨-, notStalled, ⟨state, -, -, pause⟩ | ⟨state, -, -, pause⟩⟩ := enterStall_moves moving
    all_goals simp [state, pause, notStalled.symm]
  | rest state | start state | spinUp state | turn state | settle state | settleLock state | settleLate state
  | moved state | hold state | unlock state | seek state | relock state | pause state | restart state | giveUp state
  | failed state =>
    simp [state, enterStarting, enterLocked, enterUnlocked, resettle]

/-- A stall sets the lock-loss latch; no transition clears it (R40). -/
theorem Transits.latch (transits : Transits b c before l r) :
    (l.latch = true → r.latch = true) ∧ (r.latch = true → l.latch = true ∨ r.state = .stalled ∨ r.state = .failed) := by
  cases transits with
  | stall moving =>
    obtain ⟨drive, ceiling, edges, latch, start, inBand, outBand, settling⟩ := enterStall_leaves l
    obtain ⟨notFailed, notStalled, ⟨state, count, mark, pause⟩ | ⟨state, count, mark, pause⟩⟩ := enterStall_moves moving
    all_goals simp [state, latch]
  | rest state | start state | spinUp state | turn state | settle state | settleLock state | settleLate state
  | moved state | hold state | unlock state | seek state | relock state | pause state | restart state | giveUp state
  | failed state =>
    simp [state, enterStarting, enterLocked, enterUnlocked, resettle]

/-- Only FAILED sets the fail-report mark (R43). -/
theorem Transits.failReport (transits : Transits b c before l r) :
    r.failReport = if r.state = .failed then true else l.failReport := by
  cases transits with
  | stall moving =>
    obtain ⟨notFailed, notStalled, ⟨state, count, mark, pause⟩ | ⟨state, count, mark, pause⟩⟩ := enterStall_moves moving
    all_goals simp [state, mark]
  | rest state | start state | spinUp state | turn state | settle state | settleLock state | settleLate state
  | moved state | hold state | unlock state | seek state | relock state | pause state | restart state | giveUp state
  | failed state =>
    simp [state, enterStarting, enterLocked, enterUnlocked, resettle]

/-- The in-band, out-of-band and settling runs after a transition (R30 to R34). -/
theorem Transits.runs (transits : Transits b c before l r) :
    (r.inBand, r.outBand, r.settling) =
      match l.state, r.state with
      | .stopped, .starting | .stalled, .starting => (0, 0, 0)
      | .starting, .settling => (0, l.outBand, 0)
      | .settling, .settling => (bandRun b l, l.outBand, l.settling + 1)
      | .settling, .locked => (bandRun b l, 0, l.settling + 1)
      | .settling, .unlocked => (0, l.outBand, l.settling + 1)
      | .locked, .settling => (0, l.outBand, 0)
      | .locked, .locked => (l.inBand, offBandRun b l, l.settling)
      | .locked, .unlocked => (0, offBandRun b l, l.settling)
      | .unlocked, .unlocked => (bandRun b l, l.outBand, l.settling)
      | .unlocked, .locked => (bandRun b l, 0, l.settling)
      | _, _ => (l.inBand, l.outBand, l.settling) := by
  cases transits with
  | stall moving =>
    obtain ⟨-, -, -, -, -, inBand, outBand, settling⟩ := enterStall_leaves l
    obtain ⟨-, -, ⟨state, -⟩ | ⟨state, -⟩⟩ := enterStall_moves moving
    all_goals simp [state, inBand, outBand, settling]
  | rest state | start state | spinUp state | turn state | settle state | settleLock state | settleLate state
  | moved state | hold state | unlock state | seek state | relock state | pause state | restart state | giveUp state
  | failed state => simp [state, enterStarting, enterLocked, enterUnlocked, resettle]

/-- The state that a window end's stall leaves (R36, R37). -/
def stallState (l : LoopRec) : LoopState := if 3 ≤ l.stallCount + 1 then .failed else .stalled

/-- The state that follows at a window end, by the state it begins in (R30 to R37). -/
def nextState (b : LockBand) (before : Nat) (l : LoopRec) : LoopState :=
  match l.state with
  | .stopped => if 0 < l.taken then .starting else .stopped
  | .starting => if l.startTime < 2000 then .starting else if 0 < l.speed then .settling else stallState l
  | .settling =>
    if 3 ≤ l.noEdge then stallState l
    else if 3 ≤ bandRun b l then .locked
    else if 20 ≤ l.settling + 1 then .unlocked
    else .settling
  | .locked =>
    if 3 ≤ l.noEdge then stallState l
    else if targetMoved b before l = true then .settling
    else if 2 ≤ offBandRun b l then .unlocked
    else .locked
  | .unlocked =>
    if 3 ≤ l.noEdge then stallState l else if 3 ≤ bandRun b l then .locked else .unlocked
  | .stalled => if l.pauseTime < 10000 then .stalled else if 0 < l.taken then .starting else .stopped
  | .failed => .failed

theorem nextState_stalls (moving : running l.state = true ∨ l.state = .starting)
    (due : if l.state = .starting then 2000 ≤ l.startTime ∧ l.speed = 0 else 3 ≤ l.noEdge) :
    nextState b before l = stallState l := by
  unfold nextState
  cases state : l.state with
  | starting =>
    obtain ⟨time, still⟩ := (if_pos state).mp due
    exact (if_neg (by omega)).trans (if_neg (by omega))
  | settling | locked | unlocked =>
    have edges : 3 ≤ l.noEdge := (if_neg (by simp [state])).mp due
    exact if_pos edges
  | stopped | stalled | failed => simp [state, running] at moving

theorem Transits.state (transits : Transits b c before l r) : r.state = nextState b before l := by
  cases transits with
  | stall moving due => exact (enterStall_state l).trans (nextState_stalls moving due).symm
  | rest state asked | start state asked => simp [nextState, state, enterStarting, asked]
  | spinUp state time => simp [nextState, state, time]
  | turn state time speed => simp [nextState, state, Nat.not_lt.mpr time, speed]
  | settle state edges band count =>
    simp [nextState, state, Nat.not_le.mpr edges, Nat.not_le.mpr band, Nat.not_le.mpr count]
  | settleLock state edges band => simp [nextState, state, Nat.not_le.mpr edges, band, enterLocked]
  | settleLate state edges band count =>
    simp [nextState, state, Nat.not_le.mpr edges, Nat.not_le.mpr band, count, enterUnlocked]
  | moved state edges target => simp [nextState, state, Nat.not_le.mpr edges, target, resettle]
  | hold state edges target off => simp [nextState, state, Nat.not_le.mpr edges, target, Nat.not_le.mpr off]
  | unlock state edges target off => simp [nextState, state, Nat.not_le.mpr edges, target, off, enterUnlocked]
  | seek state edges band => simp [nextState, state, Nat.not_le.mpr edges, Nat.not_le.mpr band]
  | relock state edges band => simp [nextState, state, Nat.not_le.mpr edges, band, enterLocked]
  | pause state time => simp [nextState, state, time]
  | restart state time asked => simp [nextState, state, Nat.not_lt.mpr time, asked, enterStarting]
  | giveUp state time asked => simp [nextState, state, Nat.not_lt.mpr time, asked]
  | failed state => simp [nextState, state]

end

end Sys2Proof.Machine
end

section
/-! The state, drive, marks, counts and occurrences in which a window end leaves the loops (O26). -/

namespace Sys2Proof.Machine

/-! ### The loop as the transition finds it (R22 to R29) -/

/-- The loop measured, driven and with its no-edge run judged. -/
def preparedLoop (set : Settings) (c : LoopSettings) (dp : Nat) (l : LoopRec) : LoopRec :=
  edgeJudged c (updateDrive c (measureWindow set c dp l))

/-- The drive of a window end that begins in a running state (R25). -/
def windowDrive (set : Settings) (c : LoopSettings) (dp : Nat) (l : LoopRec) : Nat :=
  drivenTo c (measureWindow set c dp l)

section
variable (set : Settings) (c : LoopSettings) (dp : Nat) (l : LoopRec)

theorem preparedLoop_measured :
    (preparedLoop set c dp l).state = l.state
      ∧ (preparedLoop set c dp l).taken = (if l.state = .starting then l.taken else l.offered)
      ∧ (preparedLoop set c dp l).speed = (measureWindow set c dp l).speed
      ∧ (preparedLoop set c dp l).speedTarget = (measureWindow set c dp l).speedTarget
      ∧ (preparedLoop set c dp l).band = (measureWindow set c dp l).band
      ∧ (preparedLoop set c dp l).stallCount = l.stallCount
      ∧ (preparedLoop set c dp l).inBand = l.inBand ∧ (preparedLoop set c dp l).outBand = l.outBand
      ∧ (preparedLoop set c dp l).settling = l.settling ∧ (preparedLoop set c dp l).latch = l.latch
      ∧ (preparedLoop set c dp l).failReport = l.failReport := by
  unfold preparedLoop edgeJudged updateDrive
  split <;> exact ⟨rfl, rfl, rfl, rfl, rfl, rfl, rfl, rfl, rfl, rfl, rfl⟩

theorem preparedLoop_timed :
    (preparedLoop set c dp l).startTime =
        (if l.state = .starting then min 2000 (l.startTime + l.window) else l.startTime)
      ∧ (preparedLoop set c dp l).pauseTime =
          (if l.state = .stalled then min 10000 (l.pauseTime + l.window) else l.pauseTime) := by
  unfold preparedLoop edgeJudged updateDrive
  split <;> exact ⟨rfl, rfl⟩

theorem preparedLoop_driven :
    (preparedLoop set c dp l).drive = (if running l.state then windowDrive set c dp l else l.drive)
      ∧ (preparedLoop set c dp l).atCeiling =
          (running l.state && (windowDrive set c dp l == 1000 && 0 < speedError (measureWindow set c dp l)))
      ∧ (preparedLoop set c dp l).noEdge =
          (if running l.state then
            if l.edges < 2 ∧ 0 < (measureWindow set c dp l).speedTarget ∧ c.dmin ≤ windowDrive set c dp l then l.noEdge + 1
            else 0
          else l.noEdge) := by
  have state : (measureWindow set c dp l).state = l.state := rfl
  unfold preparedLoop edgeJudged updateDrive noEdgeAfter
  by_cases runs : running l.state = true
  · rw [state, runs]
    simp only [if_true, Bool.true_and, runs]
    exact ⟨rfl, rfl, rfl⟩
  · rw [Bool.not_eq_true] at runs
    rw [state, runs]
    simp only [Bool.false_eq_true, if_false, Bool.false_and, runs]
    exact ⟨rfl, trivial, rfl⟩

/-- A window end is a transition from the prepared loop, with the latch judged after it (R29, R40). -/
theorem windowLoop_transits :
    ∃ r, Transits set.lockBand c l.speedTarget (preparedLoop set c dp l) r
      ∧ windowLoop set c dp l = judgeLatch set.lockBand r :=
  ⟨_, transition_transits _ _ _ _, rfl⟩

theorem windowLoop_state :
    (windowLoop set c dp l).state = nextState set.lockBand l.speedTarget (preparedLoop set c dp l) := by
  obtain ⟨r, transits, after⟩ := windowLoop_transits set c dp l
  rw [after]
  exact transits.state

end

/-! ### A target offered after the window end (R38) -/

/-- The loop with its targets replaced. -/
def retargeted (offered taken speedTarget : Nat) (l : LoopRec) : LoopRec :=
  { l with offered := offered, taken := taken, speedTarget := speedTarget }

theorem offeredLoop_eq (target : Nat) (l : LoopRec) :
    offeredLoop target l =
      if target = 0 then
        if l.state = .stopped ∨ l.state = .failed then retargeted 0 0 0 l else stopped (retargeted 0 0 0 l)
      else retargeted target l.taken l.speedTarget l := by
  unfold offeredLoop zeroTarget
  split
  · cases state : l.state <;> simp [retargeted, stopped, state]
  · rfl

/-- The target 0 of a step stops the loop of this window end (R38, R65). -/
def Cut (x : Stream) (s : State) : Prop :=
  x = .supply ∧ (windowEnd x s).demand.runState = .run ∧ (windowEnd x s).governor.tS = 0
    ∧ (windowAfter x s).state ≠ .failed

/-- The loop of the window end: as its own work left it, with the targets then offered, stopped by a target of 0. -/
theorem windowEnd_own (x : Stream) (s : State) :
    ∃ o k v, ((k = (windowAfter x s).taken ∧ v = (windowAfter x s).speedTarget) ∨ (k = 0 ∧ v = 0 ∧ o = 0))
      ∧ (Cut x s ∧ (windowAfter x s).state ≠ .stopped →
          (windowEnd x s).loops.get x = stopped (retargeted o k v (windowAfter x s)))
      ∧ (¬(Cut x s ∧ (windowAfter x s).state ≠ .stopped) →
          (windowEnd x s).loops.get x = retargeted o k v (windowAfter x s)) := by
  by_cases stops : StopsUnit x s
  · obtain ⟨loops, runState, -⟩ := windowEnd_stopped stops
    have uncut : ¬Cut x s := fun ⟨_, run, _⟩ => by simp [runState] at run
    refine ⟨0, 0, 0, .inr ⟨rfl, rfl, rfl⟩, fun both => absurd both.1 uncut, fun _ => ?_⟩
    rw [loops, PerStream.get_set_same, offeredLoop_eq, if_pos rfl, if_pos (.inr stops.1.2)]
  obtain ⟨runState, -, still, step⟩ := windowEnd_kept stops
  by_cases steps : x = .supply ∧ s.demand.runState = .run
  · obtain ⟨rfl, run⟩ := steps
    obtain ⟨tS, -, loops⟩ := step rfl run
    rw [← tS] at loops
    have own : (windowEnd .supply s).loops.get .supply = offeredLoop (windowEnd .supply s).governor.tS (windowAfter .supply s) := by
      rw [loops, PerStream.get, PerStream.set]
    have running : (windowEnd .supply s).demand.runState = .run := runState.trans run
    rw [own, offeredLoop_eq]
    by_cases zero : (windowEnd .supply s).governor.tS = 0
    · rw [if_pos zero]
      refine ⟨0, 0, 0, .inr ⟨rfl, rfl, rfl⟩, fun ⟨⟨_, _, _, live⟩, moving⟩ => ?_, fun uncut => ?_⟩
      · rw [if_neg (by simp [live, moving])]
      rw [if_pos]
      by_contra other
      rw [not_or] at other
      exact uncut ⟨⟨rfl, running, zero, other.2⟩, other.1⟩
    · rw [if_neg zero]
      exact ⟨_, _, _, .inl ⟨rfl, rfl⟩, fun ⟨⟨_, _, gone, _⟩, _⟩ => absurd gone zero, fun _ => rfl⟩
  · obtain ⟨loops, -⟩ := still steps
    have uncut : ¬Cut x s := fun ⟨supply, run, _⟩ => steps ⟨supply, runState.symm.trans run⟩
    rw [loops, PerStream.get_set_same]
    exact ⟨_, _, _, .inl ⟨rfl, rfl⟩, fun both => absurd both.1 uncut, fun _ => rfl⟩

/-- The other loop: offered 0 when the unit stops, offered the step's target in RUN, and else as it was (R67). -/
theorem windowEnd_other {x y : Stream} (other : y ≠ x) (s : State) :
    (windowEnd x s).loops.get y =
      if (windowEnd x s).demand.runState ≠ s.demand.runState then offeredLoop 0 (s.loops.get y)
      else if x = .supply ∧ (windowEnd x s).demand.runState = .run then
        offeredLoop (windowEnd x s).governor.tE (s.loops.get y)
      else s.loops.get y := by
  by_cases stops : StopsUnit x s
  · obtain ⟨loops, runState, -⟩ := windowEnd_stopped stops
    rw [runState, if_pos stops.2.2.symm, loops, PerStream.get_set_other _ _ other]
  · obtain ⟨runState, -, still, step⟩ := windowEnd_kept stops
    rw [runState, if_neg fun moved => moved rfl]
    by_cases steps : x = .supply ∧ s.demand.runState = .run
    · rw [if_pos steps]
      obtain ⟨rfl, run⟩ := steps
      obtain ⟨-, tE, loops⟩ := step rfl run
      rw [loops, tE]
      cases y with
      | supply => exact absurd rfl other
      | extract => rfl
    · rw [if_neg steps, (still steps).1, PerStream.get_set_other _ _ other]

end Sys2Proof.Machine
end

section
/-! The window end's own work written out, and the window end of either loop (O26). -/

namespace Sys2Proof.Machine

/-! ### The runs in and out of the band (R28) -/

theorem three_le_bandRun (b : LockBand) (l : LoopRec) :
    3 ≤ bandRun b l ↔ windowInBand b l = true ∧ 3 ≤ l.inBand + 1 := by
  unfold bandRun runAfter
  cases windowInBand b l <;> simp

theorem two_le_offBandRun (b : LockBand) (l : LoopRec) :
    2 ≤ offBandRun b l ↔ windowInBand b l = false ∧ 2 ≤ l.outBand + 1 := by
  unfold offBandRun runAfter
  cases windowInBand b l <;> simp

theorem windowInBand_iff (b : LockBand) (l : LoopRec) :
    windowInBand b l = true ↔ b ≠ .off ∧ ((l.speedTarget : Int) - l.speed).natAbs ≤ l.band := by
  rw [windowInBand, Bool.and_eq_true, bne_iff_ne, decide_eq_true_eq]
  rfl

theorem targetMoved_iff (b : LockBand) (before : Nat) (l : LoopRec) :
    targetMoved b before l = true ↔ b ≠ .off ∧ l.band < ((l.speedTarget : Int) - before).natAbs := by
  rw [targetMoved, Bool.and_eq_true, bne_iff_ne, decide_eq_true_eq]
  rfl

/-! ### The window end's own work on its loop -/

section
variable (set : Settings) (c : LoopSettings) (dp : Nat) (l : LoopRec)

theorem windowLoop_drive :
    (windowLoop set c dp l).drive =
      if running l.state = true ∧ running (windowLoop set c dp l).state = true then windowDrive set c dp l
      else if (windowLoop set c dp l).state = l.state then l.drive
      else
        match (windowLoop set c dp l).state with
        | .starting => c.startDrive
        | .stalled | .failed => 0
        | .stopped | .settling | .locked | .unlocked => l.drive := by
  obtain ⟨r, transits, after⟩ := windowLoop_transits set c dp l
  obtain ⟨state, -⟩ := preparedLoop_measured set c dp l
  have drive := transits.drive (driven := windowDrive set c dp l) (orig := l.drive)
    (by rw [state]; exact (preparedLoop_driven set c dp l).1)
  rw [state] at drive
  rw [after]
  exact drive

theorem windowLoop_atCeiling :
    (windowLoop set c dp l).atCeiling = true ↔
      running l.state = true ∧ (windowLoop set c dp l).state ≠ .stalled ∧ (windowLoop set c dp l).state ≠ .failed
        ∧ windowDrive set c dp l = 1000 ∧ 0 < speedError (measureWindow set c dp l) := by
  obtain ⟨r, transits, after⟩ := windowLoop_transits set c dp l
  obtain ⟨state, -⟩ := preparedLoop_measured set c dp l
  obtain ⟨-, ceiling, -⟩ := preparedLoop_driven set c dp l
  have mark := transits.atCeiling (by rw [state, ceiling]; intro idle; simp [idle])
  rw [ceiling] at mark
  rw [after]
  have same : (judgeLatch set.lockBand r).atCeiling = r.atCeiling := rfl
  have found : (judgeLatch set.lockBand r).state = r.state := rfl
  rw [same, found, mark]
  simp [and_assoc, and_left_comm, and_comm]

theorem windowLoop_stallCount :
    (windowLoop set c dp l).stallCount =
      if (windowLoop set c dp l).state = l.state then l.stallCount
      else
        match (windowLoop set c dp l).state with
        | .failed => 3
        | .stalled => l.stallCount + 1
        | .locked => 0
        | .stopped | .starting | .settling | .unlocked => l.stallCount := by
  obtain ⟨r, transits, after⟩ := windowLoop_transits set c dp l
  obtain ⟨state, -, -, -, -, count, -⟩ := preparedLoop_measured set c dp l
  have stalls := transits.stallCount
  rw [state, count] at stalls
  rw [after]
  exact stalls

theorem windowLoop_noEdge :
    (windowLoop set c dp l).noEdge =
      if running (windowLoop set c dp l).state = true then
        (if running l.state = true then
          (if l.edges < 2 ∧ 0 < (measureWindow set c dp l).speedTarget ∧ c.dmin ≤ windowDrive set c dp l then l.noEdge + 1
          else 0)
        else 0)
      else if (windowLoop set c dp l).state = l.state then l.noEdge
      else 0 := by
  obtain ⟨r, transits, after⟩ := windowLoop_transits set c dp l
  obtain ⟨state, -⟩ := preparedLoop_measured set c dp l
  obtain ⟨-, -, judged⟩ := preparedLoop_driven set c dp l
  have edges := transits.noEdge
  rw [state, judged] at edges
  rw [after]
  refine edges.trans ?_
  have found : (judgeLatch set.lockBand r).state = r.state := rfl
  rw [found]
  by_cases moving : running r.state = true
  · by_cases runs : running l.state = true
    · simp [moving, runs]
    · simp [moving, runs]
  · by_cases same : r.state = l.state
    · rw [same] at moving
      simp [same, moving]
    · simp [same, moving]

theorem windowLoop_startTime :
    (windowLoop set c dp l).startTime =
      if (windowLoop set c dp l).state = .starting ∧ l.state ≠ .starting then 0
      else if l.state = .starting then min 2000 (l.startTime + l.window)
      else l.startTime := by
  obtain ⟨r, transits, after⟩ := windowLoop_transits set c dp l
  obtain ⟨state, -⟩ := preparedLoop_measured set c dp l
  have start := transits.startTime
  rw [state, (preparedLoop_timed set c dp l).1] at start
  rw [after]
  exact start

theorem windowLoop_pauseTime :
    (windowLoop set c dp l).pauseTime =
      if (windowLoop set c dp l).state = .stalled ∧ l.state ≠ .stalled then 0
      else if l.state = .stalled then min 10000 (l.pauseTime + l.window)
      else l.pauseTime := by
  obtain ⟨r, transits, after⟩ := windowLoop_transits set c dp l
  obtain ⟨state, -⟩ := preparedLoop_measured set c dp l
  have pause := transits.pauseTime
  rw [state, (preparedLoop_timed set c dp l).2] at pause
  rw [after]
  exact pause

theorem windowLoop_runs :
    ((windowLoop set c dp l).inBand, (windowLoop set c dp l).outBand, (windowLoop set c dp l).settling) =
      match l.state, (windowLoop set c dp l).state with
      | .stopped, .starting | .stalled, .starting => (0, 0, 0)
      | .starting, .settling => (0, l.outBand, 0)
      | .settling, .settling => (bandRun set.lockBand (preparedLoop set c dp l), l.outBand, l.settling + 1)
      | .settling, .locked => (bandRun set.lockBand (preparedLoop set c dp l), 0, l.settling + 1)
      | .settling, .unlocked => (0, l.outBand, l.settling + 1)
      | .locked, .settling => (0, l.outBand, 0)
      | .locked, .locked => (l.inBand, offBandRun set.lockBand (preparedLoop set c dp l), l.settling)
      | .locked, .unlocked => (0, offBandRun set.lockBand (preparedLoop set c dp l), l.settling)
      | .unlocked, .unlocked => (bandRun set.lockBand (preparedLoop set c dp l), l.outBand, l.settling)
      | .unlocked, .locked => (bandRun set.lockBand (preparedLoop set c dp l), 0, l.settling)
      | _, _ => (l.inBand, l.outBand, l.settling) := by
  obtain ⟨r, transits, after⟩ := windowLoop_transits set c dp l
  obtain ⟨state, -, -, -, -, -, inBand, outBand, settling, -⟩ := preparedLoop_measured set c dp l
  have runs := transits.runs
  rw [state, inBand, outBand, settling] at runs
  rw [after]
  exact runs

theorem judgeLatch_latch (b : LockBand) (r : LoopRec) :
    (judgeLatch b r).latch = true ↔
      r.latch = true ∨ r.state = .unlocked ∨ r.state = .stalled ∨ r.state = .failed ∨ (b = .off ∧ r.state ≠ .stopped) := by
  unfold judgeLatch
  cases r.state <;> simp

theorem windowLoop_latch :
    (windowLoop set c dp l).latch = true ↔
      l.latch = true ∨ (windowLoop set c dp l).state = .unlocked ∨ (windowLoop set c dp l).state = .stalled
        ∨ (windowLoop set c dp l).state = .failed
        ∨ (set.lockBand = .off ∧ (windowLoop set c dp l).state ≠ .stopped) := by
  obtain ⟨r, transits, after⟩ := windowLoop_transits set c dp l
  obtain ⟨-, -, -, -, -, -, -, -, -, latch, -⟩ := preparedLoop_measured set c dp l
  obtain ⟨stays, came⟩ := transits.latch
  rw [latch] at stays came
  have found : (judgeLatch set.lockBand r).state = r.state := rfl
  rw [after, judgeLatch_latch, found]
  constructor
  · rintro (set' | rest)
    · exact (came set').imp_right fun stalls => .inr (stalls.imp_right .inl)
    · exact .inr rest
  · exact Or.imp_left stays

theorem windowLoop_failReport :
    (windowLoop set c dp l).failReport = if (windowLoop set c dp l).state = .failed then true else l.failReport := by
  obtain ⟨r, transits, after⟩ := windowLoop_transits set c dp l
  obtain ⟨-, -, -, -, -, -, -, -, -, -, mark⟩ := preparedLoop_measured set c dp l
  have report := transits.failReport
  rw [mark] at report
  rw [after]
  exact report

end

end Sys2Proof.Machine
end

section
/-! The window end of either loop (O26). -/

namespace Sys2Proof.Machine

/-! ### The state that follows, by the state before (R30 to R37) -/

section
variable (set : Settings) (c : LoopSettings) (dp : Nat) (l : LoopRec)

/-- The state that follows, in the figures of the measurement. -/
theorem windowLoop_next :
    let m := measureWindow set c dp l
    let left := (windowLoop set c dp l).state
    let target := if l.state = .starting then l.taken else l.offered
    let noEdge := if l.edges < 2 ∧ 0 < m.speedTarget ∧ c.dmin ≤ windowDrive set c dp l then l.noEdge + 1 else 0
    let inBand := set.lockBand ≠ .off ∧ ((m.speedTarget : Int) - m.speed).natAbs ≤ m.band
    let stalls := if 3 ≤ l.stallCount + 1 then LoopState.failed else .stalled;
    (l.state = .stopped → left = if 0 < target then .starting else .stopped)
      ∧ (l.state = .starting → left =
          if l.startTime + l.window < 2000 then .starting else if 0 < m.speed then .settling else stalls)
      ∧ (l.state = .settling → left =
          if 3 ≤ noEdge then stalls
          else if inBand ∧ 3 ≤ l.inBand + 1 then .locked
          else if 20 ≤ l.settling + 1 then .unlocked else .settling)
      ∧ (l.state = .locked → set.lockBand ≠ .off → left =
          if 3 ≤ noEdge then stalls
          else if m.band < ((m.speedTarget : Int) - l.speedTarget).natAbs then .settling
          else if ¬inBand ∧ 2 ≤ l.outBand + 1 then .unlocked else .locked)
      ∧ (l.state = .locked → set.lockBand = .off → left =
          if 3 ≤ noEdge then stalls else if 2 ≤ l.outBand + 1 then .unlocked else .locked)
      ∧ (l.state = .unlocked → left =
          if 3 ≤ noEdge then stalls else if inBand ∧ 3 ≤ l.inBand + 1 then .locked else .unlocked)
      ∧ (l.state = .stalled → left =
          if l.pauseTime + l.window < 10000 then .stalled else if 0 < target then .starting else .stopped)
      ∧ (l.state = .failed → left = .failed) := by
  intro m left target noEdge inBand stalls
  have follows : left = nextState set.lockBand l.speedTarget (preparedLoop set c dp l) := windowLoop_state set c dp l
  obtain ⟨state, taken, speed, speedTarget, band, stallCount, inRun, outRun, settling, -⟩ := preparedLoop_measured set c dp l
  obtain ⟨startTime, pauseTime⟩ := preparedLoop_timed set c dp l
  obtain ⟨-, -, edges⟩ := preparedLoop_driven set c dp l
  generalize preparedLoop set c dp l = d at *
  have stalled : stallState d = stalls := by rw [stallState, stallCount]
  have within : windowInBand set.lockBand d = true ↔ inBand := by rw [windowInBand_iff, speedTarget, speed, band]
  have judged (runs : running l.state = true) : d.noEdge = noEdge := by rw [edges, if_pos runs]
  unfold nextState at follows
  rw [state, stalled] at follows
  refine ⟨fun found => ?_, fun found => ?_, fun found => ?_, fun found banded => ?_, fun found off => ?_, fun found => ?_,
    fun found => ?_, fun found => ?_⟩
  all_goals rw [found] at follows startTime pauseTime
  · exact follows.trans (if_congr (by rw [taken]) rfl rfl)
  · refine follows.trans (if_congr ?_ rfl (if_congr (by rw [speed]) rfl rfl))
    rw [startTime, if_pos rfl]
    omega
  · rw [← judged (by simp [found, running])]
    refine follows.trans (if_congr Iff.rfl rfl (if_congr ?_ rfl (if_congr (by rw [settling]) rfl rfl)))
    rw [three_le_bandRun, within, inRun]
  · rw [← judged (by simp [found, running])]
    refine follows.trans (if_congr Iff.rfl rfl (if_congr ?_ rfl (if_congr ?_ rfl rfl)))
    · rw [targetMoved_iff, band, speedTarget]
      exact and_iff_right banded
    · rw [two_le_offBandRun, outRun, ← within, Bool.not_eq_true]
  · rw [← judged (by simp [found, running])]
    have unmoved : ¬targetMoved set.lockBand l.speedTarget d = true := fun moved =>
      (targetMoved_iff _ _ _ |>.mp moved).1 off
    have out : windowInBand set.lockBand d = false := by
      rw [← Bool.not_eq_true, within]
      exact fun both => both.1 off
    refine follows.trans (if_congr Iff.rfl rfl ((if_neg unmoved).trans (if_congr ?_ rfl rfl)))
    rw [two_le_offBandRun, outRun]
    exact and_iff_right out
  · rw [← judged (by simp [found, running])]
    refine follows.trans (if_congr Iff.rfl rfl (if_congr ?_ rfl rfl))
    rw [three_le_bandRun, within, inRun]
  · refine follows.trans (if_congr ?_ rfl (if_congr (by rw [taken]) rfl rfl))
    rw [pauseTime, if_pos rfl]
    omega
  · exact follows

/-- The runs that the measurement's band judges (R28). -/
theorem preparedLoop_runs :
    let m := measureWindow set c dp l
    let inBand := set.lockBand ≠ .off ∧ ((m.speedTarget : Int) - m.speed).natAbs ≤ m.band;
    bandRun set.lockBand (preparedLoop set c dp l) = (if inBand then l.inBand + 1 else 0)
      ∧ offBandRun set.lockBand (preparedLoop set c dp l) = (if inBand then 0 else l.outBand + 1) := by
  intro m inBand
  obtain ⟨-, -, speed, speedTarget, band, -, inRun, outRun, -⟩ := preparedLoop_measured set c dp l
  have within : windowInBand set.lockBand (preparedLoop set c dp l) = true ↔ inBand := by
    rw [windowInBand_iff, speedTarget, speed, band]
  unfold bandRun offBandRun runAfter
  by_cases inside : inBand
  · rw [within.mpr inside, if_pos inside, if_pos inside, inRun]
    exact ⟨rfl, rfl⟩
  · rw [Bool.eq_false_iff.mpr fun held => inside (within.mp held), if_neg inside, if_neg inside, outRun]
    exact ⟨rfl, rfl⟩

end

/-! ### The occurrences of a window end (R42, R43) -/

theorem windowEnd_unlocks {x : Stream} {s : State} (left : (windowAfter x s).state = .unlocked)
    (came : (s.loops.get x).state = .settling ∨ (s.loops.get x).state = .locked) :
    flagRaised (windowEnd x s) .fanLockLost = true := by
  refine windowEnd_raises (src := .fan x) ?_
  obtain settling | locked := came
  · simp [loopReports, left, settling]
  · simp [loopReports, left, locked]

theorem windowEnd_stalls {x : Stream} {s : State} (left : (windowAfter x s).state = .stalled)
    (came : (s.loops.get x).state ≠ .stalled) : flagRaised (windowEnd x s) .fanStall = true := by
  refine windowEnd_raises (src := .fan x) ?_
  cases found : (s.loops.get x).state <;> simp_all [loopReports]

theorem windowEnd_fails {x : Stream} {s : State} (left : (windowAfter x s).state = .failed)
    (fresh : (s.loops.get x).state ≠ .failed ∨ (s.loops.get x).failReport = false) :
    flagRaised (windowEnd x s) .fanFail = true := by
  refine windowEnd_raises (src := .fan x) ?_
  cases found : (s.loops.get x).state <;> simp_all [loopReports]

theorem judgeAllowance_flag {s : State} {k : EventKind} (other : k ≠ .allowanceExhausted) :
    flagRaised (judgeAllowance s) k = flagRaised s k := by
  unfold judgeAllowance
  split
  · rw [chargeAllowance_eq]
    split
    · exact report_flagRaised_other other _ _
    · rfl
  · rfl

/-- A loop that was FAILED, with its mark set, raises nothing (R43). -/
theorem windowEnd_failed_silent {x : Stream} {s : State} (failed : (s.loops.get x).state = .failed)
    (after : (windowAfter x s).state = .failed) (mark : (s.loops.get x).failReport = true) :
    flagRaised (windowEnd x s) .fanFail = flagRaised s .fanFail := by
  have stands : ¬StopsUnit x s := fun stops => stops.1.1 failed
  have reported : windowReported x s = setLoop x (windowAfter x s) s := by
    have none' : loopReports x (s.loops.get x) (windowAfter x s) = [] := by simp [loopReports, failed, after, mark]
    rw [windowReported, none']
    rfl
  have told : windowTold x s = setLoop x (windowAfter x s) s := by
    rw [windowTold_stands stands, reported, failed, after]
    exact if_pos rfl
  have step : flagRaised (windowStepped x s) .fanFail = flagRaised s .fanFail := by
    have targets : (stepSetTargets (windowTold x s)).events = (windowTold x s).events := by
      by_cases run : (windowTold x s).demand.runState = .run
      · rw [stepSetTargets_run run]
        obtain ⟨-, -, events, -⟩ := setTargets_keeps (stepTargets (windowTold x s)).supply.toNat
          (stepTargets (windowTold x s)).extract.toNat (windowTold x s)
        exact events
      · rw [stepSetTargets_idle run]
    have events : (windowTold x s).events = s.events := by rw [told, setLoop_events]
    unfold windowStepped
    split
    · rw [flagRaised, (reevaluate_frame _).2.2.2.2.2.2.2.2.2.1, ← flagRaised, governorStep,
        judgeAllowance_flag (by simp), flagRaised, targets, events, flagRaised]
    · rw [flagRaised, events, flagRaised]
  obtain ⟨-, -, -, -, events⟩ := windowPosted_keeps x
    (windowFigures x ((windowTold x s).loops.get x) (windowStepped x s)) (windowStepped x s)
  rw [← step, windowEnd_eq, flagRaised, events, flagRaised]

end Sys2Proof.Machine
end

section
/-! The window end of either loop, assembled (O26). -/

namespace Sys2Proof.Machine

theorem retargeted_fields (o k v : Nat) (l : LoopRec) :
    (retargeted o k v l).state = l.state ∧ (retargeted o k v l).drive = l.drive
      ∧ (retargeted o k v l).speed = l.speed ∧ (retargeted o k v l).band = l.band
      ∧ (retargeted o k v l).atCeiling = l.atCeiling ∧ (retargeted o k v l).stallCount = l.stallCount
      ∧ (retargeted o k v l).noEdge = l.noEdge ∧ (retargeted o k v l).startTime = l.startTime
      ∧ (retargeted o k v l).pauseTime = l.pauseTime ∧ (retargeted o k v l).inBand = l.inBand
      ∧ (retargeted o k v l).outBand = l.outBand ∧ (retargeted o k v l).settling = l.settling
      ∧ (retargeted o k v l).latch = l.latch ∧ (retargeted o k v l).failReport = l.failReport :=
  ⟨rfl, rfl, rfl, rfl, rfl, rfl, rfl, rfl, rfl, rfl, rfl, rfl, rfl, rfl⟩

/-- What the window end leaves of its loop: its own work, or of a loop that the step's target stops the figures of
STOPPED (R38). -/
theorem windowEnd_figures (x : Stream) (s : State) [Decidable (Cut x s ∧ (windowAfter x s).state ≠ .stopped)] :
    let a := windowAfter x s
    let l' := (windowEnd x s).loops.get x
    let cleared := Cut x s ∧ a.state ≠ .stopped;
    l'.state = (if cleared then .stopped else a.state) ∧ l'.drive = (if cleared then 0 else a.drive)
      ∧ l'.speed = a.speed ∧ l'.band = a.band ∧ l'.atCeiling = a.atCeiling ∧ l'.stallCount = a.stallCount
      ∧ l'.noEdge = (if cleared then 0 else a.noEdge) ∧ l'.startTime = (if cleared then 0 else a.startTime)
      ∧ l'.pauseTime = (if cleared then 0 else a.pauseTime)
      ∧ (l'.inBand, l'.outBand, l'.settling) = (if cleared then (0, 0, 0) else (a.inBand, a.outBand, a.settling))
      ∧ l'.latch = a.latch ∧ l'.failReport = a.failReport := by
  intro a l' cleared
  obtain ⟨o, k, v, -, cut, kept⟩ := windowEnd_own x s
  by_cases gone : cleared
  · have own : l' = stopped (retargeted o k v a) := cut gone
    simp only [if_pos gone, own]
    exact ⟨rfl, rfl, rfl, rfl, rfl, rfl, rfl, rfl, rfl, rfl, rfl, rfl⟩
  · have own : l' = retargeted o k v a := kept gone
    simp only [if_neg gone, own]
    exact ⟨rfl, rfl, rfl, rfl, rfl, rfl, rfl, rfl, rfl, rfl, rfl, rfl⟩

/-- Settles O26: the loop by its own work and the target then offered, the other by the target alone. -/
theorem extractLoopChangesState : Obligations.ExtractLoopChangesState := by
  unfold Obligations.ExtractLoopChangesState
  intro x s powered
  have exec : exec (.windowEnd x) s = .next (windowEnd x s) := exec_powered (f := windowEnd x) powered rfl
  classical
  obtain ⟨state', drive', speed', band', ceiling', count', edges', start', pause', runs', latch', mark'⟩ := windowEnd_figures x s
  have figures := windowLoop_figures s.settings (s.settings.loops.get x) (loopPressure s x) (s.loops.get x)
  refine ⟨_, exec, ?_, fun y other => ?_⟩
  · intro l l' c dp left target speedTarget error drive noEdge inBand stalls cut cleared counted
    have speedEq : l'.speed = (measureWindow s.settings c dp l).speed := speed'.trans figures.speed
    have bandEq : l'.band = (measureWindow s.settings c dp l).band := band'.trans figures.band
    have errorEq : error = speedError (measureWindow s.settings c dp l) := by
      simp only [error, speedEq]
      rfl
    have driveEq : drive = windowDrive s.settings c dp l := by
      simp only [drive, errorEq]
      rfl
    have noEdgeEq : noEdge =
        if l.edges < 2 ∧ 0 < speedTarget ∧ c.dmin ≤ windowDrive s.settings c dp l then l.noEdge + 1 else 0 := by
      simp only [noEdge, driveEq]
    have within : inBand ↔ s.settings.lockBand ≠ .off
        ∧ (speedError (measureWindow s.settings c dp l)).natAbs ≤ (measureWindow s.settings c dp l).band := by
      simp only [inBand, errorEq, bandEq]
    obtain ⟨stopped, starting, settling, locked, lockedOff, unlocked, stalled, failed⟩ :=
      windowLoop_next s.settings c dp l
    obtain ⟨band, offBand⟩ := preparedLoop_runs s.settings c dp l
    have stallsNow (n : Nat) (same : noEdge = n) : 3 ≤ noEdge ↔ 3 ≤ n := by rw [same]
    refine ⟨stopped, fun found => ?_, fun found => ?_, fun found banded => ?_, fun found off => ?_, fun found => ?_, stalled,
      failed, state'.trans ?_, drive'.trans ?_, ?_, ?_, ?_, ?_, ?_, ?_, ?_, fun to' came => windowEnd_unlocks to' came,
      fun to' came => windowEnd_stalls to' came, ?_, fun to' came => windowEnd_fails to' (.inl came), fun found => ?_⟩
    · exact (starting found).trans (if_congr Iff.rfl rfl (if_congr (by rw [speedEq]) rfl rfl))
    · exact (settling found).trans
        (if_congr (stallsNow _ noEdgeEq).symm rfl (if_congr (and_congr_left' within.symm) rfl rfl))
    · exact (locked found banded).trans (if_congr (stallsNow _ noEdgeEq).symm rfl
        (if_congr (by rw [bandEq]; exact Iff.rfl) rfl (if_congr (and_congr_left' (not_congr within.symm)) rfl rfl)))
    · exact (lockedOff found off).trans (if_congr (stallsNow _ noEdgeEq).symm rfl rfl)
    · exact (unlocked found).trans
        (if_congr (stallsNow _ noEdgeEq).symm rfl (if_congr (and_congr_left' within.symm) rfl rfl))
    · by_cases cutNow : cut
      · rw [if_pos cutNow]
        by_cases gone : left = .stopped
        · exact (if_neg fun both => both.2 gone).trans gone
        · exact if_pos ⟨cutNow, gone⟩
      · exact (if_neg fun both => cutNow both.1).trans (if_neg cutNow).symm
    · exact if_congr Iff.rfl rfl ((windowLoop_drive _ _ _ _).trans (if_congr Iff.rfl driveEq.symm rfl))
    · refine (Bool.coe_iff_coe.mpr ceiling').trans ((windowLoop_atCeiling _ _ _ _).trans ?_)
      rw [driveEq, errorEq]
    · exact count'.trans ((windowLoop_stallCount _ _ _ _).trans (if_congr Iff.rfl rfl rfl))
    · exact edges'.trans (if_congr Iff.rfl rfl ((windowLoop_noEdge _ _ _ _).trans
        (if_congr Iff.rfl (if_congr Iff.rfl noEdgeEq.symm rfl) rfl)))
    · refine start'.trans ?_
      by_cases gone : cleared
      · exact (if_pos gone).trans (if_pos (.inl gone)).symm
      · exact (if_neg gone).trans ((windowLoop_startTime _ _ _ _).trans (if_congr (or_iff_right gone).symm rfl rfl))
    · refine pause'.trans ?_
      by_cases gone : cleared
      · exact (if_pos gone).trans (if_pos (.inl gone)).symm
      · exact (if_neg gone).trans ((windowLoop_pauseTime _ _ _ _).trans (if_congr (or_iff_right gone).symm rfl rfl))
    · have countedEq : bandRun s.settings.lockBand (preparedLoop s.settings c dp l) = counted :=
        band.trans (if_congr within.symm rfl rfl)
      have offEq : offBandRun s.settings.lockBand (preparedLoop s.settings c dp l) =
          if inBand then 0 else l.outBand + 1 := offBand.trans (if_congr within.symm rfl rfl)
      have runs := windowLoop_runs s.settings c dp l
      rw [countedEq, offEq] at runs
      exact runs'.trans (if_congr Iff.rfl rfl runs)
    · exact (Bool.coe_iff_coe.mpr latch').trans (windowLoop_latch _ _ _ _)
    · exact mark'.trans (windowLoop_failReport _ _ _ _)
    · exact ⟨fun fresh => windowEnd_fails (failed found) (.inr fresh),
        fun told => windowEnd_failed_silent found (failed found) told⟩
  · intro m steps zeroed
    rw [windowEnd_other other, offeredLoop_eq, offeredLoop_eq]
    by_cases changed : (windowEnd x s).demand.runState ≠ s.demand.runState
    · exact (if_pos changed).trans ((if_pos rfl).trans (if_pos (.inl changed)).symm)
    · refine (if_neg changed).trans ?_
      by_cases stepped : steps
      · refine (if_pos stepped).trans ?_
        by_cases zero : (windowEnd x s).governor.tE = 0
        · exact (if_pos zero).trans (if_pos (.inr ⟨stepped, zero⟩)).symm
        · have stays : ¬zeroed := fun gone => gone.elim changed fun both => zero both.2
          exact (if_neg zero).trans ((if_neg stays).trans (if_pos stepped)).symm
      · have stays : ¬zeroed := fun gone => gone.elim changed fun both => stepped both.1
        exact (if_neg stepped).trans ((if_neg stays).trans (if_neg stepped)).symm

end Sys2Proof.Machine
end

section
/-! What the filter monitor is told of the loops, up to its own work of a window end (O25). -/

namespace Sys2Proof.Machine

/-! ### A change of a loop's state at the monitor (R100, R119) -/

/-- The monitor told of a loop's change of state: held during a rewrite, judged by the lock-out timers in a capture's
RUN. -/
def toldFilter (x : Stream) (before after : LoopState) (f : FilterMonitor) : FilterMonitor :=
  if before = after then f
  else if f.rewriting then { f with held := f.held ++ [.loopChange x before after] }
  else if f.capture.state = .run then
    { f with
      capture :=
        { f.capture with
          lockOut := f.capture.lockOut.set x (lockOutAfter before after (f.capture.lockOut.get x)) } }
  else f

theorem toldFilter_same (x : Stream) (st : LoopState) (f : FilterMonitor) : toldFilter x st st f = f := if_pos rfl

theorem reportLoopChange_filter (x : Stream) (before after : LoopState) (s : State) :
    (reportLoopChange x before after s).filter = toldFilter x before after s.filter := by
  have posted : (filterPost (.loopChange x before after) s).filter =
      if s.filter.rewriting then { s.filter with held := s.filter.held ++ [.loopChange x before after] }
      else if s.filter.capture.state = .run then
        { s.filter with
          capture :=
            { s.filter.capture with
              lockOut := s.filter.capture.lockOut.set x (lockOutAfter before after (s.filter.capture.lockOut.get x)) } }
      else s.filter := by
    unfold filterPost
    split
    · rfl
    · dsimp only [filterTake, filterLoopChange]
      split <;> rfl
  unfold reportLoopChange toldFilter
  split
  · rfl
  · rw [← posted]
    dsimp only
    split
    · exact (reevaluate_frame _).2.2.2.2.2.2.1
    · rfl

theorem offer_filter (x : Stream) (target : Nat) (s : State) :
    (offer x target s).filter = toldFilter x (s.loops.get x).state (offeredLoop target (s.loops.get x)).state s.filter := by
  unfold offer offeredLoop
  dsimp only
  split
  · exact reportLoopChange_filter x _ _ (setLoop x (zeroTarget (s.loops.get x)) s)
  · exact (toldFilter_same x (s.loops.get x).state s.filter).symm

theorem setTargets_filter (tS tE : Nat) (s : State) :
    (setTargets tS tE s).filter =
      toldFilter .extract s.loops.extract.state (offeredLoop tE s.loops.extract).state
        (toldFilter .supply s.loops.supply.state (offeredLoop tS s.loops.supply).state s.filter) := by
  have supply := offer_filter .supply tS { s with governor := { s.governor with tS := tS, tE := tE } }
  have loops : (offer .supply tS { s with governor := { s.governor with tS := tS, tE := tE } }).loops.get .extract =
      s.loops.extract := by
    rw [offer_loops, PerStream.get_set_other _ _ (by simp)]
    rfl
  unfold setTargets
  rw [offer_filter, loops, supply]
  rfl

/-- Held events of loops, and of the run left. -/
def LoopEvents (es : List FilterEvent) : Prop := ∀ e ∈ es, e = .leftRun ∨ ∃ y before after, e = .loopChange y before after

/-- Between the two the monitor has been told of loops and of the run left, by events held during a rewrite, and by the
capture alone without one. -/
structure ToldOf (f g : FilterMonitor) : Prop where
  holds : f.rewriting = true → ∃ es, g = { f with held := f.held ++ es } ∧ LoopEvents es
  rewriting : g.rewriting = f.rewriting
  kept : f.rewriting = false → g = { f with capture := g.capture }
  absent : f.rewriting = false → f.capture.state = .none → g.capture = f.capture

theorem ToldOf.refl (f : FilterMonitor) : ToldOf f f :=
  ⟨fun _ => ⟨[], by rw [List.append_nil], by simp [LoopEvents]⟩, rfl, fun _ => rfl, fun _ _ => rfl⟩

theorem ToldOf.trans {f g h : FilterMonitor} (first : ToldOf f g) (then' : ToldOf g h) : ToldOf f h := by
  refine ⟨fun busy => ?_, then'.rewriting.trans first.rewriting, fun free => ?_, fun free none' => ?_⟩
  · obtain ⟨es, told, events⟩ := first.holds busy
    obtain ⟨es', told', events'⟩ := then'.holds (first.rewriting.trans busy)
    refine ⟨es ++ es', ?_, fun e mem => ?_⟩
    · rw [told', told, List.append_assoc]
    · obtain mem | mem := List.mem_append.mp mem
      · exact events e mem
      · exact events' e mem
  · rw [then'.kept (first.rewriting.trans free), first.kept free]
  · have same := first.absent free none'
    exact (then'.absent (first.rewriting.trans free) (by rw [same, none'])).trans same

theorem toldFilter_told (x : Stream) (before after : LoopState) (f : FilterMonitor) :
    ToldOf f (toldFilter x before after f) := by
  unfold toldFilter
  split
  · exact .refl f
  split
  next busy =>
    refine ⟨fun _ => ⟨_, rfl, fun e mem => .inr ⟨x, before, after, List.mem_singleton.mp mem⟩⟩, rfl, fun free => ?_, fun free => ?_⟩
    · simp [busy] at free
    · simp [busy] at free
  next free =>
    split
    next run => exact ⟨fun busy => absurd busy free, rfl, fun _ => rfl, fun _ none' => by simp [none'] at run⟩
    next => exact .refl f

theorem leftRun_told (s : State) : ToldOf s.filter (filterPost .leftRun s).filter := by
  rw [leftRunPosted_filter]
  split
  next busy =>
    refine ⟨fun _ => ⟨_, rfl, fun e mem => .inl (List.mem_singleton.mp mem)⟩, rfl, fun free => ?_, fun free => ?_⟩
    · simp [busy] at free
    · simp [busy] at free
  next free => exact ⟨fun busy => absurd busy free, rfl, fun _ => rfl, fun _ none' => if_pos none'⟩

theorem setTargets_told (tS tE : Nat) (s : State) : ToldOf s.filter (setTargets tS tE s).filter := by
  rw [setTargets_filter]
  exact (toldFilter_told _ _ _ _).trans (toldFilter_told _ _ _ _)

theorem changeRunState_told (rs : RunState) (s : State) : ToldOf s.filter (changeRunState rs s).filter := by
  by_cases change : rs = s.demand.runState
  · rw [changeRunState, changeRunStateWith_same change]
    exact .refl _
  have entered : ToldOf s.filter (runStateEntered rs s).filter := by
    unfold runStateEntered
    dsimp only
    rw [(guardRunReport_frame rs _).2.2.2.2.2.1]
    split
    · exact .refl _
    · exact setTargets_told 0 0 { s with demand := { s.demand with runState := rs } }
  rw [changeRunState, changeRunStateWith_filter change]
  split
  · exact entered.trans (leftRun_told _)
  · exact entered

/-! ### The monitor up to its own work -/

theorem governorStep_filter (s : State) : (governorStep s).filter = (stepSetTargets s).filter := by simp [governorStep]

theorem windowStepped_filter (x : Stream) (s : State) :
    (windowStepped x s).filter =
      if x = .supply then (stepSetTargets (windowTold x s)).filter else (windowTold x s).filter := by
  unfold windowStepped
  split
  · rw [(reevaluate_frame _).2.2.2.2.2.2.1, governorStep_filter]
  · rfl

/-- Up to the monitor's own work of the window end it has been told of the loops and of the run left. -/
theorem windowStepped_told (x : Stream) (s : State) : ToldOf s.filter (windowStepped x s).filter := by
  obtain ⟨-, -, -, -, filter, -⟩ := windowReported_keeps x s
  have told : ToldOf s.filter (windowTold x s).filter := by
    by_cases stops : StopsUnit x s
    · rw [windowTold_stops stops, reportLoopChange_filter]
      have changed := changeRunState_told .faultStop (windowReported x s)
      rw [filter] at changed
      exact changed.trans (toldFilter_told _ _ _ _)
    · rw [windowTold_stands stops, reportLoopChange_filter, filter]
      exact toldFilter_told _ _ _ _
  rw [windowStepped_filter]
  split
  · refine told.trans ?_
    by_cases run : (windowTold x s).demand.runState = .run
    · rw [stepSetTargets_run run]
      exact setTargets_told _ _ _
    · rw [stepSetTargets_idle run]
      exact .refl _
  · exact told

/-- The other stream. -/
def otherStream : Stream → Stream
  | .supply => .extract
  | .extract => .supply

/-- A window end that does not stop the unit tells the monitor of its loop, and then of what the step's targets make of
both (R29, R39). -/
theorem windowStepped_kept {x : Stream} {s : State} (stands : ¬StopsUnit x s) :
    (windowStepped x s).filter =
      toldFilter (otherStream x) (s.loops.get (otherStream x)).state ((windowEnd x s).loops.get (otherStream x)).state
        (toldFilter x (windowAfter x s).state ((windowEnd x s).loops.get x).state
          (toldFilter x (s.loops.get x).state (windowAfter x s).state s.filter)) := by
  obtain ⟨-, -, -, -, filter, -⟩ := windowReported_keeps x s
  obtain ⟨loops, demand, governor, settings⟩ := windowTold_kept stands
  have told : (windowTold x s).filter = toldFilter x (s.loops.get x).state (windowAfter x s).state s.filter := by
    rw [windowTold_stands stands, reportLoopChange_filter, filter]
  obtain ⟨-, -, still, step⟩ := windowEnd_kept stands
  by_cases steps : x = .supply ∧ s.demand.runState = .run
  · obtain ⟨rfl, run⟩ := steps
    obtain ⟨tS, tE, set⟩ := step rfl run
    have running : (windowTold .supply s).demand.runState = .run := by rw [demand, run]
    have taken : stepTargets (windowTold .supply s) = bothOrNeither
        (ceilingMatch s.settings (s.loops.set .supply (windowAfter .supply s))
          (rawTargets s.demand.d s.settings.offset s.governor.r)) := by
      rw [stepTargets, settings, loops, demand, governor]
    rw [windowStepped_filter, if_pos rfl, stepSetTargets_run running, setTargets_filter, told, loops, taken, set]
    rfl
  · obtain ⟨same, -⟩ := still steps
    have own : (windowEnd x s).loops.get x = windowAfter x s := by rw [same, PerStream.get_set_same]
    have other : (windowEnd x s).loops.get (otherStream x) = s.loops.get (otherStream x) := by
      rw [same]
      cases x <;> rfl
    rw [own, other, toldFilter_same, toldFilter_same, ← told, windowStepped_filter]
    split
    next supply =>
      have idle : (windowTold x s).demand.runState ≠ .run := fun run => steps ⟨supply, by rwa [demand] at run⟩
      rw [stepSetTargets_idle idle]
    next => rfl

end Sys2Proof.Machine
end

section
/-! A window end measures, and feeds the filter monitor (O25). -/

namespace Sys2Proof.Machine

/-! ### The measurement shown (R22 to R28) -/

/-- The measured figures of a loop. -/
structure MeasuredAs (m l : LoopRec) : Prop where
  n : l.n = m.n
  d : l.d = m.d
  edges : l.edges = m.edges
  span : l.span = m.span
  lastEdge : l.lastEdge = m.lastEdge
  speed : l.speed = m.speed
  flow : l.flow = m.flow
  band : l.band = m.band
  ended : l.ended = m.ended
  window : l.window = m.window
  shownTarget : l.shownTarget = m.shownTarget

theorem SameFigures.measured {m l : LoopRec} (same : SameFigures m l) : MeasuredAs m l :=
  ⟨same.n, same.d, same.edges, same.span, same.lastEdge, same.speed, same.flow, same.band, same.ended, same.window,
    same.shownTarget⟩

theorem offeredLoop_measures (target : Nat) (l : LoopRec) : MeasuredAs l (offeredLoop target l) := by
  rw [offeredLoop_eq]
  (repeat' split) <;> constructor <;> rfl

theorem offeredLoop_stallCount (target : Nat) (l : LoopRec) : (offeredLoop target l).stallCount = l.stallCount := by
  rw [offeredLoop_eq]
  (repeat' split) <;> rfl

/-- The loop of the window end shows the window end's measurement, and has its target unless one of 0 was offered. -/
theorem windowEnd_measured (x : Stream) (s : State) :
    let m := measureWindow s.settings (s.settings.loops.get x) (loopPressure s x) (s.loops.get x)
    MeasuredAs m ((windowEnd x s).loops.get x)
      ∧ ((((windowEnd x s).loops.get x).taken = m.taken ∧ ((windowEnd x s).loops.get x).speedTarget = m.speedTarget)
          ∨ (((windowEnd x s).loops.get x).taken = 0 ∧ ((windowEnd x s).loops.get x).speedTarget = 0
            ∧ ((windowEnd x s).loops.get x).offered = 0)) := by
  intro m
  have same : SameFigures m (windowAfter x s) := windowLoop_figures _ _ _ _
  obtain ⟨o, k, v, taken, cut, kept⟩ := windowEnd_own x s
  have targets : (k = m.taken ∧ v = m.speedTarget) ∨ (k = 0 ∧ v = 0 ∧ o = 0) := by
    rw [← same.taken, ← same.speedTarget]
    exact taken
  obtain ⟨n, d, edges, span, lastEdge, speed, flow, band, ended, window, shownTarget⟩ := same.measured
  by_cases gone : Cut x s ∧ (windowAfter x s).state ≠ .stopped
  · rw [cut gone]
    exact ⟨⟨n, d, edges, span, lastEdge, speed, flow, band, ended, window, shownTarget⟩, targets⟩
  · rw [kept gone]
    exact ⟨⟨n, d, edges, span, lastEdge, speed, flow, band, ended, window, shownTarget⟩, targets⟩

theorem windowEnd_other_measured {x y : Stream} (other : y ≠ x) (s : State) :
    MeasuredAs (s.loops.get y) ((windowEnd x s).loops.get y)
      ∧ ((windowEnd x s).loops.get y).stallCount = (s.loops.get y).stallCount := by
  rw [windowEnd_other other]
  split
  · exact ⟨offeredLoop_measures _ _, offeredLoop_stallCount _ _⟩
  split
  · exact ⟨offeredLoop_measures _ _, offeredLoop_stallCount _ _⟩
  · exact ⟨by constructor <;> rfl, rfl⟩

/-! ### The figures handed to the monitor (log 50) -/

theorem windowTold_own (x : Stream) (s : State) :
    ((windowTold x s).loops.get x).state = (windowAfter x s).state
      ∧ ((windowTold x s).loops.get x).flow = (windowAfter x s).flow
      ∧ ((windowTold x s).loops.get x).ended = (windowAfter x s).ended := by
  by_cases stops : StopsUnit x s
  · obtain ⟨loops, -⟩ := windowTold_stopped stops
    rw [loops, PerStream.get_set_same, offeredLoop_zero_failed stops.1.2]
    exact ⟨rfl, rfl, rfl⟩
  · rw [(windowTold_kept stops).1, PerStream.get_set_same]
    exact ⟨rfl, rfl, rfl⟩

theorem windowStepped_cascade (x : Stream) (s : State) :
    Cascade True (setLoop x (windowAfter x s) s) (windowStepped x s) := by
  have told : Cascade True (setLoop x (windowAfter x s) s) (windowTold x s) := reportTransition_cascade _ _ _ _
  exact told.trans (Cascade.ite (fun _ => (governorStep_cascade _).trans (reevaluate_cascade _)) fun _ => .refl)

/-- What the window end hands to the monitor. -/
def handedFigures (x : Stream) (s : State) : WindowFigures :=
  windowFigures x ((windowTold x s).loops.get x) (windowStepped x s)

theorem handedFigures_eq (x : Stream) (s : State) :
    handedFigures x s =
      { state := (windowAfter x s).state, flow := ((windowEnd x s).loops.get x).flow, ended := (s.loops.get x).window
        pressure := channelValue s (pressureChannel x), fRef := s.settings.fRef
        onTarget := onTarget (windowEnd x s).loops.supply && onTarget (windowEnd x s).loops.extract } := by
  obtain ⟨state, flow, ended⟩ := windowTold_own x s
  obtain ⟨measured, -⟩ := windowEnd_measured x s
  have same : SameFigures _ (windowAfter x s) := windowLoop_figures _ _ _ _
  have cascade := windowStepped_cascade x s
  have pressure : channelValue (windowStepped x s) (pressureChannel x) = channelValue s (pressureChannel x) := by
    rw [cascade.channelValue]
    simp [channelValue]
  have settings : (windowStepped x s).settings = s.settings := by
    obtain ⟨-, settings, -⟩ := cascade.outer
    simpa using settings
  obtain ⟨loops, -⟩ := windowPosted_keeps x (handedFigures x s) (windowStepped x s)
  have after : (windowEnd x s).loops = (windowStepped x s).loops := loops
  unfold handedFigures windowFigures loopsOnTarget
  rw [state, flow, ended, pressure, settings, after, same.flow, same.ended, ← measured.flow, after]
  rfl

/-! ### The monitor's capture and the controller's record of it -/

theorem passToRun_inForce (settled : Bool) (s : State) :
    (passToRun settled s).demand.captureInForce =
      if s.filter.capture.state = .wait ∧ 2 ≤ s.filter.capture.windows ∧ settled = true then true
      else s.demand.captureInForce := by
  unfold passToRun captureReport
  dsimp only
  split
  · simp
  · rfl

/-- The capture that a window end finds when it judges the passage to RUN. -/
theorem filterWindowEnd_inForce (x : Stream) (w : WindowFigures) (s : State) :
    let c := countedCapture x (sampledCapture x w s.filter.capture)
    (filterWindowEnd x w s).demand.captureInForce =
      if c.state = .wait ∧ 2 ≤ c.windows ∧ w.onTarget = true then true else s.demand.captureInForce := by
  obtain ⟨f, found, counted⟩ := filterWindowEnd_counted x w s
  rw [counted, passToRun_inForce]
  simp only [found]

/-! ### The lock-out timers of a capture's RUN (R119) -/

theorem lockOutAfter_same (st : LoopState) (q : Option Nat) : lockOutAfter st st q = q := by
  unfold lockOutAfter
  rw [if_neg fun both => both.2 both.1, if_neg fun both => both.1 both.2]

/-- The monitor with other lock-out timers. -/
def withLockOut (f : FilterMonitor) (q : PerStream (Option Nat)) : FilterMonitor :=
  { f with capture := { f.capture with lockOut := q } }

theorem toldFilter_run {x : Stream} {before after : LoopState} {f : FilterMonitor} (free : f.rewriting = false)
    (run : f.capture.state = .run) (q : PerStream (Option Nat)) :
    toldFilter x before after (withLockOut f q) = withLockOut f (q.set x (lockOutAfter before after (q.get x))) := by
  unfold toldFilter
  split
  next same =>
    subst same
    rw [lockOutAfter_same, PerStream.set_get_self]
  next => simp [withLockOut, free, run]

theorem toldFilter_idle {x : Stream} {before after : LoopState} {f : FilterMonitor} (free : f.rewriting = false)
    (idle : f.capture.state ≠ .run) : toldFilter x before after f = f := by
  unfold toldFilter
  simp [free, idle]

theorem windowStepped_idle {x : Stream} {s : State} (stands : ¬StopsUnit x s) (free : s.filter.rewriting = false)
    (idle : s.filter.capture.state ≠ .run) : (windowStepped x s).filter = s.filter := by
  rw [windowStepped_kept stands, toldFilter_idle free idle, toldFilter_idle free idle, toldFilter_idle free idle]

theorem eq_otherStream {x y : Stream} (other : y ≠ x) : y = otherStream x := by
  cases x <;> cases y <;> simp_all [otherStream]

/-- In a capture's RUN a window end that keeps the unit running starts and stops the lock-out timers. -/
theorem windowStepped_run {x : Stream} {s : State} (stands : ¬StopsUnit x s) (free : s.filter.rewriting = false)
    (run : s.filter.capture.state = .run) :
    ∃ q : PerStream (Option Nat),
      (windowStepped x s).filter = withLockOut s.filter q
        ∧ q.get x =
            lockOutAfter (windowAfter x s).state ((windowEnd x s).loops.get x).state
              (lockOutAfter (s.loops.get x).state (windowAfter x s).state (s.filter.capture.lockOut.get x))
        ∧ ∀ y, y ≠ x →
            q.get y =
              lockOutAfter (s.loops.get y).state ((windowEnd x s).loops.get y).state (s.filter.capture.lockOut.get y) := by
  have apart : otherStream x ≠ x := by cases x <;> simp [otherStream]
  have told := windowStepped_kept stands
  have own : s.filter = withLockOut s.filter s.filter.capture.lockOut := rfl
  rw [own, toldFilter_run free run, toldFilter_run free run, toldFilter_run free run] at told
  refine ⟨_, told, ?_, fun y other => ?_⟩
  · rw [PerStream.get_set_other _ _ apart.symm, PerStream.get_set_same, PerStream.get_set_same]
  · rw [eq_otherStream other, PerStream.get_set_same, PerStream.get_set_other _ _ apart, PerStream.get_set_other _ _ apart]

/-! ### A capture aborted by the unit's stop (R118, R120) -/

theorem windowStepped_stops_demand {x : Stream} {s : State} (stops : StopsUnit x s) :
    (windowStepped x s).demand = (windowTold x s).demand ∧ (windowStepped x s).filter = (windowTold x s).filter := by
  obtain ⟨-, runState, -⟩ := windowTold_stopped stops
  have idle : (windowTold x s).demand.runState ≠ .run := by simp [runState]
  refine ⟨?_, ?_⟩
  · unfold windowStepped
    split
    · rw [(reevaluate_frame _).2.2.2.2.1, governorStep_demand]
    · rfl
  · rw [windowStepped_filter, stepSetTargets_idle idle, ite_self]

theorem windowEnd_aborts {x : Stream} {s : State} (stops : StopsUnit x s) (run : s.demand.runState = .run)
    (free : s.filter.rewriting = false) (present : s.filter.capture.state ≠ .none) :
    (windowStepped x s).filter.capture = Capture.empty ∧ (windowEnd x s).demand.captureInForce = false
      ∧ flagRaised (windowEnd x s) .captureAborted = true := by
  obtain ⟨-, demand, -, -, filter, -⟩ := windowReported_keeps x s
  have change : RunState.faultStop ≠ (windowReported x s).demand.runState := by simp [run]
  obtain ⟨empty, inForce, flag⟩ := changeRunStateWith_aborts change (by rw [demand, run]) (by rw [filter, free])
    (by rwa [filter]) []
  obtain ⟨sameDemand, sameFilter⟩ := windowStepped_stops_demand stops
  have told := windowTold_stops stops
  have freed : (changeRunState .faultStop (windowReported x s)).filter.rewriting = false :=
    (changeRunState_told _ _).rewriting.trans (by rw [filter, free])
  have emptied : (windowStepped x s).filter.capture = Capture.empty := by
    rw [sameFilter, told, reportLoopChange_filter, toldFilter_idle freed]
    · exact empty
    · rw [changeRunState, empty]
      simp [Capture.empty]
  have still : (windowStepped x s).filter.rewriting = false := (windowStepped_told x s).rewriting.trans free
  refine ⟨emptied, ?_, ?_⟩
  · have posted : windowEnd x s = filterWindowEnd x (handedFigures x s) (windowStepped x s) :=
      filterPost_taken _ _ still
    have none' : (sampledCapture x (handedFigures x s) Capture.empty).state = .none :=
      sampledCapture_state _ _ _
    have counted : (countedCapture x (sampledCapture x (handedFigures x s) Capture.empty)).state = .none := by
      unfold countedCapture
      split <;> exact none'
    rw [posted, filterWindowEnd_inForce, emptied, if_neg (by simp [counted]), sameDemand, told,
      (reportLoopChange_keeps x _ _ _).1]
    exact inForce
  · have onward : Cascade True (changeRunState .faultStop (windowReported x s)) (windowEnd x s) := by
      have reported : Cascade True (changeRunState .faultStop (windowReported x s)) (windowTold x s) := by
        rw [told]
        exact reportLoopChange_cascade _ _ _ _
      exact reported.trans (handWindowEnd_cascade _ _)
    exact onward.flag flag

end Sys2Proof.Machine
end

section
/-! A window end measures, and feeds the filter monitor: the statement (O25). -/

namespace Sys2Proof.Machine

theorem windowEnd_held {x : Stream} {s : State} (rewriting : s.filter.rewriting = true) :
    ∃ es, (windowEnd x s).filter = { s.filter with held := s.filter.held ++ es ++ [.windowEnd x (handedFigures x s)] }
      ∧ LoopEvents es := by
  have told := windowStepped_told x s
  obtain ⟨es, before, events⟩ := told.holds rewriting
  have busy : (windowStepped x s).filter.rewriting = true := told.rewriting.trans rewriting
  have held : windowEnd x s = { windowStepped x s with filter :=
      { (windowStepped x s).filter with
        held := (windowStepped x s).filter.held ++ [.windowEnd x (handedFigures x s)] } } :=
    filterPost_held _ _ busy
  exact ⟨es, by rw [held, before], events⟩

theorem windowEnd_taken {x : Stream} {s : State} (free : s.filter.rewriting = false) :
    windowEnd x s = filterWindowEnd x (handedFigures x s) (windowStepped x s) :=
  filterPost_taken _ _ ((windowStepped_told x s).rewriting.trans free)

/-- The monitor after a window end that no rewrite holds: its own work on what it was told up to it. -/
theorem windowEnd_filter {x : Stream} {s : State} (free : s.filter.rewriting = false) :
    (windowEnd x s).filter =
      windowFilter x (handedFigures x s) { s.filter with capture := (windowStepped x s).filter.capture } := by
  rw [windowEnd_taken free, filterWindowEnd_filter, ← (windowStepped_told x s).kept free]

/-- A capture that waits passes to RUN, or has its window ends counted (R115). -/
theorem windowEnd_waits {x : Stream} {s : State} (free : s.filter.rewriting = false) (stands : ¬StopsUnit x s)
    (waiting : s.filter.capture.state = .wait) :
    let windows := s.filter.capture.windows + if x = .supply then 1 else 0
    let passes := 2 ≤ windows ∧ (handedFigures x s).onTarget = true
    (passes →
        (windowEnd x s).filter.capture =
            { s.filter.capture with state := .run, windows := windows, timer := 0, lockOut := ⟨none, none⟩ }
          ∧ (windowEnd x s).demand.captureInForce = true)
      ∧ (¬passes → (windowEnd x s).filter.capture = { s.filter.capture with windows := windows }) := by
  intro windows passes
  have still : (windowStepped x s).filter = s.filter := windowStepped_idle stands free (by simp [waiting])
  have capture : (windowEnd x s).filter.capture =
      passedCapture (handedFigures x s).onTarget { s.filter.capture with windows := windows } := by
    rw [windowEnd_filter free, still]
    exact windowCapture_wait waiting
  have counted : countedCapture x (sampledCapture x (handedFigures x s) s.filter.capture) =
      { s.filter.capture with windows := windows } := by
    rw [sampledCapture_idle (by simp [waiting])]
    cases x with
    | supply => exact if_pos ⟨rfl, waiting⟩
    | extract => exact if_neg (by simp)
  rw [capture]
  refine ⟨fun both => ⟨if_pos ⟨waiting, both⟩, ?_⟩, fun fails => if_neg fun all => fails ⟨all.2.1, all.2.2⟩⟩
  rw [windowEnd_taken free, filterWindowEnd_inForce, still, counted]
  exact if_pos ⟨waiting, both⟩

/-- In a capture's RUN a window end of a named filter is summed (R116, R119). -/
theorem sampledCapture_sum {x : Stream} {w : WindowFigures} {c : Capture} (run : c.state = .run) :
    sampledCapture x w c =
      { c with sum := (sampledCapture x w c).sum, count := (sampledCapture x w c).count }
      ∧ (∀ y, y ≠ x → (sampledCapture x w c).sum.get y = c.sum.get y ∧ (sampledCapture x w c).count.get y = c.count.get y)
      ∧ (∀ v, pressureSample w = some v → c.named.get x = true →
          (sampledCapture x w c).sum.get x = c.sum.get x + v ∧ (sampledCapture x w c).count.get x = c.count.get x + 1)
      ∧ (pressureSample w = none ∨ c.named.get x = false →
          (sampledCapture x w c).sum.get x = c.sum.get x ∧ (sampledCapture x w c).count.get x = c.count.get x) := by
  unfold sampledCapture
  cases pressureSample w with
  | none => simp
  | some v =>
    by_cases named : c.named.get x = true
    · have summed : sumSample x v c =
          { c with sum := c.sum.set x (c.sum.get x + v), count := c.count.set x (c.count.get x + 1) } :=
        if_pos ⟨run, named⟩
      dsimp only
      rw [summed]
      refine ⟨rfl, fun y other => ?_, fun u same _ => ?_, fun lacking => ?_⟩
      · exact ⟨PerStream.get_set_other _ _ other, PerStream.get_set_other _ _ other⟩
      · cases same
        exact ⟨PerStream.get_set_same _ _ _, PerStream.get_set_same _ _ _⟩
      · simp [named] at lacking
    · have still : sumSample x v c = c := if_neg fun both => named both.2
      dsimp only
      rw [still]
      exact ⟨rfl, fun _ _ => ⟨rfl, rfl⟩, fun _ _ given => absurd given named, fun _ => ⟨rfl, rfl⟩⟩

/-- The parts of the monitor that a window end changes, and what it makes of them (R104, R108). -/
theorem windowEnd_parts {x : Stream} {s : State} (free : s.filter.rewriting = false) :
    let f := s.filter
    let f' := (windowEnd x s).filter
    let w := handedFigures x s
    f' = { f with records := f'.records, pending := f'.pending, latest := f'.latest, sampled := f'.sampled
                  capture := f'.capture }
      ∧ f'.records = f.records.set x (windowRecord (w.flow * w.ended) f x)
      ∧ f'.pending = f.pending.set x (windowPending (w.flow * w.ended) f x)
      ∧ f'.latest = (pressureSample w).elim f.latest (fun v => f.latest.set x (some v))
      ∧ f'.sampled = (pressureSample w).elim f.sampled (fun _ => f.sampled.set x true)
      ∧ f'.capture = windowCapture x w (windowStepped x s).filter.capture := by
  intro f f' w
  have filter : f' = windowFilter x w { f with capture := (windowStepped x s).filter.capture } := windowEnd_filter free
  rw [filter]
  exact ⟨rfl, rfl, rfl, rfl, rfl, rfl⟩

theorem onTarget_iff (l : LoopRec) : onTarget l = true ↔ l.state = .locked ∧ l.taken = l.offered := by
  simp [onTarget]

/-- Settles O25: the measurement by the loop's own figures, the monitor by its own work on what it was told. -/
theorem windowEndMeasures : Obligations.WindowEndMeasures := by
  unfold Obligations.WindowEndMeasures
  intro x s powered
  have exec : exec (.windowEnd x) s = .next (windowEnd x s) := exec_powered (f := windowEnd x) powered rfl
  have cascade : Cascade True (setLoop x (windowAfter x s) s) (windowEnd x s) := windowEnd_cascade x s
  obtain ⟨measured, taken⟩ := windowEnd_measured x s
  obtain ⟨n, d, edges, span, lastEdge, speed, flow, band, ended, window, shownTarget⟩ := measured
  have outer : OuterKept s (setLoop x (windowAfter x s) s) := ⟨rfl, rfl, rfl, rfl, rfl, rfl⟩
  have reports : ReportsOnly s (setLoop x (windowAfter x s) s) := .refl s
  refine ⟨_, exec, OuterKept.trans outer cascade.outer, ReportsOnly.trans reports cascade.reportsOnly, ?_, fun y other => ?_, ?_⟩
  · intro l l' c dp target speedTarget
    refine ⟨n, d, edges, span, lastEdge, speed, ?_, ?_, ended, window, shownTarget, taken⟩
    · rw [speed]
      exact flow
    · refine band.trans ?_
      unfold measureWindow bandOf bandPercent
      cases s.settings.lockBand <;> rfl
  · obtain ⟨same, stalls⟩ := windowEnd_other_measured other s
    exact ⟨same.speed, same.n, same.d, same.flow, same.edges, same.span, same.window, same.ended, same.shownTarget, stalls⟩
  · intro f f' c c' l' handed length air pressure measurable sample timed windows onTarget working figures
    have handedNow : handedFigures x s = figures := handedFigures_eq x s
    refine ⟨fun rewriting => ?_, fun free => ?_⟩
    · rw [← handedNow]
      exact windowEnd_held rewriting
    obtain ⟨kept, records, pending, latest, sampled, capture⟩ := windowEnd_parts (x := x) free
    rw [handedNow] at records pending latest sampled capture
    have records : f'.records = f.records.set x (windowRecord air f x) := records
    have pending : f'.pending = f.pending.set x (windowPending air f x) := pending
    have latest : f'.latest = (pressureSample figures).elim f.latest fun v => f.latest.set x (some v) := latest
    have sampled : f'.sampled = (pressureSample figures).elim f.sampled fun _ => f.sampled.set x true := sampled
    have capture : c' = windowCapture x figures (windowStepped x s).filter.capture := capture
    have lacks : ¬measurable ∨ pressure = none → pressureSample figures = none := fun lacking => pressureSample_none lacking
    have samples (v : Int) (able : measurable) (present : pressure = some v) : pressureSample figures = some (sample v) :=
      pressureSample_measurable able present
    have standing (same : s.demand.runState = (windowEnd x s).demand.runState) : ¬StopsUnit x s := by
      intro stops
      obtain ⟨-, runState, -⟩ := windowEnd_stopped stops
      exact stops.2.2 (same.trans runState)
    have passing : onTarget ↔ 2 ≤ windows ∧ (handedFigures x s).onTarget = true := by
      refine and_congr_right fun _ => ?_
      rw [handedNow, show figures.onTarget = (working .supply && working .extract) from rfl, Bool.and_eq_true]
      refine ⟨fun both => ⟨(onTarget_iff _).mpr (both .supply), (onTarget_iff _).mpr (both .extract)⟩, fun both y => ?_⟩
      cases y with
      | supply => exact (onTarget_iff _).mp both.1
      | extract => exact (onTarget_iff _).mp both.2
    refine ⟨kept, fun y other => ⟨?_, ?_, ?_, ?_⟩, ⟨fun gate => ⟨?_, ?_⟩, fun gate => ⟨?_, ?_⟩⟩, fun dp able present => ⟨?_, ?_⟩,
      fun lacking => ⟨?_, ?_⟩, fun absent => ?_, fun present run left => ?_, fun same waiting passes => ?_,
      fun same waiting fails => ?_, fun same running => ?_⟩
    · rw [records, PerStream.get_set_other _ _ other]
    · rw [pending, PerStream.get_set_other _ _ other]
    · rw [latest]
      cases pressureSample figures with
      | none => rfl
      | some v => exact PerStream.get_set_other _ _ other
    · rw [sampled]
      cases pressureSample figures with
      | none => rfl
      | some v => exact PerStream.get_set_other _ _ other
    · rw [pending, PerStream.get_set_same]
      exact if_pos gate
    · rw [records, PerStream.get_set_same]
      exact if_pos gate
    · rw [records, PerStream.get_set_same]
      exact if_neg (by simpa using gate)
    · rw [pending, PerStream.get_set_same]
      exact if_neg (by simpa using gate)
    · rw [latest, samples dp able present]
      exact PerStream.get_set_same _ _ _
    · rw [sampled, samples dp able present]
      exact PerStream.get_set_same _ _ _
    · rw [latest, lacks lacking]
      rfl
    · rw [sampled, lacks lacking]
      rfl
    · have same : (windowStepped x s).filter.capture = c := (windowStepped_told x s).absent free absent
      rw [capture, same, windowCapture_none absent]
    · have stops : StopsUnit x s := by
        by_contra stands
        exact left ((windowEnd_kept stands).1.trans run)
      obtain ⟨empty, inForce, flag⟩ := windowEnd_aborts stops run free present
      exact ⟨by rw [capture, empty, windowCapture_none rfl], inForce, flag⟩
    · exact (windowEnd_waits free (standing same) waiting).1 (passing.mp passes)
    · exact (windowEnd_waits free (standing same) waiting).2 fun both => fails (passing.mpr both)
    · obtain ⟨q, told, own, others⟩ := windowStepped_run (standing same) free running
      have found : c' = sampledCapture x figures { c with lockOut := q } := by
        rw [capture, told]
        exact windowCapture_run running
      obtain ⟨kept', rest, summed, unsummed⟩ :=
        sampledCapture_sum (x := x) (w := figures) (c := { c with lockOut := q }) running
      rw [← found] at kept' rest summed unsummed
      have timers : c'.lockOut = q := congrArg Capture.lockOut kept'
      refine ⟨?_, ?_, fun y other => ⟨?_, rest y other⟩, fun dp able present named => ?_, fun lacking => ?_⟩
      · rw [timers]
        exact kept'
      · rw [timers]
        exact own
      · rw [timers]
        exact others y other
      · exact summed _ (samples dp able present) named
      · refine unsummed ?_
        obtain unable | absent | unnamed := lacking
        · exact .inl (lacks (.inl unable))
        · exact .inl (lacks (.inr absent))
        · exact .inr unnamed

end Sys2Proof.Machine
end

section
/-! A second end's judgement: the channels, the effectiveness, SENSOR FAILED (O22). -/

namespace Sys2Proof.Machine

/-! ### The channels (R6 to R10, R18) -/

/-- A judged second empties the account and leaves the figures to be shown. -/
theorem judgeSecond_empties (r : ChannelRec) :
    (judgeSecond r).sum = 0 ∧ (judgeSecond r).bad = 0 ∧ (judgeSecond r).injection = r.injection
      ∧ (judgeSecond r).lastFault = r.lastFault ∧ (judgeSecond r).shownFault = r.lastFault
      ∧ (judgeSecond r).shownInjection = r.injection := by
  have kept : (if r.bad = 0 then goodSecond (r.sum / 4) r else badSecond r).injection = r.injection
      ∧ (if r.bad = 0 then goodSecond (r.sum / 4) r else badSecond r).lastFault = r.lastFault := by
    unfold goodSecond badSecond becomeValid
    (repeat' split) <;> exact ⟨rfl, rfl⟩
  exact ⟨rfl, rfl, kept.1, kept.2, rfl, rfl⟩

/-- A judged second, by the channel's state and its bad samples. -/
theorem judgeSecond_judges (r : ChannelRec) :
    let r' := judgeSecond r
    (r.bad = 0 → r.state ≠ .failed →
        r'.state = .valid ∧ r'.value = some (r.sum / 4) ∧ r'.last = some (r.sum / 4) ∧ r'.badSeconds = 0
          ∧ r'.first = r.first ∧ r'.recovery = r.recovery)
      ∧ (r.bad = 0 → r.state = .failed → r.first = false ∨ 10 ≤ r.recovery + 1 →
          r'.state = .valid ∧ r'.value = some (r.sum / 4) ∧ r'.last = some (r.sum / 4) ∧ r'.first = true
            ∧ r'.badSeconds = 0 ∧ r'.recovery = 0)
      ∧ (r.bad = 0 → r.state = .failed → r.first = true → r.recovery + 1 < 10 →
          r'.state = .failed ∧ r'.value = r.value ∧ r'.last = r.last ∧ r'.recovery = r.recovery + 1
            ∧ r'.badSeconds = r.badSeconds ∧ r'.first = true)
      ∧ (0 < r.bad → r.state = .valid →
          r'.state = .suspect ∧ r'.value = r.value ∧ r'.last = r.last ∧ r'.badSeconds = 1)
      ∧ (0 < r.bad → r.state = .suspect → r.badSeconds + 1 < 5 →
          r'.state = .suspect ∧ r'.value = r.value ∧ r'.last = r.last ∧ r'.badSeconds = r.badSeconds + 1)
      ∧ (0 < r.bad → r.state = .suspect → 5 ≤ r.badSeconds + 1 →
          r'.state = .failed ∧ r'.value = none ∧ r'.last = r.last ∧ r'.recovery = 0)
      ∧ (0 < r.bad → r.state = .failed →
          r'.state = .failed ∧ r'.value = r.value ∧ r'.last = r.last ∧ r'.recovery = 0) := by
  intro r'
  have good (none' : r.bad = 0) : r' = { goodSecond (r.sum / 4) r with
      sum := 0, bad := 0, shownFault := r.lastFault, shownInjection := r.injection } := by
    simp only [r', judgeSecond, if_pos none']
  have bad (some' : 0 < r.bad) : r' = { badSecond r with
      sum := 0, bad := 0, shownFault := r.lastFault, shownInjection := r.injection } := by
    simp only [r', judgeSecond, if_neg (Nat.ne_of_gt some')]
  refine ⟨fun none' live => ?_, fun none' failed due => ?_, fun none' failed first early => ?_, fun some' valid => ?_,
    fun some' suspect few => ?_, fun some' suspect many => ?_, fun some' failed => ?_⟩
  · rw [good none', goodSecond]
    cases state : r.state with
    | failed => exact absurd state live
    | valid | suspect => exact ⟨rfl, rfl, rfl, rfl, rfl, rfl⟩
  · rw [good none', goodSecond, failed]
    obtain fresh | late := due
    · simp [fresh, becomeValid]
    · simp [late, becomeValid]
  · rw [good none', goodSecond, failed]
    simp [first, Nat.not_le.mpr early]
  · rw [bad some', badSecond, valid]
    exact ⟨rfl, rfl, rfl, rfl⟩
  · rw [bad some', badSecond, suspect]
    simp [Nat.not_le.mpr few]
  · rw [bad some', badSecond, suspect]
    simp [many]
  · rw [bad some', badSecond, failed]
    exact ⟨rfl, rfl, rfl, rfl⟩

/-! ### The whole measurement (R16, R17) -/

theorem judgeAll_measurement (s : State) :
    (judgeAll s).measurement.channels = s.measurement.channels.update (fun _ r => judgeSecond r)
      ∧ (judgeAll s).measurement.samples = 0
      ∧ (judgeAll s).measurement.quiet = quietAfter s.frost.heaterOutput s.measurement.quiet := by
  refine ⟨by simp [judgeAll]; rfl, by simp [judgeAll], by simp [judgeAll]⟩

theorem judgeAll_effectiveness (s : State) :
    (judgeAll s).measurement.effectiveness = (effectivenessNow (judgeSeconds s)).or s.measurement.effectiveness
      ∧ (judgeAll s).measurement.fresh = (effectivenessNow (judgeSeconds s)).isSome := by
  have counted : (judgeAll s).measurement.effectiveness = (judgeEffectiveness (judgeSeconds s)).measurement.effectiveness
      ∧ (judgeAll s).measurement.fresh = (judgeEffectiveness (judgeSeconds s)).measurement.fresh := ⟨rfl, rfl⟩
  rw [counted.1, counted.2]
  unfold judgeEffectiveness
  cases effectivenessNow (judgeSeconds s) <;> exact ⟨rfl, rfl⟩

/-- The effectiveness of a second end when its conditions hold, in the temperatures that it leaves (R17). -/
theorem effectivenessNow_some {s : State} {tOut tSup tExt : Int} (out : channelValue (judgeAll s) .tOut = some tOut)
    (sup : channelValue (judgeAll s) .tSup = some tSup) (ext : channelValue (judgeAll s) .tExt = some tExt)
    (holds : s.measurement.quiet = 120 ∧ s.loops.supply.state = .locked ∧ s.loops.extract.state = .locked
      ∧ 50 ≤ tExt - tOut) :
    effectivenessNow (judgeSeconds s) = some (clampInt (1000 * (tSup - tOut) / (tExt - tOut)) 0 1000).toNat := by
  have same (ch : Channel) : channelValue (judgeSeconds s) ch = channelValue (judgeAll s) ch := by
    rw [channelValue, channelValue, (judgeAll_measurement s).1]
    rfl
  unfold effectivenessNow
  rw [same, same, same, out, sup, ext]
  exact if_pos holds

theorem effectivenessNow_none {s : State}
    (fails : s.measurement.quiet ≠ 120 ∨ s.loops.supply.state ≠ .locked ∨ s.loops.extract.state ≠ .locked
      ∨ channelValue (judgeAll s) .tOut = none ∨ channelValue (judgeAll s) .tSup = none
      ∨ channelValue (judgeAll s) .tExt = none
      ∨ (∃ tOut tExt, channelValue (judgeAll s) .tOut = some tOut ∧ channelValue (judgeAll s) .tExt = some tExt
          ∧ tExt - tOut < 50)) :
    effectivenessNow (judgeSeconds s) = none := by
  have same (ch : Channel) : channelValue (judgeSeconds s) ch = channelValue (judgeAll s) ch := by
    rw [channelValue, channelValue, (judgeAll_measurement s).1]
    rfl
  unfold effectivenessNow
  rw [same, same, same]
  cases out : channelValue (judgeAll s) .tOut with
  | none => rfl
  | some tOut =>
    cases sup : channelValue (judgeAll s) .tSup with
    | none => rfl
    | some tSup =>
      cases ext : channelValue (judgeAll s) .tExt with
      | none => rfl
      | some tExt =>
        refine if_neg fun ⟨quiet, supply, extract, apart⟩ => ?_
        obtain q | l | l | c | c | c | ⟨a, b, here, there, near⟩ := fails
        · exact q quiet
        · exact l supply
        · exact l extract
        · simp [out] at c
        · simp [sup] at c
        · simp [ext] at c
        · rw [out] at here
          rw [ext] at there
          cases here
          cases there
          omega

/-! ### The reports (R12 to R14) -/

/-- The judged state with its SENSOR FAILED occurrences placed. -/
def secondReported (s : State) : State :=
  reportAll (secondReports (flagRaised s .sensorFailed) s.measurement.channels (judgeAll s).measurement.channels) (judgeAll s)

theorem judgeClosed_eq (s : State) :
    judgeClosed s =
      leaveStartup (reportChanges s.measurement.channels (judgeAll s).measurement.channels (secondReported s)) := rfl

@[simp] theorem secondReported_keeps (s : State) :
    (secondReported s).settings = s.settings ∧ (secondReported s).loops = s.loops
      ∧ (secondReported s).demand = s.demand ∧ (secondReported s).governor = s.governor
      ∧ (secondReported s).frost = s.frost ∧ (secondReported s).filter = s.filter
      ∧ (secondReported s).measurement = (judgeAll s).measurement := by
  simp [secondReported]

theorem mem_secondReports {flagWas : Bool} {before after : PerChannel ChannelRec} {o : EventKind × Source} :
    o ∈ secondReports flagWas before after ↔
      ∃ c, o = (.sensorFailed, .channel c) ∧ (after.get c).state = .failed
        ∧ ((before.get c).state ≠ .failed ∨ flagWas = false) := by
  have listed (c : Channel) : c ∈ Channel.all := by cases c <;> simp [Channel.all]
  unfold secondReports sensorReports
  rw [List.mem_flatMap]
  constructor
  · rintro ⟨c, -, mem⟩
    split at mem
    next holds => exact ⟨c, List.mem_singleton.mp mem, holds⟩
    next => simp at mem
  · rintro ⟨c, rfl, holds⟩
    exact ⟨c, listed c, by rw [if_pos holds]; exact List.mem_singleton_self _⟩

theorem reportAll_flag_other {k : EventKind} {os : List (EventKind × Source)} (other : ∀ o ∈ os, k ≠ o.1) (s : State) :
    flagRaised (reportAll os s) k = flagRaised s k := by
  induction os generalizing s with
  | nil => rfl
  | cons o os rest =>
    rw [List.forall_mem_cons] at other
    have step : flagRaised (reportAll (o :: os) s) k = flagRaised (reportAll os (report o.1 o.2 s)) k := rfl
    rw [step, rest other.2, report_flagRaised_other other.1]

/-- SENSOR FAILED after the occurrences: raised before, or some channel is FAILED (R13, R14). -/
theorem secondReported_flag (s : State) :
    flagRaised (secondReported s) .sensorFailed = true ↔
      flagRaised s .sensorFailed = true ∨ ∃ ch, ((judgeAll s).measurement.channels.get ch).state = .failed := by
  have start (k : EventKind) : flagRaised (judgeAll s) k = flagRaised s k := by
    rw [judgeAll_eq]
    rfl
  constructor
  · intro raised
    by_contra none'
    rw [not_or, not_exists] at none'
    have empty : secondReports (flagRaised s .sensorFailed) s.measurement.channels (judgeAll s).measurement.channels = [] := by
      rw [List.eq_nil_iff_forall_not_mem]
      intro o mem
      obtain ⟨c, -, failed, -⟩ := mem_secondReports.mp mem
      exact none'.2 c failed
    rw [secondReported, empty] at raised
    exact none'.1 ((start _).symm.trans raised)
  · rintro (was | ⟨c, failed⟩)
    · exact reportAll_keeps_flag _ _ _ ((start _).trans was)
    · cases was : flagRaised s .sensorFailed with
      | true => exact reportAll_keeps_flag _ _ _ ((start _).trans was)
      | false =>
        refine reportAll_flagRaised _ _ (.channel c) _ ?_
        rw [was]
        exact mem_secondReports.mpr ⟨c, rfl, failed, .inr rfl⟩

end Sys2Proof.Machine
end

section
/-! The frost guard told of the temperature channels at a second end (O22). -/

namespace Sys2Proof.Machine

/-! ### One channel's report (R92, R93, R84) -/

/-- The channel's value is lost at the second end. -/
def Lost (s : State) (c : Channel) : Prop := (channelValue s c).isSome = true ∧ channelValue (judgeAll s) c = none

/-- The channel's value is back at the second end. -/
def Back (s : State) (c : Channel) : Prop := channelValue s c = none ∧ (channelValue (judgeAll s) c).isSome = true

/-- The report of a channel at a second end. -/
def channelTold (s : State) (c : Channel) (u : State) : State :=
  guardChannelReport c (s.measurement.channels.get c) ((judgeAll s).measurement.channels.get c) u

theorem channelTold_lost {s : State} {c : Channel} (lost : Lost s c) (u : State) :
    channelTold s c u = guardAbsentReport c u := by
  obtain ⟨was, gone⟩ := lost
  obtain ⟨v, was⟩ := Option.isSome_iff_exists.mp was
  rw [channelValue] at was gone
  rw [channelTold, guardChannelReport, was, gone]

theorem channelTold_back {s : State} {c : Channel} (back : Back s c) (u : State) :
    channelTold s c u = guardPresentReport c u := by
  obtain ⟨was, now⟩ := back
  obtain ⟨v, now⟩ := Option.isSome_iff_exists.mp now
  rw [channelValue] at was now
  rw [channelTold, guardChannelReport, was, now]

theorem channelTold_steady {s : State} {c : Channel} (kept : ¬Lost s c) (off : ¬Back s c) (u : State) :
    channelTold s c u = u := by
  rw [Lost, channelValue, channelValue] at kept
  rw [Back, channelValue, channelValue] at off
  unfold channelTold guardChannelReport
  split
  next was now => exact absurd ⟨by rw [was]; rfl, now⟩ kept
  next was now => exact absurd ⟨was, by rw [now]; rfl⟩ off
  next => rfl

theorem guardAbsentReport_blinds {u : State} (c : Channel) (absent : bothAbsent u = true) (stop : u.frost.mode ≠ .frostStop)
    (blind : u.frost.mode ≠ .blind) : guardAbsentReport c u = enterBlind u := by
  have can : canGoBlind u.frost.mode = true := by
    cases mode : u.frost.mode with
    | frostStop => exact absurd mode stop
    | blind => exact absurd mode blind
    | idle | watch | preheat | defrost => rfl
  rw [guardAbsentReport, absent, can]
  rfl

theorem guardAbsentReport_still {u : State} {c : Channel}
    (sighted : bothAbsent u = false ∨ u.frost.mode = .frostStop ∨ u.frost.mode = .blind)
    (other : ¬(c = .tExh ∧ u.frost.mode = .defrost)) : guardAbsentReport c u = u := by
  have stays : (bothAbsent u && canGoBlind u.frost.mode) = false := by
    obtain present | stop | blind := sighted
    · rw [present, Bool.false_and]
    · rw [stop, canGoBlind, Bool.and_false]
    · rw [blind, canGoBlind, Bool.and_false]
  rw [guardAbsentReport, stays, if_neg (by decide), if_neg other]

theorem guardAbsentReport_uncovers {u : State} (sighted : bothAbsent u = false) (defrost : u.frost.mode = .defrost) :
    guardAbsentReport .tExh u = leaveDefrost u := by
  rw [guardAbsentReport, sighted, Bool.false_and, if_neg (by decide), if_pos ⟨rfl, defrost⟩]

theorem guardPresentReport_sees {u : State} (c : Channel) (blind : u.frost.mode = .blind) :
    guardPresentReport c u = leaveBlind u := if_pos blind

theorem guardPresentReport_resumes {u : State} (preheat : u.frost.mode = .preheat) :
    guardPresentReport .tExh u = clearRuns u := by
  rw [guardPresentReport, preheat, if_neg (by decide), if_pos ⟨rfl, rfl⟩]

theorem guardPresentReport_still {u : State} {c : Channel} (sighted : u.frost.mode ≠ .blind)
    (other : ¬(c = .tExh ∧ u.frost.mode = .preheat)) : guardPresentReport c u = u := by
  rw [guardPresentReport, if_neg sighted, if_neg other]

/-! ### Both channels' reports -/

/-- The guard told of T_OUT. -/
def outTold (s : State) : State := channelTold s .tOut (secondReported s)

/-- The guard told of T_OUT and of T_EXH. -/
def guardTold (s : State) : State := channelTold s .tExh (outTold s)

/-- The last temperature is lost, in a state from which the guard goes BLIND. -/
def Blinds (s : State) : Prop :=
  (Lost s .tOut ∨ Lost s .tExh) ∧ channelValue (judgeAll s) .tOut = none ∧ channelValue (judgeAll s) .tExh = none
    ∧ s.frost.mode ≠ .frostStop ∧ s.frost.mode ≠ .blind

/-- A temperature is back in BLIND. -/
def Sees (s : State) : Prop := s.frost.mode = .blind ∧ (Back s .tOut ∨ Back s .tExh)

/-- T_EXH is lost in DEFROST. -/
def Uncovers (s : State) : Prop := ¬Blinds s ∧ s.frost.mode = .defrost ∧ Lost s .tExh

/-- T_EXH is back in PREHEAT. -/
def Resumes (s : State) : Prop := s.frost.mode = .preheat ∧ Back s .tExh

theorem bothAbsent_congr {s t : State} (same : t.measurement.channels = s.measurement.channels) :
    bothAbsent t = bothAbsent s := by
  rw [bothAbsent, channelValue, channelValue, same]
  rfl

theorem secondReported_absent (s : State) : bothAbsent (secondReported s) = bothAbsent (judgeAll s) :=
  bothAbsent_congr (by simp)

@[simp] theorem enterBlind_mode (s : State) : (enterBlind s).frost.mode = .blind := by
  simpa using congrArg FrostGuard.mode (guard_enterBlind s)

@[simp] theorem leaveBlind_mode (s : State) : (leaveBlind s).frost.mode = .watch := by
  simpa using congrArg FrostGuard.mode (guard_leaveBlind s)

theorem outTold_still {s : State} (sighted : ¬(Lost s .tOut ∧ Blinds s)) (unseen : ¬(Back s .tOut ∧ Sees s)) :
    outTold s = secondReported s := by
  by_cases lost : Lost s .tOut
  · refine (channelTold_lost lost _).trans (guardAbsentReport_still ?_ (by simp))
    by_contra goes
    rw [not_or, not_or, Bool.not_eq_false, secondReported_absent, bothAbsent_iff] at goes
    obtain ⟨⟨out, exh⟩, stop, blind⟩ := goes
    exact sighted ⟨lost, .inl lost, out, exh, by simpa using stop, by simpa using blind⟩
  by_cases back : Back s .tOut
  · refine (channelTold_back back _).trans (guardPresentReport_still (fun blind => ?_) (by simp))
    exact unseen ⟨back, by simpa using blind, .inl back⟩
  · exact channelTold_steady lost back _

theorem guardTold_blinds {s : State} (blinds : Blinds s) : guardTold s = enterBlind (secondReported s) := by
  obtain ⟨lost, out, exh, stop, blind⟩ := blinds
  have absent : bothAbsent (secondReported s) = true := by
    rw [secondReported_absent, bothAbsent_iff]
    exact ⟨out, exh⟩
  have enters (c : Channel) : guardAbsentReport c (secondReported s) = enterBlind (secondReported s) :=
    guardAbsentReport_blinds c absent (by simpa using stop) (by simpa using blind)
  by_cases first : Lost s .tOut
  · have told : outTold s = enterBlind (secondReported s) := (channelTold_lost first _).trans (enters _)
    rw [guardTold, told]
    by_cases second : Lost s .tExh
    · exact (channelTold_lost second _).trans (guardAbsentReport_still (.inr (.inr (by simp))) (by simp))
    · exact channelTold_steady second (fun back => by simp [exh, Back] at back) _
  · have told : outTold s = secondReported s := outTold_still (fun both => first both.1) fun both => blind both.2.1
    rw [guardTold, told, channelTold_lost (lost.resolve_left first), enters]

theorem guardTold_sees {s : State} (sees : Sees s) : guardTold s = leaveBlind (secondReported s) := by
  obtain ⟨blind, back⟩ := sees
  have leaves (c : Channel) : guardPresentReport c (secondReported s) = leaveBlind (secondReported s) :=
    guardPresentReport_sees c (by simpa using blind)
  by_cases first : Back s .tOut
  · have told : outTold s = leaveBlind (secondReported s) := (channelTold_back first _).trans (leaves _)
    rw [guardTold, told]
    by_cases lost : Lost s .tExh
    · refine (channelTold_lost lost _).trans (guardAbsentReport_still (.inl ?_) (by simp))
      rw [bothAbsent_congr (t := leaveBlind (secondReported s)) (s := judgeAll s)
        (by simp [leaveBlind, setRequested, reevaluate, setHeaterOutput_channels])]
      obtain ⟨-, present⟩ := first
      rw [← Bool.not_eq_true, bothAbsent_iff]
      rintro ⟨out, -⟩
      rw [out] at present
      cases present
    by_cases again : Back s .tExh
    · exact (channelTold_back again _).trans (guardPresentReport_still (by simp) (by simp))
    · exact channelTold_steady lost again _
  · have told : outTold s = secondReported s := outTold_still (fun both => both.2.2.2.2.2 blind) fun both => first both.1
    rw [guardTold, told, channelTold_back (back.resolve_left first), leaves]

theorem guardTold_uncovers {s : State} (uncovers : Uncovers s) : guardTold s = leaveDefrost (secondReported s) := by
  obtain ⟨sighted, defrost, lost⟩ := uncovers
  have told : outTold s = secondReported s :=
    outTold_still (fun both => sighted both.2) fun both => by simp [Sees, defrost] at both
  rw [guardTold, told, channelTold_lost lost]
  refine guardAbsentReport_uncovers ?_ (by simpa using defrost)
  rw [secondReported_absent, ← Bool.not_eq_true, bothAbsent_iff]
  rintro ⟨out, exh⟩
  exact sighted ⟨.inr lost, out, exh, by simp [defrost], by simp [defrost]⟩

theorem guardTold_resumes {s : State} (resumes : Resumes s) : guardTold s = clearRuns (secondReported s) := by
  obtain ⟨preheat, back⟩ := resumes
  have told : outTold s = secondReported s := by
    refine outTold_still (fun both => ?_) fun both => by simp [Sees, preheat] at both
    obtain ⟨-, -, -, exh, -⟩ := both
    simp [Back, exh] at back
  rw [guardTold, told, channelTold_back back]
  exact guardPresentReport_resumes (by simpa using preheat)

theorem guardTold_still {s : State} (sighted : ¬Blinds s) (unseen : ¬Sees s) (covered : ¬Uncovers s)
    (going : ¬Resumes s) : guardTold s = secondReported s := by
  have told : outTold s = secondReported s := outTold_still (fun both => sighted both.2) fun both => unseen both.2
  rw [guardTold, told]
  by_cases lost : Lost s .tExh
  · refine (channelTold_lost lost _).trans (guardAbsentReport_still ?_ fun both => ?_)
    · by_contra goes
      rw [not_or, not_or, Bool.not_eq_false, secondReported_absent, bothAbsent_iff] at goes
      obtain ⟨⟨out, exh⟩, stop, blind⟩ := goes
      exact sighted ⟨.inr lost, out, exh, by simpa using stop, by simpa using blind⟩
    · exact covered ⟨sighted, by simpa using both.2, lost⟩
  by_cases back : Back s .tExh
  · refine (channelTold_back back _).trans (guardPresentReport_still (fun blind => ?_) fun both => ?_)
    · exact unseen ⟨by simpa using blind, .inr back⟩
    · exact going ⟨by simpa using both.2, back⟩
  · exact channelTold_steady lost back _

/-- The reports to the guard do one of five things. -/
theorem guardTold_cases (s : State) :
    guardTold s = enterBlind (secondReported s) ∨ guardTold s = leaveBlind (secondReported s)
      ∨ guardTold s = leaveDefrost (secondReported s) ∨ guardTold s = clearRuns (secondReported s)
      ∨ guardTold s = secondReported s := by
  by_cases blinds : Blinds s
  · exact .inl (guardTold_blinds blinds)
  by_cases sees : Sees s
  · exact .inr (.inl (guardTold_sees sees))
  by_cases uncovers : Uncovers s
  · exact .inr (.inr (.inl (guardTold_uncovers uncovers)))
  by_cases resumes : Resumes s
  · exact .inr (.inr (.inr (.inl (guardTold_resumes resumes))))
  · exact .inr (.inr (.inr (.inr (guardTold_still blinds sees uncovers resumes))))

/-- The reports to the guard leave the controller, the loops and the monitor. -/
theorem guardTold_keeps (s : State) :
    (guardTold s).demand = s.demand ∧ (guardTold s).loops = s.loops ∧ (guardTold s).filter = s.filter := by
  obtain told | told | told | told | told := guardTold_cases s <;> rw [told]
  · simp [enterBlind]
  · simp [leaveBlind]
  · simp [leaveDefrost, clearRuns]
  · simp [clearRuns]
  · simp

end Sys2Proof.Machine
end

section
/-! The filter monitor told of the pressure channels at a second end (O22). -/

namespace Sys2Proof.Machine

/-- The pressure channel of a stream fails at the second end. -/
def fails (s : State) (x : Stream) : Bool :=
  (s.measurement.channels.get (pressureChannel x)).state != .failed
    && ((judgeAll s).measurement.channels.get (pressureChannel x)).state == .failed

/-- The pressure channel of a stream that fails is told to the filter monitor. -/
def pressureTold (s : State) (x : Stream) (u : State) : State :=
  if fails s x = true then filterPost (.channelFailed x) u else u

theorem pressureReport_eq (s : State) (x : Stream) (u : State) :
    pressureReport x (s.measurement.channels.get (pressureChannel x))
      ((judgeAll s).measurement.channels.get (pressureChannel x)) u = pressureTold s x u := by
  unfold pressureReport pressureTold fails
  simp only [Bool.and_eq_true, bne_iff_ne, beq_iff_eq]

/-- The guard and the filter monitor told of the second end. -/
def allTold (s : State) : State := pressureTold s .extract (pressureTold s .supply (guardTold s))

theorem judgeClosed_told (s : State) : judgeClosed s = leaveStartup (allTold s) := by
  have supply := pressureReport_eq s .supply (guardTold s)
  have extract := pressureReport_eq s .extract (pressureTold s .supply (guardTold s))
  rw [judgeClosed_eq, allTold, ← extract, ← supply]
  rfl

/-- A pressure channel that fails aborts a capture that names its filter, with no rewrite in progress. -/
def Aborts (s : State) : Prop :=
  s.filter.rewriting = false ∧ s.filter.capture.state ≠ .none
    ∧ ∃ x, fails s x = true ∧ s.filter.capture.named.get x = true

theorem pressureTold_held {s u : State} {x : Stream} (rewriting : u.filter.rewriting = true) :
    pressureTold s x u =
      { u with
        filter := { u.filter with held := u.filter.held ++ if fails s x = true then [.channelFailed x] else [] } } := by
  by_cases failed : fails s x = true
  · rw [pressureTold, if_pos failed, filterPost, if_pos rewriting, if_pos failed]
  · rw [pressureTold, if_neg failed, if_neg failed, List.append_nil]

theorem pressureTold_aborts {s u : State} {x : Stream} (free : u.filter.rewriting = false) (failed : fails s x = true)
    (named : u.filter.capture.named.get x = true) : pressureTold s x u = abortCapture .sensor u := by
  have taken : filterPost (.channelFailed x) u = filterChannelFailed x u := filterPost_taken _ _ free
  rw [pressureTold, if_pos failed, taken, filterChannelFailed, if_pos named]

theorem pressureTold_still {s u : State} {x : Stream} (free : u.filter.rewriting = false)
    (spared : u.filter.capture.state = .none ∨ fails s x = false ∨ u.filter.capture.named.get x = false) :
    pressureTold s x u = u := by
  have taken : filterPost (.channelFailed x) u = filterChannelFailed x u := filterPost_taken _ _ free
  unfold pressureTold
  split
  next failed =>
    rw [taken, filterChannelFailed]
    split
    next named =>
      obtain empty | none' | none' := spared
      · exact if_pos empty
      · exact absurd failed (by simp [none'])
      · exact absurd named (by simp [none'])
    next => rfl
  next => rfl

theorem allTold_held {s : State} (rewriting : s.filter.rewriting = true) :
    allTold s =
      { guardTold s with
        filter :=
          { s.filter with
            held := s.filter.held ++ (if fails s .supply = true then [.channelFailed .supply] else [])
              ++ (if fails s .extract = true then [.channelFailed .extract] else []) } } := by
  obtain ⟨-, -, filter⟩ := guardTold_keeps s
  have first : (guardTold s).filter.rewriting = true := by rw [filter, rewriting]
  have second : (pressureTold s .supply (guardTold s)).filter.rewriting = true := by
    rw [pressureTold_held first]
    exact first
  rw [allTold, pressureTold_held second, pressureTold_held first, ← filter]

theorem allTold_aborts {s : State} (aborts : Aborts s) : allTold s = abortCapture .sensor (guardTold s) := by
  obtain ⟨free, present, x, failed, named⟩ := aborts
  obtain ⟨-, -, filter⟩ := guardTold_keeps s
  have free' : (guardTold s).filter.rewriting = false := by rw [filter, free]
  have present' : (guardTold s).filter.capture.state ≠ .none := by rwa [filter]
  have named' : (guardTold s).filter.capture.named.get x = true := by rwa [filter]
  have emptied : (abortCapture .sensor (guardTold s)).filter = { (guardTold s).filter with capture := Capture.empty } :=
    (abortCapture_effect .sensor present').1
  cases x with
  | supply =>
    rw [allTold, pressureTold_aborts free' failed named']
    exact pressureTold_still (by rw [emptied, free']) (.inl (by rw [emptied]; rfl))
  | extract =>
    by_cases both : fails s .supply = true ∧ (guardTold s).filter.capture.named.get .supply = true
    · rw [allTold, pressureTold_aborts free' both.1 both.2]
      exact pressureTold_still (by rw [emptied, free']) (.inl (by rw [emptied]; rfl))
    · have first : pressureTold s .supply (guardTold s) = guardTold s := by
        rw [not_and_or, Bool.not_eq_true, Bool.not_eq_true] at both
        exact pressureTold_still free' (.inr both)
      rw [allTold, first, pressureTold_aborts free' failed named']

theorem allTold_still {s : State} (free : s.filter.rewriting = false) (stays : ¬Aborts s) : allTold s = guardTold s := by
  obtain ⟨-, -, filter⟩ := guardTold_keeps s
  have free' : (guardTold s).filter.rewriting = false := by rw [filter, free]
  have spared (x : Stream) : (guardTold s).filter.capture.state = .none ∨ fails s x = false
      ∨ (guardTold s).filter.capture.named.get x = false := by
    rw [filter]
    by_contra goes
    rw [not_or, not_or, Bool.not_eq_false, Bool.not_eq_false] at goes
    obtain ⟨present, failed, named⟩ := goes
    exact stays ⟨free, present, x, failed, named⟩
  rw [allTold, pressureTold_still free' (spared .supply), pressureTold_still free' (spared .extract)]

/-! ### What the monitor's report leaves -/

theorem abortCapture_frost (c : CaptureCause) (s : State) :
    (abortCapture c s).frost =
      { s.frost with dHanded := (abortCapture c s).frost.dHanded, r := (abortCapture c s).frost.r } := by
  unfold abortCapture captureReport
  split
  · rfl
  · simp [recomputeDemand_eq]

/-- What the monitor's reports do: nothing but to the held events, or an abort. -/
theorem allTold_cases (s : State) :
    allTold s = { guardTold s with filter := { s.filter with held := (allTold s).filter.held } }
      ∨ (Aborts s ∧ allTold s = abortCapture .sensor (guardTold s)) := by
  cases rewriting : s.filter.rewriting with
  | true => exact .inl (by rw [allTold_held rewriting])
  | false =>
    by_cases aborts : Aborts s
    · exact .inr ⟨aborts, allTold_aborts aborts⟩
    · refine .inl ?_
      obtain ⟨-, -, filter⟩ := guardTold_keeps s
      rw [allTold_still rewriting aborts, ← filter]

theorem allTold_handed (s : State) : Handed (guardTold s) (allTold s) := by
  obtain held | ⟨-, aborted⟩ := allTold_cases s
  · rw [held]
    exact .of_frost rfl rfl rfl rfl
  · rw [aborted]
    exact abortCapture_handed _ _

theorem allTold_frost (s : State) :
    (allTold s).frost = { (guardTold s).frost with dHanded := (allTold s).frost.dHanded, r := (allTold s).frost.r } := by
  obtain held | ⟨-, aborted⟩ := allTold_cases s
  · rw [held]
  · rw [aborted]
    exact abortCapture_frost _ _

theorem allTold_flag {s : State} {k : EventKind} (raised : flagRaised (guardTold s) k = true) :
    flagRaised (allTold s) k = true := by
  obtain held | ⟨-, aborted⟩ := allTold_cases s
  · rw [held]
    exact raised
  · rw [aborted]
    have cascade : Cascade True (guardTold s) (abortCapture .sensor (guardTold s)) := abortCapture_cascade _ _
    exact cascade.flag raised

theorem allTold_loops (s : State) : (allTold s).loops = s.loops := by
  obtain held | ⟨-, aborted⟩ := allTold_cases s
  · rw [held, ← (guardTold_keeps s).2.1]
  · rw [aborted, ← (guardTold_keeps s).2.1]
    simp

theorem allTold_runState (s : State) : (allTold s).demand.runState = s.demand.runState := by
  rw [(allTold_handed s).runState, (guardTold_keeps s).1]

/-! ### The guard after both reports (R89, R92, R93) -/

theorem secondReported_guard (s : State) : guard (secondReported s) = guard s := by
  rw [guard, guard, (secondReported_keeps s).2.2.2.2.1]

theorem allTold_blinds {s : State} (blinds : Blinds s) :
    let t := allTold s
    t.frost.mode = .blind ∧ t.frost.requested = s.settings.hMax / 2 ∧ t.frost.r = 0 ∧ t.governor.r = 0
      ∧ t.frost.cold = 0 ∧ t.frost.warm = 0 ∧ t.frost.defrostTimer = 0 ∧ flagRaised t .frostBlind = true
      ∧ flagRaised t .frostState = true := by
  have told := guardTold_blinds blinds
  obtain ⟨-, -, -, -, sighted⟩ := blinds
  have mode : (guardTold s).frost.mode = .blind := by rw [told, enterBlind_mode]
  obtain ⟨blind, state⟩ := enterBlind_reports (s := secondReported s) (by simpa using sighted)
  have entered := guard_enterBlind (secondReported s)
  rw [secondReported_guard, (secondReported_keeps s).1, ← told] at entered
  have governor := enterBlind_governor (secondReported s)
  rw [← told] at blind state governor
  obtain ⟨r, gov⟩ := (allTold_handed s).kept (by simp [mode])
  have handed := (allTold_handed s).guard
  rw [entered] at handed
  refine ⟨by simpa using congrArg FrostGuard.mode handed, by simpa using congrArg FrostGuard.requested handed, ?_, ?_,
    by simpa using congrArg FrostGuard.cold handed, by simpa using congrArg FrostGuard.warm handed,
    by simpa using congrArg FrostGuard.defrostTimer handed, allTold_flag blind, allTold_flag state⟩
  · rw [r]
    simpa using congrArg FrostGuard.r entered
  · rw [gov, governor]

theorem allTold_sees {s : State} (sees : Sees s) :
    let t := allTold s
    t.frost.mode = .watch ∧ t.frost.requested = 0 ∧ flagRaised t .frostState = true := by
  have told := guardTold_sees sees
  have left := guard_leaveBlind (secondReported s)
  rw [← told] at left
  have handed := (allTold_handed s).guard
  rw [left] at handed
  refine ⟨by simpa using congrArg FrostGuard.mode handed, by simpa using congrArg FrostGuard.requested handed,
    allTold_flag ?_⟩
  rw [told]
  exact setFrostMode_reports _ _ (by simp [sees.1])

theorem allTold_uncovers {s : State} (uncovers : Uncovers s) :
    let t := allTold s
    t.frost.mode = .preheat ∧ t.frost.requested = s.frost.requested ∧ t.frost.r = 0 ∧ t.governor.r = 0
      ∧ t.frost.cold = 0 ∧ t.frost.warm = 0 ∧ t.frost.defrostTimer = 0 ∧ flagRaised t .frostState = true := by
  have told := guardTold_uncovers uncovers
  have left := guard_leaveDefrost (secondReported s)
  rw [secondReported_guard, ← told] at left
  have governor := leaveDefrost_governor (secondReported s)
  have state := leaveDefrost_reports (s := secondReported s) (by simpa using uncovers.2.1)
  rw [← told] at governor state
  have mode : (guardTold s).frost.mode = .preheat := by simpa using congrArg FrostGuard.mode left
  obtain ⟨r, gov⟩ := (allTold_handed s).kept (by simp [mode])
  have handed := (allTold_handed s).guard
  rw [left] at handed
  refine ⟨by simpa using congrArg FrostGuard.mode handed, by simpa using congrArg FrostGuard.requested handed, ?_, ?_,
    by simpa using congrArg FrostGuard.cold handed, by simpa using congrArg FrostGuard.warm handed,
    by simpa using congrArg FrostGuard.defrostTimer handed, allTold_flag state⟩
  · rw [r]
    simpa using congrArg FrostGuard.r left
  · rw [gov, governor]

theorem allTold_resumes {s : State} (resumes : Resumes s) :
    let t := allTold s
    t.frost.mode = .preheat ∧ t.frost.requested = s.frost.requested ∧ t.frost.cold = 0 ∧ t.frost.warm = 0 := by
  have told : (guardTold s).frost = { s.frost with cold := 0, warm := 0 } := by
    rw [guardTold_resumes resumes]
    simp [clearRuns]
  have frost := allTold_frost s
  rw [told] at frost
  dsimp only
  rw [frost]
  exact ⟨resumes.1, rfl, rfl, rfl⟩

theorem allTold_steady {s : State} (sighted : ¬Blinds s) (unseen : ¬Sees s) (covered : ¬Uncovers s)
    (going : ¬Resumes s) :
    (allTold s).frost = { s.frost with dHanded := (allTold s).frost.dHanded, r := (allTold s).frost.r } := by
  have frost := allTold_frost s
  rwa [guardTold_still sighted unseen covered going, (secondReported_keeps s).2.2.2.2.1] at frost

/-! ### The capture (R118, R120) -/

theorem allTold_abort {s : State} (aborts : Aborts s) :
    let t := allTold s
    t.filter = { s.filter with capture := Capture.empty }
      ∧ t.demand = { s.demand with captureInForce := false, d := demandOf t } ∧ flagRaised t .captureAborted = true := by
  obtain ⟨demand, -, filter⟩ := guardTold_keeps s
  have effect := abortCapture_effect .sensor (s := guardTold s) (by rw [filter]; exact aborts.2.1)
  rw [demand, filter, ← allTold_aborts aborts] at effect
  exact effect

theorem allTold_kept {s : State} (stays : ¬Aborts s) :
    (allTold s).demand = s.demand ∧ (allTold s).filter = { s.filter with held := (allTold s).filter.held } := by
  obtain held | ⟨aborts, -⟩ := allTold_cases s
  · rw [held]
    exact ⟨(guardTold_keeps s).1, rfl⟩
  · exact absurd aborts stays

theorem allTold_waiting (s : State) :
    (allTold s).filter.held =
      if s.filter.rewriting = true then
        s.filter.held ++ (if fails s .supply = true then [.channelFailed .supply] else [])
          ++ (if fails s .extract = true then [.channelFailed .extract] else [])
      else s.filter.held := by
  cases rewriting : s.filter.rewriting with
  | true => rw [allTold_held rewriting, if_pos rfl]
  | false =>
    rw [if_neg (by decide)]
    by_cases aborts : Aborts s
    · rw [(allTold_abort aborts).1]
    · rw [allTold_still rewriting aborts, (guardTold_keeps s).2.2]

end Sys2Proof.Machine
end

section
/-! What a second end leaves of SENSOR FAILED and of the heater-quiet count, and the end of STARTUP (O22). -/

namespace Sys2Proof.Machine

/-! ### SENSOR FAILED is raised by the channels alone -/

theorem setFrostMode_flag_other (m : FrostMode) {k : EventKind} (other : k ≠ .frostState) (s : State) :
    flagRaised (setFrostMode m s) k = flagRaised s k := by
  unfold setFrostMode
  split
  · rfl
  · exact report_flagRaised_other other _ _

theorem abortCapture_flag_other (c : CaptureCause) {k : EventKind} (other : k ≠ .captureAborted) (s : State) :
    flagRaised (abortCapture c s) k = flagRaised s k := by
  unfold abortCapture captureReport
  split
  · rfl
  · rw [report_flagRaised_other other]
    simp [flagRaised]

theorem guardTold_sensorFailed (s : State) :
    flagRaised (guardTold s) .sensorFailed = flagRaised (secondReported s) .sensorFailed := by
  obtain told | told | told | told | told := guardTold_cases s <;> rw [told]
  · rw [enterBlind, setFrostMode_flag_other _ (by decide), report_flagRaised_other (by decide)]
    simp [flagRaised, clearRuns]
  · rw [leaveBlind, setFrostMode_flag_other _ (by decide)]
    simp [flagRaised]
  · rw [leaveDefrost, setFrostMode_flag_other _ (by decide)]
    simp [flagRaised, clearRuns]
  · rfl

theorem allTold_sensorFailed (s : State) :
    flagRaised (allTold s) .sensorFailed = flagRaised (secondReported s) .sensorFailed := by
  rw [← guardTold_sensorFailed]
  obtain held | ⟨-, aborted⟩ := allTold_cases s
  · rw [held]
    rfl
  · rw [aborted, abortCapture_flag_other _ (by decide)]

theorem runStateEntered_flag_other {k : EventKind} (other : k ≠ .frostState) (rs : RunState) (s : State) :
    flagRaised (runStateEntered rs s) k = flagRaised s k := by
  have entered : (if rs = .run then { s with demand := { s.demand with runState := rs } }
      else setTargets 0 0 { s with demand := { s.demand with runState := rs } }).events = s.events := by
    split
    · rfl
    · exact (setTargets_keeps 0 0 _).2.2.1
  unfold runStateEntered
  dsimp only
  generalize (if rs = .run then { s with demand := { s.demand with runState := rs } }
      else setTargets 0 0 { s with demand := { s.demand with runState := rs } }) = u at entered ⊢
  have seen (r : RunState) : flagRaised (reevaluate { u with frost := { u.frost with runSeen := r } }) k = flagRaised s k := by
    simp [flagRaised, entered]
  have rested (v : State) : flagRaised (restGuard v) k = flagRaised v k := by
    rw [restGuard, setFrostMode_flag_other _ other]
    simp [flagRaised, clearRuns]
  cases rs with
  | startup | run | frostStop => exact seen _
  | rest | smokeStop | faultStop => exact (rested _).trans (seen _)

/-! ### The heater-quiet count (R16) -/

/-- From an output of 0 the count restarts just with an output above 0. -/
def Warms (s t : State) : Prop :=
  s.frost.heaterOutput = 0 →
    t.measurement.quiet = if 0 < t.frost.heaterOutput then 0 else s.measurement.quiet

/-- An output of 0 stays 0, and the count goes on. -/
def Cool (s t : State) : Prop :=
  s.frost.heaterOutput = 0 → t.frost.heaterOutput = 0 ∧ t.measurement.quiet = s.measurement.quiet

/-- The output and the count are as they were. -/
def Unmoved (s t : State) : Prop :=
  t.frost.heaterOutput = s.frost.heaterOutput ∧ t.measurement.quiet = s.measurement.quiet

theorem Unmoved.cool {s t : State} (unmoved : Unmoved s t) : Cool s t := fun off => ⟨unmoved.1.trans off, unmoved.2⟩

theorem Cool.trans {s t u : State} (first : Cool s t) (then' : Cool t u) : Cool s u := fun off => by
  obtain ⟨still, same⟩ := first off
  obtain ⟨still', same'⟩ := then' still
  exact ⟨still', same'.trans same⟩

theorem Cool.warms {s t u : State} (first : Cool s t) (then' : Warms t u) : Warms s u := fun off => by
  obtain ⟨still, same⟩ := first off
  rw [then' still, same]

theorem Cool.toWarms {s t : State} (cool : Cool s t) : Warms s t := fun off => by
  obtain ⟨still, same⟩ := cool off
  rw [still, same]
  rfl

theorem Warms.unmoved {s t u : State} (first : Warms s t) (then' : Unmoved t u) : Warms s u := fun off => by
  rw [then'.1, then'.2, first off]

theorem setHeaterOutput_warms (p : Nat) (s : State) : Warms s (setHeaterOutput p s) := by
  intro off
  have output : (setHeaterOutput p s).frost.heaterOutput = p := by simp
  rw [output]
  unfold setHeaterOutput
  split
  next same => rw [same, off]; rfl
  next moved =>
    rw [off] at moved
    simp [Nat.pos_of_ne_zero moved]

theorem reevaluate_warms (s : State) : Warms s (reevaluate s) := setHeaterOutput_warms _ s

theorem reevaluate_cool {s : State} (idle : s.frost.runSeen ≠ .run ∨ s.frost.requested = 0) : Cool s (reevaluate s) := by
  intro off
  have output : (reevaluate s).frost.heaterOutput = 0 := by
    rw [(reevaluate_frost s).1]
    obtain stopped | none' := idle
    · simp [interlock, stopped]
    · rw [none', ite_self]
  refine ⟨output, ?_⟩
  rw [reevaluate_warms s off, output]
  rfl

theorem setRequested_warms (p : Nat) (s : State) : Warms s (setRequested p s) :=
  reevaluate_warms { s with frost := { s.frost with requested := p } }

theorem setRequested_cool {p : Nat} {s : State} (idle : s.frost.runSeen ≠ .run ∨ p = 0) : Cool s (setRequested p s) :=
  reevaluate_cool (s := { s with frost := { s.frost with requested := p } }) idle

theorem enterBlind_unmoved (s : State) : Unmoved (setRequested (s.settings.hMax / 2) (clearRuns s)) (enterBlind s) := by
  constructor <;> simp [enterBlind]

theorem leaveBlind_unmoved (s : State) : Unmoved (setRequested 0 s) (leaveBlind s) := by
  constructor <;> simp [leaveBlind]

theorem secondReported_unmoved (s : State) : Unmoved (judgeAll s) (secondReported s) := by
  constructor <;> simp [secondReported]

theorem guardTold_warms (s : State) : Warms (judgeAll s) (guardTold s) := by
  have start := (secondReported_unmoved s).cool
  refine start.warms ?_
  obtain told | told | told | told | told := guardTold_cases s <;> rw [told]
  · exact Warms.unmoved (setRequested_warms _ (clearRuns (secondReported s))) (enterBlind_unmoved _)
  · exact (setRequested_warms _ _).unmoved (leaveBlind_unmoved _)
  · exact Cool.toWarms (Unmoved.cool (by constructor <;> simp [leaveDefrost, clearRuns]))
  · exact Cool.toWarms (Unmoved.cool ⟨rfl, rfl⟩)
  · exact Cool.toWarms (Unmoved.cool ⟨rfl, rfl⟩)

theorem guardTold_cool {s : State} (idle : s.frost.runSeen ≠ .run) : Cool (judgeAll s) (guardTold s) := by
  refine (secondReported_unmoved s).cool.trans ?_
  have idle' : (secondReported s).frost.runSeen ≠ .run := by simpa using idle
  obtain told | told | told | told | told := guardTold_cases s <;> rw [told]
  · exact Cool.trans (setRequested_cool (s := clearRuns (secondReported s)) (.inl idle')) (enterBlind_unmoved _).cool
  · exact (setRequested_cool (.inr rfl)).trans (leaveBlind_unmoved _).cool
  · exact Unmoved.cool (by constructor <;> simp [leaveDefrost, clearRuns])
  · exact Unmoved.cool ⟨rfl, rfl⟩
  · exact Unmoved.cool ⟨rfl, rfl⟩

theorem allTold_unmoved (s : State) : Unmoved (guardTold s) (allTold s) := by
  obtain held | ⟨-, aborted⟩ := allTold_cases s
  · rw [held]
    exact ⟨rfl, rfl⟩
  · rw [aborted]
    exact ⟨(abortCapture_leaves _ _).2.2, by simp⟩

/-! ### A run state entered from another in which nothing heats -/

theorem reportLoopChange_cool {x : Stream} {before after : LoopState} {s : State} (idle : s.frost.runSeen ≠ .run) :
    Cool s (reportLoopChange x before after s) := by
  have own := (filterPost_loopChange_eq x before after s).1
  unfold reportLoopChange
  split
  · exact Unmoved.cool ⟨rfl, rfl⟩
  · dsimp only
    rw [own]
    split
    · exact reevaluate_cool (s := { s with filter := (filterPost (.loopChange x before after) s).filter }) (.inl idle)
    · exact Unmoved.cool ⟨rfl, rfl⟩

theorem offer_cool {x : Stream} {target : Nat} {s : State} (idle : s.frost.runSeen ≠ .run) :
    Cool s (offer x target s) := by
  unfold offer
  dsimp only
  split
  · exact reportLoopChange_cool (s := setLoop x (zeroTarget (s.loops.get x)) s) idle
  · exact Unmoved.cool ⟨rfl, rfl⟩

theorem setTargets_cool {tS tE : Nat} {s : State} (idle : s.frost.runSeen ≠ .run) : Cool s (setTargets tS tE s) := by
  have first : Cool s (offer .supply tS { s with governor := { s.governor with tS := tS, tE := tE } }) :=
    offer_cool (s := { s with governor := { s.governor with tS := tS, tE := tE } }) idle
  obtain ⟨-, -, -, -, frost, -⟩ := offer_keeps .supply tS { s with governor := { s.governor with tS := tS, tE := tE } }
  refine first.trans (offer_cool ?_)
  rw [frost]
  exact idle

theorem restGuard_cool (s : State) : Cool s (restGuard s) := by
  have asked : Cool s (setRequested 0 (clearRuns s)) := setRequested_cool (s := clearRuns s) (.inr rfl)
  exact asked.trans (Unmoved.cool (by constructor <;> simp [restGuard]))

theorem runStateEntered_warms {rs : RunState} {s : State} (idle : s.frost.runSeen ≠ .run) :
    Warms s (runStateEntered rs s) := by
  by_cases run : rs = .run
  · subst run
    exact reevaluate_warms
      { s with demand := { s.demand with runState := .run }, frost := { s.frost with runSeen := .run } }
  · have entered : Cool s (setTargets 0 0 { s with demand := { s.demand with runState := rs } }) :=
      setTargets_cool (s := { s with demand := { s.demand with runState := rs } }) idle
    unfold runStateEntered
    dsimp only
    rw [if_neg run]
    generalize setTargets 0 0 { s with demand := { s.demand with runState := rs } } = u at entered ⊢
    have seen : Cool u (reevaluate { u with frost := { u.frost with runSeen := rs } }) :=
      reevaluate_cool (s := { u with frost := { u.frost with runSeen := rs } }) (.inl run)
    refine Cool.toWarms (entered.trans ?_)
    cases rs with
    | startup | run | frostStop => exact seen
    | rest | smokeStop | faultStop => exact seen.trans (restGuard_cool _)

/-! ### The end of STARTUP (R47) -/

theorem leaveStartup_eq {s : State} (startup : s.demand.runState = .startup) :
    ∃ rs os u, leaveStartup s = changeRunStateWith rs os u ∧ rs ≠ .startup
      ∧ (os = [] ∨ ∃ l, os = [(.smokeStop, .line l)])
      ∧ u = { s with demand := { s.demand with smokeSource := u.demand.smokeSource } }
      ∧ rs = if Line.all.any (fun l => s.demand.smokeActive.get l) = true then .smokeStop else ventilating s := by
  have calm : ventilating s ≠ .startup := by
    unfold ventilating
    split <;> decide
  unfold leaveStartup
  rw [if_pos startup]
  cases first : firstSmoke s with
  | some l =>
    have active : Line.all.any (fun l => s.demand.smokeActive.get l) = true :=
      List.any_eq_true.mpr ⟨l, List.mem_of_find?_eq_some first, List.find?_some first⟩
    exact ⟨.smokeStop, _, _, rfl, by decide, .inr ⟨l, rfl⟩, rfl, (if_pos active).symm⟩
  | none =>
    have clear : ¬Line.all.any (fun l => s.demand.smokeActive.get l) = true := by
      rw [List.any_eq_true]
      rintro ⟨l, mem, active⟩
      exact List.find?_eq_none.mp first l mem active
    exact ⟨ventilating s, [], s, rfl, calm, .inl rfl, rfl, (if_neg clear).symm⟩

theorem leaveStartup_runState (s : State) :
    (leaveStartup s).demand.runState =
      if s.demand.runState = .startup then
        (if Line.all.any (fun l => s.demand.smokeActive.get l) = true then .smokeStop else ventilating s)
      else s.demand.runState := by
  by_cases startup : s.demand.runState = .startup
  · obtain ⟨rs, os, u, left, -, -, -, rs_eq⟩ := leaveStartup_eq startup
    rw [if_pos startup, left, changeRunStateWith_demand os, ← rs_eq]
  · rw [leaveStartup, if_neg startup, if_neg startup]

/-- From STARTUP a run state is entered with its occurrences placed. -/
theorem leaveStartup_entered {s : State} (startup : s.demand.runState = .startup) :
    ∃ rs os u, leaveStartup s = reportAll os (runStateEntered rs u) ∧ (∀ o ∈ os, EventKind.sensorFailed ≠ o.1)
      ∧ u = { s with demand := { s.demand with smokeSource := u.demand.smokeSource } } := by
  obtain ⟨rs, os, u, left, change, occurrences, same, -⟩ := leaveStartup_eq startup
  have state : u.demand.runState = .startup := by rw [same]; exact startup
  refine ⟨rs, os, u, left.trans (changeRunStateWith_kept (by rwa [state]) (by simp [state]) os), ?_, same⟩
  obtain rfl | ⟨l, rfl⟩ := occurrences <;> simp

theorem leaveStartup_sensorFailed (s : State) :
    flagRaised (leaveStartup s) .sensorFailed = flagRaised s .sensorFailed := by
  by_cases startup : s.demand.runState = .startup
  · obtain ⟨rs, os, u, left, other, same⟩ := leaveStartup_entered startup
    rw [left, reportAll_flag_other other, runStateEntered_flag_other (by decide), same]
    rfl
  · rw [leaveStartup, if_neg startup]

theorem leaveStartup_warms {s : State} (startup : s.demand.runState = .startup) (idle : s.frost.runSeen ≠ .run) :
    Warms s (leaveStartup s) := by
  obtain ⟨rs, os, u, left, -, same⟩ := leaveStartup_entered startup
  have entered : Warms u (runStateEntered rs u) := runStateEntered_warms (by rw [same]; exact idle)
  have start : Cool s u := Unmoved.cool (by rw [same]; exact ⟨rfl, rfl⟩)
  rw [left]
  exact start.warms (entered.unmoved (by constructor <;> simp))

end Sys2Proof.Machine
end

section
/-! A second end judges the channels (O22). -/

namespace Sys2Proof.Machine

/-! ### The occurrences alone (R14) -/

theorem report_measurement_set (k : EventKind) (src : Source) (m : Measurement) (s : State) :
    report k src { s with measurement := m } = { report k src s with measurement := m } := by
  unfold report placeOccurrence raiseFlag judgeSevere judgeNtf
  dsimp only
  (repeat' split) <;> rfl

theorem reportAll_measurement_set (os : List (EventKind × Source)) (m : Measurement) (s : State) :
    reportAll os { s with measurement := m } = { reportAll os s with measurement := m } := by
  induction os generalizing s with
  | nil => rfl
  | cons o os rest =>
    have step (u : State) : reportAll (o :: os) u = reportAll os (report o.1 o.2 u) := rfl
    rw [step, step, report_measurement_set, rest]

/-- The channels whose occurrence a second end places. -/
def reportedChannels (s : State) : List Channel :=
  Channel.all.filter fun ch =>
    ((judgeAll s).measurement.channels.get ch).state == .failed
      && (!(s.measurement.channels.get ch).state == .failed || !flagRaised s .sensorFailed)

theorem secondReports_eq (s : State) :
    secondReports (flagRaised s .sensorFailed) s.measurement.channels (judgeAll s).measurement.channels =
      (reportedChannels s).map fun ch => (.sensorFailed, .channel ch) := by
  unfold secondReports reportedChannels
  induction Channel.all with
  | nil => rfl
  | cons c cs rest =>
    rw [List.flatMap_cons, rest, List.filter_cons, sensorReports]
    by_cases failed : ((judgeAll s).measurement.channels.get c).state = .failed
    · by_cases was : (s.measurement.channels.get c).state = .failed
      · cases flag : flagRaised s .sensorFailed <;> simp [failed, was]
      · simp [failed, was]
    · simp [failed]

/-- With no channel's presence changed and no pressure channel failed, the occurrences are all that is placed. -/
theorem allTold_calm {s : State} (out : (channelValue s .tOut).isSome = (channelValue (judgeAll s) .tOut).isSome)
    (exh : (channelValue s .tExh).isSome = (channelValue (judgeAll s) .tExh).isSome)
    (supply : fails s .supply = false) (extract : fails s .extract = false) : allTold s = secondReported s := by
  have kept {c : Channel} (same : (channelValue s c).isSome = (channelValue (judgeAll s) c).isSome) : ¬Lost s c := by
    rintro ⟨was, gone⟩
    rw [same, gone] at was
    cases was
  have off {c : Channel} (same : (channelValue s c).isSome = (channelValue (judgeAll s) c).isSome) : ¬Back s c := by
    rintro ⟨was, now⟩
    rw [← same, was] at now
    cases now
  have told : guardTold s = secondReported s := by
    rw [guardTold, outTold, channelTold_steady (kept out) (off out), channelTold_steady (kept exh) (off exh)]
  simp [allTold, pressureTold, supply, extract, told]

theorem secondReported_eq (s : State) :
    secondReported s =
      { reportAll ((reportedChannels s).map fun ch => (.sensorFailed, .channel ch)) s with
        measurement := (judgeAll s).measurement } := by
  rw [secondReported, secondReports_eq, judgeAll_eq, reportAll_measurement_set]

/-! ### The heater-quiet count -/

theorem guardTold_runSeen (s : State) : (guardTold s).frost.runSeen = s.frost.runSeen := by
  have start := secondReported_guard s
  have seen : (guard (guardTold s)).runSeen = (guard s).runSeen := by
    obtain told | told | told | told | told := guardTold_cases s <;> rw [told]
    · rw [guard_enterBlind, start]
    · rw [guard_leaveBlind, start]
    · rw [guard_leaveDefrost, start]
    · rw [guard_clearRuns, start]
    · rw [start]
  simpa using seen

theorem allTold_runSeen (s : State) : (allTold s).frost.runSeen = s.frost.runSeen := by
  rw [allTold_frost]
  exact guardTold_runSeen s

theorem setHeaterOutput_quiet_zero {p : Nat} {s : State} (zero : s.measurement.quiet = 0) :
    (setHeaterOutput p s).measurement.quiet = 0 := by
  unfold setHeaterOutput
  split
  · exact zero
  · simp only [setHeaterEnable_frame]
    split
    · rfl
    · exact zero

/-- A heater-quiet count of 0 stays 0 through a cascade. -/
theorem Cascade.quiet_zero {heat : Prop} {s t : State} (cascade : Cascade heat s t) (zero : s.measurement.quiet = 0) :
    t.measurement.quiet = 0 := by
  refine cascade.keeps (P := fun s => s.measurement.quiet = 0) (fun {s t} beat zero => ?_) zero
  cases beat with
  | settle f l fm => exact setHeaterOutput_quiet_zero (s := { s with frost := f, loops := l, filter := fm }) zero
  | _ => simpa using zero

theorem judgeClosed_warms {s : State} (seen : s.frost.runSeen = s.demand.runState) :
    Warms (judgeAll s) (judgeClosed s) := by
  rw [judgeClosed_told]
  by_cases startup : s.demand.runState = .startup
  · have idle : s.frost.runSeen ≠ .run := by rw [seen, startup]; decide
    have told : Cool (judgeAll s) (allTold s) := (guardTold_cool idle).trans (allTold_unmoved s).cool
    exact told.warms (leaveStartup_warms (by rw [allTold_runState, startup]) (by rwa [allTold_runSeen]))
  · rw [leaveStartup, if_neg (by rwa [allTold_runState])]
    exact (guardTold_warms s).unmoved (allTold_unmoved s)

theorem judgeClosed_quiet {s : State} (seen : s.frost.runSeen = s.demand.runState) :
    (judgeClosed s).measurement.quiet =
      if 0 < s.frost.heaterOutput ∨ 0 < (judgeClosed s).frost.heaterOutput then 0
      else min 120 (s.measurement.quiet + 1) := by
  have counted := (judgeAll_measurement s).2.2
  by_cases heats : 0 < s.frost.heaterOutput
  · rw [if_pos (.inl heats)]
    refine (judgeClosed_cascade s).quiet_zero ?_
    rw [counted, quietAfter, if_pos heats]
  · have output : (judgeAll s).frost.heaterOutput = 0 := by
      rw [judgeAll_eq]
      exact Nat.eq_zero_of_not_pos heats
    rw [judgeClosed_warms seen output, counted, quietAfter, if_neg heats]
    by_cases warm : 0 < (judgeClosed s).frost.heaterOutput
    · rw [if_pos warm, if_pos (.inr warm)]
    · rw [if_neg warm, if_neg (not_or.mpr ⟨heats, warm⟩), saturate, Nat.min_comm]

/-! ### The run state -/

theorem allTold_demand (s : State) :
    (allTold s).demand =
      { s.demand with captureInForce := (allTold s).demand.captureInForce, d := (allTold s).demand.d } := by
  obtain held | ⟨-, aborted⟩ := allTold_cases s
  · rw [held, ← (guardTold_keeps s).1]
  · rw [aborted, (abortCapture_leaves _ _).1, (guardTold_keeps s).1]

theorem judgeClosed_runState (s : State) :
    (judgeClosed s).demand.runState =
      if s.demand.runState = .startup then
        (if Line.all.any (fun l => s.demand.smokeActive.get l) = true then .smokeStop
          else if s.demand.level = .off then .rest else .run)
      else s.demand.runState := by
  rw [judgeClosed_told, leaveStartup_runState, ventilating, allTold_demand]

end Sys2Proof.Machine
end

section
/-! Settling O22. -/

namespace Sys2Proof.Machine

/-! ### The judged second in the state that the second end leaves -/

theorem judgeClosed_channels (s : State) :
    (judgeClosed s).measurement.channels = (judgeAll s).measurement.channels :=
  (judgeClosed_cascade s).channels

theorem judgeClosed_channel (s : State) (ch : Channel) :
    (judgeClosed s).measurement.channels.get ch = judgeSecond (s.measurement.channels.get ch) := by
  rw [judgeClosed_channels, (judgeAll_measurement s).1]
  exact PerChannel.get_update _ _ ch

theorem judgeClosed_value (s : State) (ch : Channel) :
    channelValue (judgeClosed s) ch = channelValue (judgeAll s) ch :=
  (judgeClosed_cascade s).channelValue ch

theorem judgeClosed_sensorFailed (s : State) :
    flagRaised (judgeClosed s) .sensorFailed = true ↔
      flagRaised s .sensorFailed = true ∨ ∃ ch, ((judgeClosed s).measurement.channels.get ch).state = .failed := by
  rw [judgeClosed_channels, judgeClosed_told, leaveStartup_sensorFailed, allTold_sensorFailed, secondReported_flag]

theorem judgeClosed_effectiveness (s : State) :
    (judgeClosed s).measurement.effectiveness = (effectivenessNow (judgeSeconds s)).or s.measurement.effectiveness
      ∧ (judgeClosed s).measurement.fresh = (effectivenessNow (judgeSeconds s)).isSome := by
  rw [(judgeClosed_cascade s).measurement]
  exact judgeAll_effectiveness s

theorem judgeClosed_live {s : State} (live : s.demand.runState ≠ .startup) : judgeClosed s = allTold s := by
  rw [judgeClosed_told, leaveStartup, if_neg (by rwa [allTold_runState])]

theorem judgeAll_outer (s : State) : OuterKept s (judgeAll s) ∧ ReportsOnly s (judgeAll s) := by
  rw [judgeAll_eq]
  exact ⟨⟨rfl, rfl, rfl, rfl, rfl, rfl⟩, ⟨rfl, rfl, fun _ => ⟨rfl, rfl, rfl, rfl⟩⟩⟩

/-- Settles O22: the channels by their states and bad samples, the frost guard by what it is told of T_OUT and T_EXH, the
capture by what the filter monitor is told, and the run state by the end of STARTUP. -/
theorem secondEndJudgesChannels : Obligations.SecondEndJudgesChannels := by
  unfold Obligations.SecondEndJudgesChannels
  refine ⟨fun s early => ?_, fun s powered closed => ?_⟩
  · have still := secondEnd_open s early
    cases powered : s.powered with
    | true => exact (exec_powered (f := secondEnd) powered rfl).trans (congrArg _ still)
    | false => exact whilePowered_off secondEnd s powered
  have outer := (judgeAll_outer s).1.trans (judgeClosed_cascade s).outer
  have reports := (judgeAll_outer s).2.trans (judgeClosed_cascade s).reportsOnly
  have samples : (judgeClosed s).measurement.samples = 0 := by
    rw [(judgeClosed_cascade s).measurement]
    exact (judgeAll_measurement s).2.1
  have run : exec .secondEnd s = .next (judgeClosed s) :=
    (exec_powered (f := secondEnd) powered rfl).trans (congrArg _ (secondEnd_closed closed))
  have values := judgeClosed_value s
  obtain ⟨effectiveness, fresh⟩ := judgeClosed_effectiveness s
  refine ⟨_, run, outer, reports, samples, fun ch => ?_, judgeClosed_sensorFailed s,
    fun tOut tSup tExt out sup ext quiet supply extract apart => ?_, fun broken => ?_, judgeClosed_quiet,
    judgeClosed_runState s, fun live => ?_⟩
  · have judged := judgeClosed_channel s ch
    dsimp only
    rw [judged]
    obtain ⟨sum, bad, injection, lastFault, shownFault, shownInjection⟩ := judgeSecond_empties (s.measurement.channels.get ch)
    obtain ⟨good, recovers, waits, suspects, goesOn, enters, stays⟩ := judgeSecond_judges (s.measurement.channels.get ch)
    refine ⟨sum, bad, injection, lastFault, shownFault, shownInjection, good, recovers, waits, suspects, goesOn,
      fun faults suspect many => ?_, stays⟩
    obtain ⟨failed, value, last, recovery⟩ := enters faults suspect many
    exact ⟨failed, value, last, recovery, (judgeClosed_sensorFailed s).mpr (.inr ⟨ch, by rw [judged, failed]⟩)⟩
  · rw [values] at out sup ext
    have now := effectivenessNow_some out sup ext ⟨quiet, supply, extract, apart⟩
    rw [effectiveness, fresh, now]
    exact ⟨rfl, rfl⟩
  · simp only [values] at broken
    rw [effectiveness, fresh, effectivenessNow_none broken]
    exact ⟨rfl, rfl⟩
  · dsimp only
    rw [values .tOut, values .tExh, judgeClosed_channels, judgeClosed_live live]
    refine ⟨allTold_loops s, allTold_blinds, allTold_sees, allTold_uncovers, allTold_resumes, allTold_steady, allTold_abort,
      allTold_kept, allTold_waiting s, fun out exh supply extract => ?_⟩
    have calm := allTold_calm out exh supply extract
    rw [calm, (secondReported_keeps s).2.2.2.2.2.2]
    exact secondReported_eq s

end Sys2Proof.Machine
end
